-- ==== Sys2Proof/Word.lean ====
section
/-! DEFINITION. The byte type of the link, the sparse table type, and the plainest arithmetic of the
spec's conventions (spec/00_scope.md, "Ranges": clamping and saturation). -/

namespace Sys2Proof

/-- One byte of the link (R198). -/
abbrev Byte := BitVec 8

/-- A numbered collection of records, held sparsely as (number, record) pairs. What an unlisted number
reads as is given at each use; `Sys2Proof/Machine/Ops.lean` keeps the one canonical form. -/
abbrev Table (α : Type) := List (Nat × α)

/-- The largest ship time, sequence number, card number and muster number (spec/00_scope.md). -/
def maxTime : Nat := 4294967295

/-- The largest amount: daily cap, day spend, credit limit, exposure (R1, R141). -/
def maxAmount : Nat := 16777215

/-- A setting said to be clamped takes the nearest end of its range (spec/00_scope.md, Conventions). -/
def clampTo (lo hi v : Nat) : Nat := max lo (min hi v)

/-- A counter said to saturate stays at its maximum (spec/00_scope.md, Conventions). -/
def satAdd (cap a b : Nat) : Nat := min cap (a + b)

end Sys2Proof
end

