-- ==== Sys2Proof/Syntax.lean ====
section
/-! DEFINITION. The commands of the block: one constructor of `Instr` per row of spec/opcode_table.json.
A request of the link carries its tag, its LENGTH byte and its fields as the numbers the frame carries
(R198, R208, R209); whether a number is in range is judged by the meaning that owns the request. -/

namespace Sys2Proof

/-- TAG and LENGTH of a received request frame (R198). -/
structure Hdr where
  tag : Nat
  len : Nat
  deriving DecidableEq, Repr

/-- The record of a CARD-LOAD as its bytes carry it (R16, R209). `grants` holds the two-byte grants. -/
structure CardRecord where
  card : Nat
  gen : Nat
  person : Nat
  folio : Nat
  cls : Nat
  drinkingAge : Bool
  chargeEnabled : Bool
  revoked : Bool
  cap : Nat
  validFrom : Nat
  validUntil : Nat
  dayStamp : Nat
  daySpend : Nat
  dayAlcohol : Nat
  grantCount : Nat
  grants : List Nat
  deriving DecidableEq, Repr

/-- The fields of PORTAL-SET as its bytes carry them (R41, R44). -/
structure PortalConfig where
  portal : Nat
  cls : Nat
  cabin : Nat
  zone : Nat
  direction : Nat
  station : Nat
  timingSet : Nat
  strikeRequired : Bool
  strict : Bool
  preset : Nat
  autoResume : Bool
  deriving DecidableEq, Repr

/-- The amounts and flags of AUTHORIZE (R118, R209). -/
structure ChargeAmounts where
  subtotal : Nat
  alcohol : Nat
  gratuityClass : Nat
  pinVerified : Bool
  staffOverride : Bool
  deriving DecidableEq, Repr

/-- The tariff rows of one card class: discount (bp), alcohol cap, and four tier boundaries (R133). -/
structure ClassRates where
  discount : Nat
  alcoholCap : Nat
  b1 : Nat
  b2 : Nat
  b3 : Nat
  b4 : Nat
  deriving DecidableEq, Repr

/-- A complete tariff: the gratuity of classes 0 to 7 and the rows of the five card classes (R133). -/
structure Tariff where
  gratuity : List Nat
  guest : ClassRates
  youth : ClassRates
  crew : ClassRates
  officer : ClassRates
  visitor : ClassRates
  deriving DecidableEq, Repr

/-- The two alarm lines (R96). -/
inductive AlarmLine where
  | ema
  | emb
  deriving DecidableEq, Repr

/-- The levels on BAUD1 and BAUD0; true is high (R206). -/
structure Straps where
  baud1 : Bool
  baud0 : Bool
  deriving DecidableEq, Repr

/-- The start-up self-check: which tests failed (R206). -/
structure SelfCheck where
  storageFailed : Bool
  crystalFailed : Bool
  deriving DecidableEq, Repr

/-- A RESTART as it is taken: its header, and the levels that stand on the baud straps as the warm reset it
asks for ends (R205, R206; log 9). -/
structure RestartRequest extends Hdr where
  straps : Straps
  deriving DecidableEq, Repr

/-- A WAY-QUERY: its header and the way it names (R11; log 39). -/
structure WayRequest extends Hdr where
  way : Nat
  deriving DecidableEq, Repr

/-- One constructor per row of spec/opcode_table.json, in the table's order. A command that is a reset carries the levels
that stand on the baud straps as it ends (R206; log 9). -/
inductive Instr where
  -- power and resets (R183, R184, R205, R206)
  | powerLoss
  | coldReset (check : SelfCheck) (straps : Straps)
  | storeScan
  | resetAsserted
  | warmReset (straps : Straps)
  -- the link's events (R199 to R203)
  | holdLineChange (high : Bool)
  | frameSent
  | byteGapTimeout (bytes : List Byte)
  | frameAbandoned (bytes : List Byte)
  | frameDiscarded
  | unknownKind (h : Hdr) (kind : Nat)
  -- LNK's requests (R204, R205)
  | ping (h : Hdr)
  | status (h : Hdr)
  | restart (h : RestartRequest)
  | linkQuery (h : Hdr)
  -- CTB (chapter 1)
  | cardLoad (h : Hdr) (r : CardRecord)
  | cardUnknown (h : Hdr) (card : Nat)
  | cardRevoke (h : Hdr) (card : Nat)
  | cardResident (h : Hdr) (card value : Nat)
  | cardQuery (h : Hdr) (form key : Nat)
  | flush (h : Hdr)
  | wayDisable (h : Hdr) (way : Nat)
  | wayRestore (h : Hdr) (way : Nat)
  | wayQuery (h : WayRequest)
  | fetchWaitSet (h : Hdr) (ms : Nat)
  | fetchExpiry (fetch : Nat)
  -- VCK (chapter 2)
  | secondCount
  | dayRollover
  | dayWriteRetry
  | timeSet (h : Hdr) (time : Nat)
  | rolloverSet (h : Hdr) (offset : Nat)
  | clockQuery (h : Hdr)
  -- PTU (chapter 3)
  | present (h : Hdr) (portal card gen : Nat)
  | portalSet (h : Hdr) (c : PortalConfig)
  | portalDisable (h : Hdr) (portal : Nat)
  | portalEnable (h : Hdr) (portal : Nat)
  | portalQuery (h : Hdr) (portal : Nat)
  | portalScan (h : Hdr)
  | contact (h : Hdr) (portal position : Nat)
  | strikeAck (h : Hdr) (portal : Nat)
  | remoteRelease (h : Hdr) (portal : Nat)
  | timingStage (h : Hdr) (set release heldOpen strike applyNow : Nat)
  | timingQuery (h : Hdr) (set : Nat)
  | releaseTimerExpiry (portal : Nat)
  | strikeConfirmExpiry (portal : Nat)
  | heldOpenExpiry (portal : Nat)
  -- PRL (chapter 4)
  | capacitySet (h : Hdr) (limit level hysteresis : Nat)
  | guardSet (h : Hdr) (seconds : Nat)
  | capacityAck (h : Hdr)
  | deadlineSet (h : Hdr) (deadline : Option Nat)
  | deadlineEvent
  | enrol (h : Hdr) (person kind state : Nat)
  | discharge (h : Hdr) (person : Nat)
  | presenceSet (h : Hdr) (person state : Nat)
  | presenceCounts (h : Hdr)
  | personQuery (h : Hdr) (person : Nat)
  | rollRead (h : Hdr) (start state kind : Nat)
  -- EMU (chapter 5)
  | alarmLineChange (line : AlarmLine) (high : Bool)
  | debounceExpiry (line : AlarmLine)
  | alarmSet (h : Hdr) (enableA enableB debounce startsMuster : Nat)
  | emergencyDeclare (h : Hdr) (value : Nat)
  | emergencyClear (h : Hdr)
  | resume (h : Hdr) (scope portal : Nat)
  | musterStart (h : Hdr)
  | musterEnd (h : Hdr)
  | musterWriteRetry
  | musterQuery (h : Hdr)
  | musterRead (h : Hdr) (start : Nat)
  | emergencyQuery (h : Hdr)
  -- PUR (chapters 6 and 7)
  | authorize (h : Hdr) (portal card gen : Nat) (a : ChargeAmounts)
  | commit (h : Hdr) (hold subtotal alcohol : Nat)
  | voidHold (h : Hdr) (hold : Nat)
  | holdExpiry (slot : Nat)
  | holdTimeSet (h : Hdr) (seconds : Nat)
  | holdQuery (h : Hdr) (slot : Nat)
  | holdScan (h : Hdr)
  | folioLoad (h : Hdr) (folio limit : Nat) (balance : Int) (state : Nat)
  | folioPost (h : Hdr) (folio : Nat) (balance : Int)
  | folioFreeze (h : Hdr) (folio : Nat)
  | folioOpen (h : Hdr) (folio : Nat)
  | folioClose (h : Hdr) (folio : Nat)
  | folioQuery (h : Hdr) (folio : Nat)
  | tariffStage (h : Hdr) (t : Tariff) (applyNow : Nat)
  | tariffDiscard (h : Hdr)
  | tariffQuery (h : Hdr) (which : Nat)
  -- JNL (chapter 8)
  | journalRead (h : Hdr) (start count : Nat)
  | settle (h : Hdr) (sequence : Nat)
  -- NVS (chapter 9)
  | storeQuery (h : Hdr)
  | storeWriteBegin
  | storeAttemptEnd (readBackMatches : Bool)
  -- FRC (chapter 10)
  | severitySet (h : Hdr) (kind severity : Nat)
  | faultRead (h : Hdr)
  | faultClear (h : Hdr)
  deriving DecidableEq, Repr

end Sys2Proof
end

