-- ==== Sys2Proof/WellFormed.lean ====
section
/-! DEFINITION. Which commands the link and the pins can deliver: every field fits the size R208 and R209
give it, the tag and LENGTH fit their bytes (R198), and an event names a record that exists. -/

namespace Sys2Proof

/-- Fits one, two, three and four bytes (R208). -/
def fits1 (v : Nat) : Bool := v < 256
def fits2 (v : Nat) : Bool := v < 65536
def fits3 (v : Nat) : Bool := v < 16777216
def fits4 (v : Nat) : Bool := v < 4294967296

/-- Fits three bytes of two's complement: the posted balance (R208). -/
def fitsBalance (v : Int) : Bool := -8388608 ≤ v && v ≤ 8388607

/-- TAG is a byte; LENGTH is 0 to 240 (R198). -/
def Hdr.ok (h : Hdr) : Bool := fits1 h.tag && h.len ≤ 240

/-- The LENGTH of a CARD-LOAD with `n` grants (R209). -/
def cardLoadLength (n : Nat) : Nat := 29 + 2 * n

def CardRecord.ok (r : CardRecord) : Bool :=
  fits4 r.card && fits1 r.gen && fits2 r.person && fits2 r.folio && fits1 r.cls && fits3 r.cap
    && fits4 r.validFrom && fits4 r.validUntil && fits2 r.dayStamp && fits3 r.daySpend && fits1 r.dayAlcohol
    && fits1 r.grantCount && r.grants.length = r.grantCount && r.grants.all fits2

def PortalConfig.ok (c : PortalConfig) : Bool :=
  fits1 c.portal && fits1 c.cls && fits2 c.cabin && fits1 c.zone && fits1 c.direction && fits1 c.station
    && fits1 c.timingSet && fits1 c.preset

def ClassRates.ok (r : ClassRates) : Bool :=
  fits2 r.discount && fits1 r.alcoholCap && fits3 r.b1 && fits3 r.b2 && fits3 r.b3 && fits3 r.b4

def Tariff.ok (t : Tariff) : Bool :=
  t.gratuity.length = 8 && t.gratuity.all fits2 && t.guest.ok && t.youth.ok && t.crew.ok && t.officer.ok && t.visitor.ok

def ChargeAmounts.ok (a : ChargeAmounts) : Bool := fits3 a.subtotal && fits1 a.alcohol && fits1 a.gratuityClass

/-- KIND is one of the request kinds of R207. -/
def isRequestKind (k : Nat) : Bool :=
  (1 ≤ k && k ≤ 0x04) || (0x10 ≤ k && k ≤ 0x19) || (0x20 ≤ k && k ≤ 0x22) || (0x28 ≤ k && k ≤ 0x32)
    || (0x38 ≤ k && k ≤ 0x41) || (0x48 ≤ k && k ≤ 0x50) || (0x58 ≤ k && k ≤ 0x66) || k = 0x70 || k = 0x71
    || k = 0x74 || (0x78 ≤ k && k ≤ 0x7A)

/-- The command is one the link or the pins can deliver. -/
def WellFormed : Instr → Bool
  | .powerLoss => true
  | .coldReset _ _ => true
  | .storeScan => true
  | .resetAsserted => true
  | .warmReset _ => true
  | .holdLineChange _ => true
  | .frameSent => true
  | .byteGapTimeout bytes => bytes.length ≤ 244
  | .frameAbandoned bytes => bytes.length ≤ 244
  | .frameDiscarded => true
  | .unknownKind h kind => h.ok && fits1 kind && !isRequestKind kind
  | .ping h => h.ok
  | .status h => h.ok
  | .restart h => h.toHdr.ok
  | .linkQuery h => h.ok
  | .cardLoad h r => h.ok && r.ok
  | .cardUnknown h card => h.ok && fits4 card
  | .cardRevoke h card => h.ok && fits4 card
  | .cardResident h card value => h.ok && fits4 card && fits1 value
  | .cardQuery h form key => h.ok && fits1 form && fits4 key
  | .flush h => h.ok
  | .wayDisable h way => h.ok && fits1 way
  | .wayRestore h way => h.ok && fits1 way
  | .wayQuery h => h.toHdr.ok && fits1 h.way
  | .fetchWaitSet h ms => h.ok && fits2 ms
  | .fetchExpiry fetch => fetch < 16
  | .secondCount => true
  | .dayRollover => true
  | .dayWriteRetry => true
  | .timeSet h time => h.ok && fits4 time
  | .rolloverSet h offset => h.ok && fits4 offset
  | .clockQuery h => h.ok
  | .present h portal card gen => h.ok && fits1 portal && fits4 card && fits1 gen
  | .portalSet h c => h.ok && c.ok
  | .portalDisable h portal => h.ok && fits1 portal
  | .portalEnable h portal => h.ok && fits1 portal
  | .portalQuery h portal => h.ok && fits1 portal
  | .portalScan h => h.ok
  | .contact h portal position => h.ok && fits1 portal && fits1 position
  | .strikeAck h portal => h.ok && fits1 portal
  | .remoteRelease h portal => h.ok && fits1 portal
  | .timingStage h set release heldOpen strike applyNow =>
    h.ok && fits1 set && fits4 release && fits4 heldOpen && fits2 strike && fits1 applyNow
  | .timingQuery h set => h.ok && fits1 set
  | .releaseTimerExpiry portal => fits1 portal
  | .strikeConfirmExpiry portal => fits1 portal
  | .heldOpenExpiry portal => fits1 portal
  | .capacitySet h limit level hysteresis => h.ok && fits2 limit && fits2 level && fits1 hysteresis
  | .guardSet h seconds => h.ok && fits4 seconds
  | .capacityAck h => h.ok
  | .deadlineSet h deadline => h.ok && deadline.all fits4
  | .deadlineEvent => true
  | .enrol h person kind state => h.ok && fits2 person && fits1 kind && fits1 state
  | .discharge h person => h.ok && fits2 person
  | .presenceSet h person state => h.ok && fits2 person && fits1 state
  | .presenceCounts h => h.ok
  | .personQuery h person => h.ok && fits2 person
  | .rollRead h start state kind => h.ok && fits2 start && fits1 state && fits1 kind
  | .alarmLineChange _ _ => true
  | .debounceExpiry _ => true
  | .alarmSet h enableA enableB debounce startsMuster =>
    h.ok && fits1 enableA && fits1 enableB && fits2 debounce && fits1 startsMuster
  | .emergencyDeclare h value => h.ok && fits1 value
  | .emergencyClear h => h.ok
  | .resume h scope portal => h.ok && fits1 scope && fits1 portal
  | .musterStart h => h.ok
  | .musterEnd h => h.ok
  | .musterWriteRetry => true
  | .musterQuery h => h.ok
  | .musterRead h start => h.ok && fits2 start
  | .emergencyQuery h => h.ok
  | .authorize h portal card gen a => h.ok && fits1 portal && fits4 card && fits1 gen && a.ok
  | .commit h hold subtotal alcohol => h.ok && fits1 hold && fits3 subtotal && fits1 alcohol
  | .voidHold h hold => h.ok && fits1 hold
  | .holdExpiry slot => slot < 32
  | .holdTimeSet h seconds => h.ok && fits4 seconds
  | .holdQuery h slot => h.ok && fits1 slot
  | .holdScan h => h.ok
  | .folioLoad h folio limit balance state => h.ok && fits2 folio && fits3 limit && fitsBalance balance && fits1 state
  | .folioPost h folio balance => h.ok && fits2 folio && fitsBalance balance
  | .folioFreeze h folio => h.ok && fits2 folio
  | .folioOpen h folio => h.ok && fits2 folio
  | .folioClose h folio => h.ok && fits2 folio
  | .folioQuery h folio => h.ok && fits2 folio
  | .tariffStage h t applyNow => h.ok && t.ok && fits1 applyNow
  | .tariffDiscard h => h.ok
  | .tariffQuery h which => h.ok && fits1 which
  | .journalRead h start count => h.ok && fits4 start && fits1 count
  | .settle h sequence => h.ok && fits4 sequence
  | .storeQuery h => h.ok
  | .storeWriteBegin => true
  | .storeAttemptEnd _ => true
  | .severitySet h kind severity => h.ok && fits1 kind && fits1 severity
  | .faultRead h => h.ok
  | .faultClear h => h.ok

end Sys2Proof
end

