-- ==== Sys2Proof/Decode.lean ====
section
/-! DEFINITION. The frame layout of the link (R198, R199), the KIND bytes (R207), the required lengths and the
request bodies (R208, R209): `decodeFrame` reads the bytes that follow SYNC, total on any bytes, and
`encodeFrame` writes them. The opcode table gives no row any bits, so `decodeTableWord` answers none. -/

namespace Sys2Proof

/-! ## KIND bytes (R207) -/

def Kind.ping : Nat := 0x01
def Kind.status : Nat := 0x02
def Kind.restart : Nat := 0x03
def Kind.linkQuery : Nat := 0x04
def Kind.cardLoad : Nat := 0x10
def Kind.cardUnknown : Nat := 0x11
def Kind.cardRevoke : Nat := 0x12
def Kind.cardResident : Nat := 0x13
def Kind.cardQuery : Nat := 0x14
def Kind.flush : Nat := 0x15
def Kind.wayDisable : Nat := 0x16
def Kind.wayRestore : Nat := 0x17
def Kind.wayQuery : Nat := 0x18
def Kind.fetchWaitSet : Nat := 0x19
def Kind.timeSet : Nat := 0x20
def Kind.rolloverSet : Nat := 0x21
def Kind.clockQuery : Nat := 0x22
def Kind.present : Nat := 0x28
def Kind.portalSet : Nat := 0x29
def Kind.portalDisable : Nat := 0x2A
def Kind.portalEnable : Nat := 0x2B
def Kind.portalQuery : Nat := 0x2C
def Kind.portalScan : Nat := 0x2D
def Kind.contact : Nat := 0x2E
def Kind.strikeAck : Nat := 0x2F
def Kind.remoteRelease : Nat := 0x30
def Kind.timingStage : Nat := 0x31
def Kind.timingQuery : Nat := 0x32
def Kind.capacitySet : Nat := 0x38
def Kind.guardSet : Nat := 0x39
def Kind.capacityAck : Nat := 0x3A
def Kind.deadlineSet : Nat := 0x3B
def Kind.enrol : Nat := 0x3C
def Kind.discharge : Nat := 0x3D
def Kind.presenceSet : Nat := 0x3E
def Kind.presenceCounts : Nat := 0x3F
def Kind.personQuery : Nat := 0x40
def Kind.rollRead : Nat := 0x41
def Kind.alarmSet : Nat := 0x48
def Kind.emergencyDeclare : Nat := 0x49
def Kind.emergencyClear : Nat := 0x4A
def Kind.resume : Nat := 0x4B
def Kind.musterStart : Nat := 0x4C
def Kind.musterEnd : Nat := 0x4D
def Kind.musterQuery : Nat := 0x4E
def Kind.musterRead : Nat := 0x4F
def Kind.emergencyQuery : Nat := 0x50
def Kind.authorize : Nat := 0x58
def Kind.commit : Nat := 0x59
def Kind.voidHold : Nat := 0x5A
def Kind.holdTimeSet : Nat := 0x5B
def Kind.holdQuery : Nat := 0x5C
def Kind.holdScan : Nat := 0x5D
def Kind.folioLoad : Nat := 0x5E
def Kind.folioPost : Nat := 0x5F
def Kind.folioFreeze : Nat := 0x60
def Kind.folioOpen : Nat := 0x61
def Kind.folioClose : Nat := 0x62
def Kind.folioQuery : Nat := 0x63
def Kind.tariffStage : Nat := 0x64
def Kind.tariffDiscard : Nat := 0x65
def Kind.tariffQuery : Nat := 0x66
def Kind.journalRead : Nat := 0x70
def Kind.settle : Nat := 0x71
def Kind.storeQuery : Nat := 0x74
def Kind.severitySet : Nat := 0x78
def Kind.faultRead : Nat := 0x79
def Kind.faultClear : Nat := 0x7A

/-! ## Numbers on the link (R208: most significant byte first) -/

/-- `n` in `w` bytes, most significant first. -/
def be : Nat → Nat → List Byte
  | 0, _ => []
  | w + 1, n => be w (n / 256) ++ [BitVec.ofNat 8 n]

/-- The number carried by bytes, most significant first. -/
def ofBe (b : List Byte) : Nat := b.foldl (fun n x => n * 256 + x.toNat) 0

/-- The number at byte `i` of a body, `w` bytes wide; a byte the body lacks reads 0. -/
def num (b : List Byte) (i w : Nat) : Nat := ofBe (((b.drop i).take w) ++ List.replicate (w - ((b.drop i).take w).length) 0)

/-- Three bytes of two's complement as a signed number, and back (R208: the posted balance). -/
def signed3 (n : Nat) : Int := if n < 8388608 then (n : Int) else (n : Int) - 16777216
def twos3 (v : Int) : List Byte := be 3 (v % 16777216).toNat

/-- A yes/no byte: 1 is yes; every other value is read as no. DESIGN CHOICE (log 14), unsafe: R208 gives
only 0 and 1. -/
def yes (n : Nat) : Bool := n == 1
def yesByte (v : Bool) : List Byte := [if v then 1 else 0]

/-- Bit `i` of a flags byte (R209). -/
def flag (n i : Nat) : Bool := n.testBit i

/-! ## Bodies with a layout of their own (R209), and those that R208 lays out field by field -/

def CardRecord.ofBytes (b : List Byte) : CardRecord :=
  let n := num b 28 1
  { card := num b 0 4, gen := num b 4 1, person := num b 5 2, folio := num b 7 2, cls := num b 9 1,
    drinkingAge := flag (num b 10 1) 0, chargeEnabled := flag (num b 10 1) 1, revoked := flag (num b 10 1) 2,
    cap := num b 11 3, validFrom := num b 14 4, validUntil := num b 18 4, dayStamp := num b 22 2,
    daySpend := num b 24 3, dayAlcohol := num b 27 1, grantCount := n,
    grants := (List.range n).map fun i => num b (29 + 2 * i) 2 }

/-- A flags byte from its bits, bit 0 first. -/
def flagsByte (bits : List Bool) : Nat := bits.foldr (fun b n => (if b then 1 else 0) + 2 * n) 0

def CardRecord.bytes (r : CardRecord) : List Byte :=
  be 4 r.card ++ be 1 r.gen ++ be 2 r.person ++ be 2 r.folio ++ be 1 r.cls
    ++ be 1 (flagsByte [r.drinkingAge, r.chargeEnabled, r.revoked]) ++ be 3 r.cap ++ be 4 r.validFrom
    ++ be 4 r.validUntil ++ be 2 r.dayStamp ++ be 3 r.daySpend ++ be 1 r.dayAlcohol ++ be 1 r.grantCount
    ++ r.grants.flatMap (be 2)

/-- PORTAL-SET: the fields of R41 in its order, each at its size. DESIGN CHOICE (log 13), unsafe: R208 gives
no size for the cabin number (two bytes here) and none for the zone (one). -/
def PortalConfig.ofBytes (b : List Byte) : PortalConfig :=
  { portal := num b 0 1, cls := num b 1 1, cabin := num b 2 2, zone := num b 4 1, direction := num b 5 1,
    station := num b 6 1, timingSet := num b 7 1, strikeRequired := yes (num b 8 1), strict := yes (num b 9 1),
    preset := num b 10 1, autoResume := yes (num b 11 1) }

def PortalConfig.bytes (c : PortalConfig) : List Byte :=
  be 1 c.portal ++ be 1 c.cls ++ be 2 c.cabin ++ be 1 c.zone ++ be 1 c.direction ++ be 1 c.station ++ be 1 c.timingSet
    ++ yesByte c.strikeRequired ++ yesByte c.strict ++ be 1 c.preset ++ yesByte c.autoResume

/-- Bytes 6 to 11 of AUTHORIZE (R209). -/
def ChargeAmounts.ofBytes (b : List Byte) : ChargeAmounts :=
  { subtotal := num b 0 3, alcohol := num b 3 1, gratuityClass := num b 4 1, pinVerified := flag (num b 5 1) 0,
    staffOverride := flag (num b 5 1) 1 }

def ChargeAmounts.bytes (a : ChargeAmounts) : List Byte :=
  be 3 a.subtotal ++ be 1 a.alcohol ++ be 1 a.gratuityClass ++ be 1 (flagsByte [a.pinVerified, a.staffOverride])

/-- A ship time that may be none: a presence byte, then four bytes (R208). A presence byte other than 1 is
read as none: DESIGN CHOICE (log 14), unsafe. -/
def deadlineOf (b : List Byte) : Option Nat := if yes (num b 0 1) then some (num b 1 4) else none
def deadlineBytes : Option Nat → List Byte
  | none => [0, 0, 0, 0, 0]
  | some t => 1 :: be 4 t

/-- The tariff's four tables in R133's order: gratuity, discount, alcohol cap, tier boundaries. -/
def Tariff.ofBytes (b : List Byte) : Tariff :=
  let row (c : Nat) : ClassRates :=
    { discount := num b (16 + 2 * c) 2, alcoholCap := num b (26 + c) 1, b1 := num b (31 + 12 * c) 3,
      b2 := num b (34 + 12 * c) 3, b3 := num b (37 + 12 * c) 3, b4 := num b (40 + 12 * c) 3 }
  { gratuity := (List.range 8).map fun i => num b (2 * i) 2, guest := row 0, youth := row 1, crew := row 2,
    officer := row 3, visitor := row 4 }

def Tariff.rows (t : Tariff) : List ClassRates := [t.guest, t.youth, t.crew, t.officer, t.visitor]

def Tariff.bytes (t : Tariff) : List Byte :=
  t.gratuity.flatMap (be 2) ++ t.rows.flatMap (fun r => be 2 r.discount) ++ t.rows.flatMap (fun r => be 1 r.alcoholCap)
    ++ t.rows.flatMap (fun r => be 3 r.b1 ++ be 3 r.b2 ++ be 3 r.b3 ++ be 3 r.b4)

/-! ## Requests: their kind, tag, length and body -/

/-- KIND and header of a request, none for an event that is no frame (R207). -/
def Instr.request? : Instr → Option (Nat × Hdr)
  | .unknownKind h kind => some (kind, h)
  | .ping h => some (Kind.ping, h)
  | .status h => some (Kind.status, h)
  | .restart h => some (Kind.restart, h.toHdr)
  | .linkQuery h => some (Kind.linkQuery, h)
  | .cardLoad h _ => some (Kind.cardLoad, h)
  | .cardUnknown h _ => some (Kind.cardUnknown, h)
  | .cardRevoke h _ => some (Kind.cardRevoke, h)
  | .cardResident h _ _ => some (Kind.cardResident, h)
  | .cardQuery h _ _ => some (Kind.cardQuery, h)
  | .flush h => some (Kind.flush, h)
  | .wayDisable h _ => some (Kind.wayDisable, h)
  | .wayRestore h _ => some (Kind.wayRestore, h)
  | .wayQuery h => some (Kind.wayQuery, h.toHdr)
  | .fetchWaitSet h _ => some (Kind.fetchWaitSet, h)
  | .timeSet h _ => some (Kind.timeSet, h)
  | .rolloverSet h _ => some (Kind.rolloverSet, h)
  | .clockQuery h => some (Kind.clockQuery, h)
  | .present h _ _ _ => some (Kind.present, h)
  | .portalSet h _ => some (Kind.portalSet, h)
  | .portalDisable h _ => some (Kind.portalDisable, h)
  | .portalEnable h _ => some (Kind.portalEnable, h)
  | .portalQuery h _ => some (Kind.portalQuery, h)
  | .portalScan h => some (Kind.portalScan, h)
  | .contact h _ _ => some (Kind.contact, h)
  | .strikeAck h _ => some (Kind.strikeAck, h)
  | .remoteRelease h _ => some (Kind.remoteRelease, h)
  | .timingStage h _ _ _ _ _ => some (Kind.timingStage, h)
  | .timingQuery h _ => some (Kind.timingQuery, h)
  | .capacitySet h _ _ _ => some (Kind.capacitySet, h)
  | .guardSet h _ => some (Kind.guardSet, h)
  | .capacityAck h => some (Kind.capacityAck, h)
  | .deadlineSet h _ => some (Kind.deadlineSet, h)
  | .enrol h _ _ _ => some (Kind.enrol, h)
  | .discharge h _ => some (Kind.discharge, h)
  | .presenceSet h _ _ => some (Kind.presenceSet, h)
  | .presenceCounts h => some (Kind.presenceCounts, h)
  | .personQuery h _ => some (Kind.personQuery, h)
  | .rollRead h _ _ _ => some (Kind.rollRead, h)
  | .alarmSet h _ _ _ _ => some (Kind.alarmSet, h)
  | .emergencyDeclare h _ => some (Kind.emergencyDeclare, h)
  | .emergencyClear h => some (Kind.emergencyClear, h)
  | .resume h _ _ => some (Kind.resume, h)
  | .musterStart h => some (Kind.musterStart, h)
  | .musterEnd h => some (Kind.musterEnd, h)
  | .musterQuery h => some (Kind.musterQuery, h)
  | .musterRead h _ => some (Kind.musterRead, h)
  | .emergencyQuery h => some (Kind.emergencyQuery, h)
  | .authorize h _ _ _ _ => some (Kind.authorize, h)
  | .commit h _ _ _ => some (Kind.commit, h)
  | .voidHold h _ => some (Kind.voidHold, h)
  | .holdTimeSet h _ => some (Kind.holdTimeSet, h)
  | .holdQuery h _ => some (Kind.holdQuery, h)
  | .holdScan h => some (Kind.holdScan, h)
  | .folioLoad h _ _ _ _ => some (Kind.folioLoad, h)
  | .folioPost h _ _ => some (Kind.folioPost, h)
  | .folioFreeze h _ => some (Kind.folioFreeze, h)
  | .folioOpen h _ => some (Kind.folioOpen, h)
  | .folioClose h _ => some (Kind.folioClose, h)
  | .folioQuery h _ => some (Kind.folioQuery, h)
  | .tariffStage h _ _ => some (Kind.tariffStage, h)
  | .tariffDiscard h => some (Kind.tariffDiscard, h)
  | .tariffQuery h _ => some (Kind.tariffQuery, h)
  | .journalRead h _ _ => some (Kind.journalRead, h)
  | .settle h _ => some (Kind.settle, h)
  | .storeQuery h => some (Kind.storeQuery, h)
  | .severitySet h _ _ => some (Kind.severitySet, h)
  | .faultRead h => some (Kind.faultRead, h)
  | .faultClear h => some (Kind.faultClear, h)
  | .powerLoss | .coldReset _ _ | .storeScan | .resetAsserted | .warmReset _ | .holdLineChange _ | .frameSent
  | .byteGapTimeout _ | .frameAbandoned _ | .frameDiscarded | .fetchExpiry _ | .secondCount | .dayRollover
  | .dayWriteRetry | .releaseTimerExpiry _ | .strikeConfirmExpiry _ | .heldOpenExpiry _ | .deadlineEvent
  | .alarmLineChange _ _ | .debounceExpiry _ | .musterWriteRetry | .holdExpiry _ | .storeWriteBegin
  | .storeAttemptEnd _ => none

/-- The LENGTH a request's kind requires (R208, R209); 0 where the command is no request. WAY-QUERY names a way as R11's
other two requests do, and its way is judged, though its reply gives all four: DEDUCED (log 39), unsafe. -/
def Instr.required : Instr → Nat
  | .ping _ => 0
  | .status _ => 0
  | .restart _ => 0
  | .linkQuery _ => 0
  | .cardLoad _ r => cardLoadLength r.grantCount
  | .cardUnknown _ _ => 4
  | .cardRevoke _ _ => 4
  | .cardResident _ _ _ => 5
  | .cardQuery _ _ _ => 5
  | .flush _ => 0
  | .wayDisable _ _ => 1
  | .wayRestore _ _ => 1
  | .wayQuery _ => 1
  | .fetchWaitSet _ _ => 2
  | .timeSet _ _ => 4
  | .rolloverSet _ _ => 4
  | .clockQuery _ => 0
  | .present _ _ _ _ => 6
  | .portalSet _ _ => 12
  | .portalDisable _ _ => 1
  | .portalEnable _ _ => 1
  | .portalQuery _ _ => 1
  | .portalScan _ => 0
  | .contact _ _ _ => 2
  | .strikeAck _ _ => 1
  | .remoteRelease _ _ => 1
  | .timingStage _ _ _ _ _ _ => 12
  | .timingQuery _ _ => 1
  | .capacitySet _ _ _ _ => 5
  | .guardSet _ _ => 4
  | .capacityAck _ => 0
  | .deadlineSet _ _ => 5
  | .enrol _ _ _ _ => 4
  | .discharge _ _ => 2
  | .presenceSet _ _ _ => 3
  | .presenceCounts _ => 0
  | .personQuery _ _ => 2
  | .rollRead _ _ _ _ => 4
  | .alarmSet _ _ _ _ _ => 5
  | .emergencyDeclare _ _ => 1
  | .emergencyClear _ => 0
  | .resume _ _ _ => 2
  | .musterStart _ => 0
  | .musterEnd _ => 0
  | .musterQuery _ => 0
  | .musterRead _ _ => 2
  | .emergencyQuery _ => 0
  | .authorize _ _ _ _ _ => 12
  | .commit _ _ _ _ => 5
  | .voidHold _ _ => 1
  | .holdTimeSet _ _ => 4
  | .holdQuery _ _ => 1
  | .holdScan _ => 0
  | .folioLoad _ _ _ _ _ => 9
  | .folioPost _ _ _ => 5
  | .folioFreeze _ _ => 2
  | .folioOpen _ _ => 2
  | .folioClose _ _ => 2
  | .folioQuery _ _ => 2
  | .tariffStage _ _ _ => 92
  | .tariffDiscard _ => 0
  | .tariffQuery _ _ => 1
  | .journalRead _ _ _ => 5
  | .settle _ _ => 4
  | .storeQuery _ => 0
  | .severitySet _ _ _ => 2
  | .faultRead _ => 0
  | .faultClear _ => 0
  | .powerLoss | .coldReset _ _ | .storeScan | .resetAsserted | .warmReset _ | .holdLineChange _ | .frameSent
  | .byteGapTimeout _ | .frameAbandoned _ | .frameDiscarded | .unknownKind _ _ | .fetchExpiry _ | .secondCount
  | .dayRollover | .dayWriteRetry | .releaseTimerExpiry _ | .strikeConfirmExpiry _ | .heldOpenExpiry _
  | .deadlineEvent | .alarmLineChange _ _ | .debounceExpiry _ | .musterWriteRetry | .holdExpiry _
  | .storeWriteBegin | .storeAttemptEnd _ => 0

/-- The body of a request (R208, R209), empty where the command is no request. -/
def Instr.body : Instr → List Byte
  | .ping _ => []
  | .status _ => []
  | .restart _ => []
  | .linkQuery _ => []
  | .cardLoad _ r => r.bytes
  | .cardUnknown _ card => be 4 card
  | .cardRevoke _ card => be 4 card
  | .cardResident _ card value => be 4 card ++ be 1 value
  | .cardQuery _ form key => be 1 form ++ be 4 key
  | .flush _ => []
  | .wayDisable _ way => be 1 way
  | .wayRestore _ way => be 1 way
  | .wayQuery h => be 1 h.way
  | .fetchWaitSet _ ms => be 2 ms
  | .timeSet _ time => be 4 time
  | .rolloverSet _ offset => be 4 offset
  | .clockQuery _ => []
  | .present _ portal card gen => be 1 portal ++ be 4 card ++ be 1 gen
  | .portalSet _ c => c.bytes
  | .portalDisable _ portal => be 1 portal
  | .portalEnable _ portal => be 1 portal
  | .portalQuery _ portal => be 1 portal
  | .portalScan _ => []
  | .contact _ portal position => be 1 portal ++ be 1 position
  | .strikeAck _ portal => be 1 portal
  | .remoteRelease _ portal => be 1 portal
  | .timingStage _ set release heldOpen strike applyNow => be 1 set ++ be 4 release ++ be 4 heldOpen ++ be 2 strike ++ be 1 applyNow
  | .timingQuery _ set => be 1 set
  | .capacitySet _ limit level hysteresis => be 2 limit ++ be 2 level ++ be 1 hysteresis
  | .guardSet _ seconds => be 4 seconds
  | .capacityAck _ => []
  | .deadlineSet _ deadline => deadlineBytes deadline
  | .enrol _ person kind state => be 2 person ++ be 1 kind ++ be 1 state
  | .discharge _ person => be 2 person
  | .presenceSet _ person state => be 2 person ++ be 1 state
  | .presenceCounts _ => []
  | .personQuery _ person => be 2 person
  | .rollRead _ start state kind => be 2 start ++ be 1 state ++ be 1 kind
  | .alarmSet _ enableA enableB debounce startsMuster => be 1 enableA ++ be 1 enableB ++ be 2 debounce ++ be 1 startsMuster
  | .emergencyDeclare _ value => be 1 value
  | .emergencyClear _ => []
  | .resume _ scope portal => be 1 scope ++ be 1 portal
  | .musterStart _ => []
  | .musterEnd _ => []
  | .musterQuery _ => []
  | .musterRead _ start => be 2 start
  | .emergencyQuery _ => []
  | .authorize _ portal card gen a => be 1 portal ++ be 4 card ++ be 1 gen ++ a.bytes
  | .commit _ hold subtotal alcohol => be 1 hold ++ be 3 subtotal ++ be 1 alcohol
  | .voidHold _ hold => be 1 hold
  | .holdTimeSet _ seconds => be 4 seconds
  | .holdQuery _ slot => be 1 slot
  | .holdScan _ => []
  | .folioLoad _ folio limit balance state => be 2 folio ++ be 3 limit ++ twos3 balance ++ be 1 state
  | .folioPost _ folio balance => be 2 folio ++ twos3 balance
  | .folioFreeze _ folio => be 2 folio
  | .folioOpen _ folio => be 2 folio
  | .folioClose _ folio => be 2 folio
  | .folioQuery _ folio => be 2 folio
  | .tariffStage _ t applyNow => t.bytes ++ be 1 applyNow
  | .tariffDiscard _ => []
  | .tariffQuery _ which => be 1 which
  | .journalRead _ start count => be 4 start ++ be 1 count
  | .settle _ sequence => be 4 sequence
  | .storeQuery _ => []
  | .severitySet _ kind severity => be 1 kind ++ be 1 severity
  | .faultRead _ => []
  | .faultClear _ => []
  | .powerLoss | .coldReset _ _ | .storeScan | .resetAsserted | .warmReset _ | .holdLineChange _ | .frameSent
  | .byteGapTimeout _ | .frameAbandoned _ | .frameDiscarded | .unknownKind _ _ | .fetchExpiry _ | .secondCount
  | .dayRollover | .dayWriteRetry | .releaseTimerExpiry _ | .strikeConfirmExpiry _ | .heldOpenExpiry _
  | .deadlineEvent | .alarmLineChange _ _ | .debounceExpiry _ | .musterWriteRetry | .holdExpiry _
  | .storeWriteBegin | .storeAttemptEnd _ => []

/-- The request that a frame of this kind, header and body carries (R207 to R209). The fields of a body whose
length is not the required one have no meaning (R200 step 6), and bytes it lacks read 0. A RESTART takes the levels on the
baud straps, which no frame carries (R206). -/
def decodeBody (straps : Straps) (kind : Nat) (h : Hdr) (b : List Byte) : Instr :=
  match kind with
  | 0x01 => .ping h
  | 0x02 => .status h
  | 0x03 => .restart ⟨h, straps⟩
  | 0x04 => .linkQuery h
  | 0x10 => .cardLoad h (CardRecord.ofBytes b)
  | 0x11 => .cardUnknown h (num b 0 4)
  | 0x12 => .cardRevoke h (num b 0 4)
  | 0x13 => .cardResident h (num b 0 4) (num b 4 1)
  | 0x14 => .cardQuery h (num b 0 1) (num b 1 4)
  | 0x15 => .flush h
  | 0x16 => .wayDisable h (num b 0 1)
  | 0x17 => .wayRestore h (num b 0 1)
  | 0x18 => .wayQuery ⟨h, num b 0 1⟩
  | 0x19 => .fetchWaitSet h (num b 0 2)
  | 0x20 => .timeSet h (num b 0 4)
  | 0x21 => .rolloverSet h (num b 0 4)
  | 0x22 => .clockQuery h
  | 0x28 => .present h (num b 0 1) (num b 1 4) (num b 5 1)
  | 0x29 => .portalSet h (PortalConfig.ofBytes b)
  | 0x2A => .portalDisable h (num b 0 1)
  | 0x2B => .portalEnable h (num b 0 1)
  | 0x2C => .portalQuery h (num b 0 1)
  | 0x2D => .portalScan h
  | 0x2E => .contact h (num b 0 1) (num b 1 1)
  | 0x2F => .strikeAck h (num b 0 1)
  | 0x30 => .remoteRelease h (num b 0 1)
  | 0x31 => .timingStage h (num b 0 1) (num b 1 4) (num b 5 4) (num b 9 2) (num b 11 1)
  | 0x32 => .timingQuery h (num b 0 1)
  | 0x38 => .capacitySet h (num b 0 2) (num b 2 2) (num b 4 1)
  | 0x39 => .guardSet h (num b 0 4)
  | 0x3A => .capacityAck h
  | 0x3B => .deadlineSet h (deadlineOf b)
  | 0x3C => .enrol h (num b 0 2) (num b 2 1) (num b 3 1)
  | 0x3D => .discharge h (num b 0 2)
  | 0x3E => .presenceSet h (num b 0 2) (num b 2 1)
  | 0x3F => .presenceCounts h
  | 0x40 => .personQuery h (num b 0 2)
  | 0x41 => .rollRead h (num b 0 2) (num b 2 1) (num b 3 1)
  | 0x48 => .alarmSet h (num b 0 1) (num b 1 1) (num b 2 2) (num b 4 1)
  | 0x49 => .emergencyDeclare h (num b 0 1)
  | 0x4A => .emergencyClear h
  | 0x4B => .resume h (num b 0 1) (num b 1 1)
  | 0x4C => .musterStart h
  | 0x4D => .musterEnd h
  | 0x4E => .musterQuery h
  | 0x4F => .musterRead h (num b 0 2)
  | 0x50 => .emergencyQuery h
  | 0x58 => .authorize h (num b 0 1) (num b 1 4) (num b 5 1) (ChargeAmounts.ofBytes (b.drop 6))
  | 0x59 => .commit h (num b 0 1) (num b 1 3) (num b 4 1)
  | 0x5A => .voidHold h (num b 0 1)
  | 0x5B => .holdTimeSet h (num b 0 4)
  | 0x5C => .holdQuery h (num b 0 1)
  | 0x5D => .holdScan h
  | 0x5E => .folioLoad h (num b 0 2) (num b 2 3) (signed3 (num b 5 3)) (num b 8 1)
  | 0x5F => .folioPost h (num b 0 2) (signed3 (num b 2 3))
  | 0x60 => .folioFreeze h (num b 0 2)
  | 0x61 => .folioOpen h (num b 0 2)
  | 0x62 => .folioClose h (num b 0 2)
  | 0x63 => .folioQuery h (num b 0 2)
  | 0x64 => .tariffStage h (Tariff.ofBytes b) (num b 91 1)
  | 0x65 => .tariffDiscard h
  | 0x66 => .tariffQuery h (num b 0 1)
  | 0x70 => .journalRead h (num b 0 4) (num b 4 1)
  | 0x71 => .settle h (num b 0 4)
  | 0x74 => .storeQuery h
  | 0x78 => .severitySet h (num b 0 1) (num b 1 1)
  | 0x79 => .faultRead h
  | 0x7A => .faultClear h
  | k => .unknownKind h k

/-! ## Frames (R198, R199) -/

/-- One bit of the CRC: generator x^16 + x^12 + x^5 + 1, most significant bit first. -/
def crcBit (r : BitVec 16) (b : Bool) : BitVec 16 :=
  if r.msb != b then (r <<< 1) ^^^ 0x1021#16 else r <<< 1

def crcByte (r : BitVec 16) (x : Byte) : BitVec 16 :=
  [7, 6, 5, 4, 3, 2, 1, 0].foldl (fun r i => crcBit r (x.getLsbD i)) r

/-- The CHECK of the bytes LENGTH to BODY: the register starts at all ones, no final inversion (R198). -/
def crc (bytes : List Byte) : BitVec 16 := bytes.foldl crcByte 0xFFFF#16

/-- The bytes of a frame after SYNC: LENGTH, KIND, TAG, BODY, CHECK (high byte first). -/
def frameBytes (kind tag : Nat) (body : List Byte) : List Byte :=
  let head := be 1 body.length ++ be 1 kind ++ be 1 tag ++ body
  head ++ be 2 (crc head).toNat

/-- Why a run of bytes is no whole frame yet. -/
inductive FrameError where
  /-- Bytes are missing: the assembler is still collecting (R199). Safe: no command is delivered. -/
  | incomplete
  deriving DecidableEq, Repr

/-- The command that the bytes after SYNC deliver (R199, R200): an abandoned frame for a LENGTH above 240, a
discarded frame for a CHECK that disagrees, otherwise the request its KIND names. -/
def decodeFrame (straps : Straps) (bytes : List Byte) : Except FrameError Instr :=
  match bytes with
  | [] => .error .incomplete
  | len :: rest =>
    if 240 < len.toNat then .ok (.frameAbandoned [len])
    else match rest with
      | kind :: tag :: more =>
        if more.length < len.toNat + 2 then .error .incomplete
        else if ofBe ((more.drop len.toNat).take 2) = (crc (len :: kind :: tag :: more.take len.toNat)).toNat then
          .ok (decodeBody straps kind.toNat ⟨tag.toNat, len.toNat⟩ (more.take len.toNat))
        else .ok .frameDiscarded
      | _ => .error .incomplete

/-- The bytes after SYNC of a request's frame; none for a command that is no request of R207. -/
def encodeFrame (i : Instr) : Option (List Byte) :=
  match i with
  | .unknownKind _ _ => none
  | i => i.request?.map fun (kind, h) => frameBytes kind h.tag i.body

/-- The command a table word spells: the table gives no row any bits, so none. -/
def decodeTableWord (_nbits _w : Nat) : Option Instr := none

end Sys2Proof
end

