-- ==== Sys2Proof/Config.lean ====
section
/-! DEFINITION. What the implementation fixes (R204) and the free values: opaque constants, with no body,
of which nothing can be evaluated or proved. -/

namespace Sys2Proof

/-- The part code a PING returns (R204). -/
def Config.partCode : Nat := 6120

/-- The revision number a PING returns (R204). -/
def Config.revision : Nat := 1

/-- DESIGN CHOICE (log 4). The n-th free choice of a run: the outcomes and orders the spec leaves open
(R31, R180) are taken from it. Safe: it is opaque, so a claim holds whatever it is. -/
opaque Config.freeChoice : Nat → Nat

/-- DESIGN CHOICE (log 6). The check code computed over the other fields of a card entry, listed as
numbers (R3 gives its width and not the code). Safe: opaque. -/
opaque Config.checkCode : List Nat → BitVec 8

/-- DESIGN CHOICE (log 13). Byte `i` of a field that carries a number too large for its size (R208 gives no
encoding for it). Safe: opaque. -/
opaque Config.wideByte : Nat → Nat → BitVec 8

/-- DESIGN CHOICE (log 20). The value taken where the state contradicts an invariant the spec guarantees
(no free journal-entry place, R167; no sequence number left for a queued append, R165), given what the
value depends on. Safe: opaque. -/
opaque Config.offSpec : Nat → Nat

end Sys2Proof
end

