-- ==== Sys2Proof/Machine/State.lean ====
section
/-! DEFINITION. The state of the block: everything the spec gives the part, as plain data, and
`State.reset`. Sparse tables list only the records that differ from what an unlisted number reads as. -/

namespace Sys2Proof.Machine

open Sys2Proof

/-! ## Why a step can stop -/

/-- No command of this block stops it: the spec gives every event and every request an effect. The type has
no constructor, so nothing raises a fault. Safe. -/
inductive Fault where
  deriving DecidableEq, Repr

/-- Why a command has no meaning. -/
inductive Refusal where
  /-- Raised only by an arm of `exec` whose command has no meaning yet. Safe: the model stops. -/
  | notModelled (mnemonic : String)
  deriving DecidableEq, Repr

/-! ## Messages (chapter 11) -/

/-- KIND and TAG of a request (R198, R200). -/
structure ReqId where
  kind : Nat
  tag : Nat
  deriving DecidableEq, Repr

/-- The result that opens a reply body (R208). -/
inductive Result where
  | admitted | approved | done
  | installed | updated | passed | notInstalled | badRecord | notPending | notPresent | badValue | notConfigured
  | notDoor | loaded | notLoaded | noneStaged | listed | notListed
  | noRecord | offline | fetchFull | tableFull | superseded | revoked
  | notYetValid | expired | noGrant | notAboard
  | emergency | outOfService | clockUnset | starting
  | alreadyAshore | alreadyAboard | repeated | capacity | muster | sailing
  | storeBusy | storeFault
  | chargeDisabled | folioClosed | folioFrozen | limit | dailyCap | age | pacing | verify | ceiling | journalFull
  | holdsFull | cardHolds | badAmount | unknownHold | tooLate | overHold | holdBusy
  | unknownKind | badLength | busy
  deriving DecidableEq, Repr

/-- One field of a reply or notice body, by its size (R208): unsigned in one to four bytes, and signed in
three (posted balance) and four (available amount). -/
inductive Fld where
  | n1 (v : Nat)
  | n2 (v : Nat)
  | n3 (v : Nat)
  | n4 (v : Nat)
  | i3 (v : Int)
  | i4 (v : Int)
  deriving DecidableEq, Repr

/-- The decision reply to a PRESENT or an AUTHORIZE (R210), field by field. `none` is an absent person or folio. -/
structure Decision where
  outcome : Result
  detail : Nat := 0
  portal : Nat := 0
  portalState : Nat := 0
  person : Option Nat := none
  release : Nat := 0
  direction : Nat := 0
  personState : Nat := 0
  aboardTotal : Nat := 0
  mustered : Nat := 0
  folio : Option Nat := none
  hold : Option Nat := none
  sign : Bool := false
  amounts : Bool := false
  net : Nat := 0
  gratuity : Nat := 0
  total : Nat := 0
  tier : Nat := 0
  room : Nat := 0
  deriving DecidableEq, Repr

/-- A reply body: the decision layout of R210, or a result and the fields its owning rule lists (R201). -/
inductive Body where
  | decision (d : Decision)
  | plain (r : Result) (fields : List Fld)
  deriving DecidableEq, Repr

/-! ## Fault recording (chapter 10) -/

/-- The sixteen fault kinds, in the order of the table in section 10.1. -/
inductive FaultKind where
  | linkCheck | linkForm | cardCheck | wayRetired | fetchTimeout | storeFault | storeInterrupted | strikeFault
  | doorForced | doorHeld | clockStep | journalFull | noticeLost | capacityRefused | laneAnomaly | presenceConflict
  deriving DecidableEq, Repr

/-- Severities, rising (R187). -/
inductive Severity where
  | ignore | note | alert
  deriving DecidableEq, Repr

/-- The optional fields of a fault report, each present or absent (R187). -/
structure FaultFields where
  portal : Option Nat := none
  card : Option Nat := none
  person : Option Nat := none
  way : Option Nat := none
  req : Option ReqId := none
  deriving DecidableEq, Repr

/-- One row of the recorder: a kind's severity, its occurrence count and whether the sticky summary holds it
(R188, R189, R190). -/
structure FaultRow where
  severity : Severity
  count : Nat
  inSummary : Bool
  deriving DecidableEq, Repr

/-- The capture record (R191). -/
structure Capture where
  kind : FaultKind
  severity : Severity
  time : Nat
  fields : FaultFields
  count : Nat
  deriving DecidableEq, Repr

/-- FRC: one row per fault kind, in table order, and the capture record. -/
structure Recorder where
  rows : List FaultRow
  capture : Option Capture
  deriving DecidableEq, Repr

/-! ## The card table (chapter 1) -/

/-- Card classes (R1). -/
inductive CardClass where
  | guest | youth | crew | officer | visitor
  deriving DecidableEq, Repr

/-- A grant (R1). -/
inductive Grant where
  | cabin (n : Nat)
  | zone (z : Nat)
  | allCabins
  deriving DecidableEq, Repr

/-- A valid card entry (R1). An invalid entry is the absence of one. `codeDiff` is the stored check code
exclusive-or the code computed over the other fields (log 6): 0 where they agree (R3). -/
structure CardEntry where
  card : Nat
  gen : Nat
  person : Nat
  folio : Nat
  cls : CardClass
  drinkingAge : Bool
  chargeEnabled : Bool
  cap : Nat
  grants : List Grant
  validFrom : Nat
  validUntil : Nat
  revoked : Bool
  resident : Bool
  holdCount : Nat
  dayStamp : Nat
  daySpend : Nat
  dayAlcohol : Nat
  suspect : Bool
  codeDiff : Byte
  deriving DecidableEq, Repr

/-- A way's fault count and enable (section 1.3). -/
structure WayHealth where
  faults : Nat
  enabled : Bool
  deriving DecidableEq, Repr

/-- What a presentation asks for, by the block that handed it to CTB (R7). -/
inductive Job where
  | door
  | gangway
  | muster
  | charge (a : ChargeAmounts)
  deriving DecidableEq, Repr

/-- A presentation: a PRESENT or AUTHORIZE request naming a card, until it is decided (R7). -/
structure Presentation where
  tag : Nat
  portal : Nat
  card : Nat
  gen : Nat
  job : Job
  deriving DecidableEq, Repr

/-- A fetch (R22). `expiry` is on the elapsed crystal time, in milliseconds. -/
structure Fetch where
  card : Nat
  genSeen : Nat
  revoked : Bool
  waiting : List Presentation
  expiry : Nat
  deriving DecidableEq, Repr

/-- CTB (R1, R9, R13, R22, R28). An entry's number in `entries` is 4 × set + way. -/
structure Cards where
  entries : Table (Option CardEntry)
  pointers : Table Nat
  ways : Table WayHealth
  fetches : Table (Option Fetch)
  fetchWait : Nat
  deriving DecidableEq, Repr

/-! ## Ship time (chapter 2) -/

/-- VCK's working state. The stored day stands in the image. `dayRetry` is the elapsed time of a waiting
day-write retry (R34); `secondStart` is where the current second began (R30). -/
structure Clock where
  shipTime : Nat
  isSet : Bool
  offset : Nat
  day : Nat
  dayOutstanding : Bool
  lastFailedDay : Option Nat
  dayRetry : Option Nat
  secondStart : Nat
  deriving DecidableEq, Repr

/-! ## Portals (chapter 3) -/

/-- Portal classes (R41). -/
inductive PortalClass where
  | cabin | crewDoor | venueDoor | gangway | muster | terminal
  deriving DecidableEq, Repr

/-- Lane directions (R41). -/
inductive LaneDirection where
  | inbound | outbound | toggle
  deriving DecidableEq, Repr

/-- Emergency presets (R41). -/
inductive Preset where
  | normal | release | lockdown
  deriving DecidableEq, Repr

/-- Portal states, in the order of the door's state table (R42, R54). -/
inductive PortalState where
  | secure | released | opened | heldOpen | forced | emergency | outOfService
  deriving DecidableEq, Repr

/-- A portal's contact (R41). -/
inductive Contact where
  | opened | closed | unknown
  deriving DecidableEq, Repr

/-- A timing set, or a portal's captured copy of one: release window and held-open limit in seconds,
strike-confirm limit in milliseconds (R65, R66). -/
structure Timing where
  release : Nat
  heldOpen : Nat
  strike : Nat
  deriving DecidableEq, Repr

/-- A running timer: its start on the elapsed crystal time and its limit, in milliseconds (R41). -/
structure Timer where
  start : Nat
  limit : Nat
  deriving DecidableEq, Repr

/-- A portal entry (R41). Configured is having a class. A timer that is `none` is stopped. -/
structure Portal where
  cls : Option PortalClass
  cabin : Nat
  zone : Nat
  direction : Option LaneDirection
  station : Nat
  timingSet : Nat
  strikeRequired : Bool
  strict : Bool
  preset : Preset
  autoResume : Bool
  disabled : Bool
  state : PortalState
  contact : Contact
  captured : Timing
  releaseTimer : Option Timer
  heldOpenTimer : Option Timer
  strikeTimer : Option Timer
  strikePending : Bool
  deriving DecidableEq, Repr

/-- PTU (R41, R65). -/
structure Portals where
  portals : Table Portal
  timings : Table Timing
  deriving DecidableEq, Repr

/-! ## The presence roll (chapter 4) -/

/-- Where the roll counts a person (R70). -/
inductive PersonState where
  | unlisted | aboard | ashore
  deriving DecidableEq, Repr

/-- A person's kind (R70). -/
inductive PersonKind where
  | guest | crew
  deriving DecidableEq, Repr

/-- A person slot (R70). -/
structure PersonSlot where
  state : PersonState
  kind : PersonKind
  mark : Option Nat
  lastTime : Nat
  lastLane : Option Nat
  deriving DecidableEq, Repr

/-- PRL (R70, R71, R72, R82). `before` holds the before image of each slot whose write is pending; the
write-pending mark of a slot is its having one. -/
structure Roll where
  slots : Table PersonSlot
  before : Table (Option PersonSlot)
  aboardGuests : Nat
  aboardCrew : Nat
  ashoreGuests : Nat
  ashoreCrew : Nat
  departures : Nat
  limit : Nat
  level : Nat
  hysteresis : Nat
  guard : Nat
  deadline : Option Nat
  standing : Bool
  armed : Bool
  passed : Bool
  deriving DecidableEq, Repr

/-! ## Emergency and muster (chapter 5) -/

/-- An alarm line: its raw level (`rawActive` is the line low), the debounced level, the start of a pending
change, and its enable (R96, R97). -/
structure LineFilter where
  rawActive : Bool
  active : Bool
  since : Option Nat
  enabled : Bool
  deriving DecidableEq, Repr

/-- The cause of the last muster start (R106). -/
inductive MusterCause where
  | host | alarm
  deriving DecidableEq, Repr

/-- The muster record, kept by the store as one record (R106). -/
structure MusterRecord where
  active : Bool
  number : Nat
  startedAt : Nat
  deriving DecidableEq, Repr

/-- A MUSTER-START or MUSTER-END that awaits a record write: the muster number it answers, and whether the
write in flight carries its change (R108, R109). -/
structure MusterWaiter where
  id : ReqId
  number : Nat
  carried : Bool
  deriving DecidableEq, Repr

/-- EMU (R96 to R100, R106, R108). -/
structure Emergency where
  lineA : LineFilter
  lineB : LineFilter
  debounce : Nat
  startsMuster : Bool
  declared : Bool
  condition : Bool
  latch : Bool
  record : MusterRecord
  cause : Option MusterCause
  stations : Table Nat
  mustered : Nat
  outstanding : Bool
  retry : Option Nat
  waiters : List MusterWaiter
  deriving DecidableEq, Repr

/-! ## Folios, holds and the tariff (chapters 6 and 7) -/

/-- Folio states (R141). -/
inductive FolioState where
  | closed | opened | frozen
  deriving DecidableEq, Repr

/-- A folio (R141). -/
structure Folio where
  state : FolioState
  limit : Nat
  balance : Int
  exposure : Nat
  deriving DecidableEq, Repr

/-- The hold part of a slot (R148). -/
structure Hold where
  portal : Nat
  card : Nat
  person : Nat
  folio : Nat
  subtotal : Nat
  total : Nat
  alcohol : Nat
  discount : Nat
  gratuity : Nat
  day : Nat
  deriving DecidableEq, Repr

/-- The commit part of a slot (R148). -/
structure CommitPart where
  subtotal : Nat
  net : Nat
  gratuity : Nat
  total : Nat
  alcohol : Nat
  remaining : Nat
  orphaned : Bool
  deriving DecidableEq, Repr

/-- A slot's state with what it holds in that state (R148). -/
inductive HoldBody where
  | free
  | held (h : Hold) (expiry : Nat)
  | committing (h : Hold) (c : CommitPart)
  deriving DecidableEq, Repr

/-- How a slot's most recent hold ended (R148). -/
inductive LastEnd where
  | none | committed | voided | expired | released
  deriving DecidableEq, Repr

/-- A hold slot (R148). -/
structure HoldSlot where
  body : HoldBody
  reuse : Nat
  lastEnd : LastEnd
  deriving DecidableEq, Repr

/-- PUR (R133, R141, R148, R150). -/
structure Purse where
  folios : Table Folio
  holds : Table HoldSlot
  holdTime : Nat
  active : Tariff
  staged : Option Tariff
  deriving DecidableEq, Repr

/-! ## The journal (chapter 8) and the store (chapter 9) -/

/-- A journal entry (R163). -/
structure JournalEntry where
  seq : Nat
  folio : Nat
  card : Nat
  person : Nat
  portal : Nat
  net : Nat
  gratuity : Nat
  total : Nat
  alcohol : Nat
  time : Nat
  day : Nat
  deriving DecidableEq, Repr

/-- A settlement that awaits its store write (R170). -/
structure Settlement where
  count : Nat
  last : Nat
  deriving DecidableEq, Repr

/-- JNL's working state: the entries, oldest first; the next sequence number, `none` for EXHAUSTED; the
pending settlement (R163, R164, R170). The settled-through value stands in the image. -/
structure Journal where
  entries : List JournalEntry
  next : Option Nat
  settle : Option Settlement
  deriving DecidableEq, Repr

/-- What an append was queued with: the contents PUR hands JNL (R165). -/
structure Append where
  folio : Nat
  card : Nat
  person : Nat
  portal : Nat
  net : Nat
  gratuity : Nat
  total : Nat
  alcohol : Nat
  deriving DecidableEq, Repr

/-- A person slot's stored record: the slot with the muster number current when its write was queued (R106, R177). -/
structure SlotRecord where
  slot : PersonSlot
  musterNumber : Nat
  deriving DecidableEq, Repr

/-- The direction a crossing takes (R75). -/
inductive Direction where
  | inbound | outbound
  deriving DecidableEq, Repr

/-- What a slot write carries out, for the event at its end (R181): a crossing (with whether the
deadline-passed mark was set when it was accepted, R79), a request of section 4.5, or a muster mark (with
whether the person was found ashore, R113). -/
inductive SlotCause where
  | crossing (portal card : Nat) (direction : Direction) (late : Bool)
  | correction
  | mark (portal card : Nat) (foundAshore : Bool)
  deriving DecidableEq, Repr

/-- A queued request of the store (R178), with the request of the link that awaits it, if one does. -/
inductive StoreReq where
  | slot (person : Nat) (content : SlotRecord) (cause : SlotCause) (awaits : Option ReqId)
  | entry (holdSlot : Nat) (a : Append) (awaits : Option ReqId)
  | settle (last : Nat) (awaits : Option ReqId)
  | muster
  | day
  deriving DecidableEq, Repr

/-- The kinds of store request (R178). -/
inductive StoreKind where
  | slot | entry | settle | muster | day
  deriving DecidableEq, Repr

/-- The content of the write under way, fixed when it begins (R179). -/
inductive WriteContent where
  | slot (person : Nat) (content : SlotRecord)
  | entry (place : Nat) (e : JournalEntry) (next : Option Nat)
  | settle (last : Nat)
  | muster (r : MusterRecord)
  | day (d : Nat)
  deriving DecidableEq, Repr

/-- The write under way and whether it is on its second attempt (R180). -/
structure Write where
  content : WriteContent
  second : Bool
  deriving DecidableEq, Repr

/-- The interrupted marker: the kind and identifier of a record (R180). -/
structure Marker where
  kind : StoreKind
  id : Nat
  deriving DecidableEq, Repr

/-- A stored journal entry with the next sequence number as its write began (R174). -/
structure EntryRecord where
  entry : JournalEntry
  next : Option Nat
  deriving DecidableEq, Repr

/-- The store's image (R177). -/
structure Image where
  entries : Table (Option EntryRecord)
  settledThrough : Nat
  slots : Table SlotRecord
  muster : Option MusterRecord
  day : Option Nat
  marker : Option Marker
  deriving DecidableEq, Repr

/-- NVS's working state: the queue, the write under way, and the two counts of R182. -/
structure Store where
  queue : List StoreReq
  write : Option Write
  secondAttempts : Nat
  faults : Nat
  deriving DecidableEq, Repr

/-! ## The link (chapter 11) -/

/-- The kinds of door alarm (R55). -/
inductive DoorAlarm where
  | forced | forcedCleared | held | heldCleared | strike
  deriving DecidableEq, Repr

/-- The commands of PORTAL-DRIVE (R68). -/
inductive Drive where
  | release (seconds : Nat)
  | relock
  | holdReleased
  deriving DecidableEq, Repr

/-- Why a reset was made, and its source (R205, R206). -/
inductive ResetSource where
  | line
  | request (tag : Nat)
  | power
  deriving DecidableEq, Repr

/-- The cause HOLD-EXPIRED carries (R158, R161). -/
inductive HoldExpiredCause where
  | timeout | unbooked
  deriving DecidableEq, Repr

/-- The sixteen notices with the fields their rules list (R207). -/
inductive Notice where
  | restarted (source : ResetSource) (check : SelfCheck)
  | cardWanted (fetch card gen : Nat)
  | dayTally (card day spend alcohol : Nat)
  | dayRolled (previous new time : Nat) (activated : Bool)
  | doorAlarm (portal : Nat) (kind : DoorAlarm) (state : PortalState) (time : Nat)
  | portalDrive (portal : Nat) (command : Drive)
  | presenceConflict (portal card person : Nat) (state : PersonState)
  | laneAnomaly (portal card person : Nat) (state : PersonState) (direction : Direction) (time : Nat)
  | lateReturn (portal card person : Nat) (kind : PersonKind) (time ashoreGuests ashoreCrew : Nat)
  | capacityWarning (aboard guests crew level limit time : Nat)
  | allAboardMissing (deadline time ashoreGuests ashoreCrew aboard : Nat)
  | emergencyState (condition latch sourceA sourceB declared : Bool) (time : Nat)
  | musterState (record : MusterRecord) (cause : Option MusterCause) (mustered : Nat)
  | holdExpired (hold portal card person folio total alcohol time : Nat) (cause : HoldExpiredCause)
  | storeInterrupted (kind : StoreKind) (id : Nat)
  | fault (kind : FaultKind) (severity : Severity) (time : Nat) (fields : FaultFields) (count : Nat) (replaced : Bool)
  deriving DecidableEq, Repr

/-- A frame, or a reply's run of frames, waiting in the transmit queue (R201, R202). `sent` is the number of
parts that have left. -/
inductive Frame where
  | reply (id : ReqId) (body : Body) (sent : Nat)
  | busy (id : ReqId)
  | notice (n : Notice)
  deriving DecidableEq, Repr

/-- The receive assembler (R199): hunting, or the bytes of a partly received frame after its SYNC, with the
time its last byte arrived. -/
inductive Rx where
  | hunting
  | collecting (bytes : List Byte) (lastAt : Nat)
  deriving DecidableEq, Repr

/-- LNK. `sending` says that the oldest frame of `tx` is being sent. -/
structure Link where
  rx : Rx
  outstanding : List ReqId
  busy : List ReqId
  tx : List Frame
  sending : Bool
  noticesLost : Bool
  busySent : Nat
  discarded : Nat
  framesSent : Nat
  straps : Straps
  deriving DecidableEq, Repr

/-- The input levels that LNK reads; true is high: HOLD#, RESET#, and BAUD1 and BAUD0 (R203, R205, R206, R212). -/
structure Pins where
  holdHigh : Bool
  resetHigh : Bool
  straps : Straps
  deriving DecidableEq, Repr

/-! ## The whole block -/

/-- The block's state. `now` is the elapsed crystal time in milliseconds. `choices` and `drawn` are the model's
own: free choices already given, and how many have been drawn from `Config.freeChoice` (log 4). `pending` is the
queue of commands. -/
structure State where
  supply : Bool
  starting : Bool
  check : SelfCheck
  now : Nat
  pins : Pins
  link : Link
  clock : Clock
  cards : Cards
  ptu : Portals
  roll : Roll
  emu : Emergency
  purse : Purse
  journal : Journal
  store : Store
  image : Image
  frc : Recorder
  choices : List Nat
  drawn : Nat
  pending : List Instr
  deriving DecidableEq, Repr

/-! ## Defaults and reset -/

/-- The default timing: 5 s, 60 s, 1000 ms (R65, R41). -/
def defaultTiming : Timing := ⟨5, 60, 1000⟩

/-- An unconfigured portal after cold reset (R41, R69): what an unlisted portal reads as. -/
def defaultPortal : Portal :=
  { cls := none, cabin := 0, zone := 0, direction := none, station := 0, timingSet := 0, strikeRequired := false,
    strict := false, preset := .normal, autoResume := false, disabled := false, state := .outOfService,
    contact := .unknown, captured := defaultTiming, releaseTimer := none, heldOpenTimer := none, strikeTimer := none,
    strikePending := false }

/-- A slot never stored (R94): what an unlisted person reads as. -/
def defaultSlot : PersonSlot := ⟨.unlisted, .guest, none, 0, none⟩

/-- The record of a slot never stored (R177). -/
def defaultSlotRecord : SlotRecord := ⟨defaultSlot, 0⟩

/-- A folio never loaded (R141): what an unlisted folio reads as. -/
def defaultFolio : Folio := ⟨.closed, 0, 0, 0⟩

/-- A hold slot after cold reset (R148): what an unlisted slot reads as. -/
def defaultHoldSlot : HoldSlot := ⟨.free, 0, .none⟩

/-- A way after cold reset (R28). -/
def defaultWay : WayHealth := ⟨0, true⟩

/-- The default rates of a card class with this alcohol cap (R133). -/
def defaultRates (cap : Nat) : ClassRates := ⟨0, cap, 20000, 50000, 150000, 500000⟩

/-- The default tariff (R133). -/
def defaultTariff : Tariff :=
  { gratuity := [0, 1800, 1800, 1800, 1800, 1800, 1800, 1800], guest := defaultRates 12, youth := defaultRates 0,
    crew := defaultRates 6, officer := defaultRates 6, visitor := defaultRates 4 }

/-- The default severities, in the order of section 10.1's table. -/
def defaultSeverities : List Severity :=
  [.ignore, .note, .note, .alert, .note, .alert, .alert, .alert, .alert, .note, .note, .note, .note, .note, .note, .note]

/-- A fresh image, never written (R177). -/
def freshImage : Image := ⟨[], 0, [], none, none, none⟩

/-- An alarm line after cold reset, its raw level the line's own (R97, R116). -/
def resetLine (rawActive : Bool) : LineFilter := ⟨rawActive, false, none, true⟩

/-- LNK after a reset: cleared, with the straps as read (R205, R206). -/
def resetLink (straps : Straps) : Link :=
  { rx := .hunting, outstanding := [], busy := [], tx := [], sending := false, noticesLost := false, busySent := 0,
    discarded := 0, framesSent := 0, straps := straps }

/-- VCK after cold reset (R39); the day is taken by the scan. -/
def resetClock : Clock :=
  { shipTime := 0, isSet := false, offset := 18000, day := 0, dayOutstanding := false, lastFailedDay := none,
    dayRetry := none, secondStart := 0 }

/-- CTB after cold reset (R28). -/
def resetCards : Cards := ⟨[], [], [], [], 400⟩

/-- PTU after cold reset (R69). -/
def resetPortals : Portals := ⟨[], []⟩

/-- PRL after cold reset, before the scan rebuilds the slots (R94). -/
def resetRoll : Roll :=
  { slots := [], before := [], aboardGuests := 0, aboardCrew := 0, ashoreGuests := 0, ashoreCrew := 0, departures := 0,
    limit := 8191, level := 8191, hysteresis := 0, guard := 10, deadline := none, standing := false, armed := true,
    passed := false }

/-- EMU after cold reset, before the scan rebuilds the muster (R116). -/
def resetEmergency (rawA rawB : Bool) : Emergency :=
  { lineA := resetLine rawA, lineB := resetLine rawB, debounce := 100, startsMuster := true, declared := false,
    condition := false, latch := false, record := ⟨false, 0, 0⟩, cause := none, stations := [], mustered := 0,
    outstanding := false, retry := none, waiters := [] }

/-- PUR after cold reset (R162). -/
def resetPurse : Purse := ⟨[], [], 180, defaultTariff, none⟩

/-- JNL before the scan rebuilds it; 1 is what a fresh image gives (R175). -/
def resetJournal : Journal := ⟨[], some 1, none⟩

/-- NVS after cold reset (R182, R183). -/
def resetStore : Store := ⟨[], none, 0, 0⟩

/-- FRC after cold reset (R197). -/
def resetRecorder : Recorder := ⟨defaultSeverities.map fun v => ⟨v, 0, false⟩, none⟩

/-- The part just after a cold reset, STARTING, with what outlives it: the image and the pins (R183, R206). -/
def coldState (image : Image) (pins : Pins) (rawA rawB : Bool) (check : SelfCheck) (straps : Straps) : State :=
  { supply := true, starting := true, check := check, now := 0, pins := pins, link := resetLink straps,
    clock := resetClock, cards := resetCards, ptu := resetPortals, roll := resetRoll,
    emu := resetEmergency rawA rawB, purse := resetPurse, journal := resetJournal, store := resetStore, image := image,
    frc := resetRecorder, choices := [], drawn := 0, pending := [] }

/-- The machine right after reset: the first power-on, the image fresh, the unconnected inputs at their pull-ups
(R212). DESIGN CHOICE (log 8), unsafe: the fresh image, the straps low and a self-check that passed. -/
def State.reset : State :=
  coldState freshImage ⟨true, true, ⟨false, false⟩⟩ false false ⟨false, false⟩ ⟨false, false⟩

end Sys2Proof.Machine
end

