-- ==== Sys2Proof/Machine/Operands.lean ====
section
/-! DEFINITION. The operand forms: what the numbers of a request's fields mean (R208: an enumeration is numbered
from 0 in the order of the table or list that first gives its values; yes is 1, no is 0), and the numbers the
same values are sent as. -/

namespace Sys2Proof.Machine

open Sys2Proof

/-- The value an enumeration's number names: `vs` in the order the spec lists them. -/
def enumOf {α : Type} (vs : List α) (n : Nat) : Option α := vs[n]?

/-- The number of a value in its enumeration. -/
def enumCode {α : Type} [DecidableEq α] (vs : List α) (v : α) : Nat := vs.findIdx (· == v)

/-- 255 for none (R208). -/
def enumCode? {α : Type} [DecidableEq α] (vs : List α) (v : Option α) : Nat := v.elim 255 (enumCode vs)

/-- A yes/no field that its rule judges: anything but 0 and 1 is no value (R65, R97, R134). -/
def yesNo? (n : Nat) : Option Bool := enumOf [false, true] n

/-- A yes/no as its byte. -/
def yesCode (b : Bool) : Nat := if b then 1 else 0

def cardClasses : List CardClass := [.guest, .youth, .crew, .officer, .visitor]
def portalClasses : List PortalClass := [.cabin, .crewDoor, .venueDoor, .gangway, .muster, .terminal]
def laneDirections : List LaneDirection := [.inbound, .outbound, .toggle]
def presets : List Preset := [.normal, .release, .lockdown]
def portalStates : List PortalState :=
  [.secure, .released, .opened, .heldOpen, .forced, .emergency, .outOfService]
def contacts : List Contact := [.opened, .closed, .unknown]
def personStates : List PersonState := [.unlisted, .aboard, .ashore]
def personKinds : List PersonKind := [.guest, .crew]
def severities : List Severity := [.ignore, .note, .alert]
def faultKinds : List FaultKind :=
  [.linkCheck, .linkForm, .cardCheck, .wayRetired, .fetchTimeout, .storeFault, .storeInterrupted, .strikeFault,
    .doorForced, .doorHeld, .clockStep, .journalFull, .noticeLost, .capacityRefused, .laneAnomaly, .presenceConflict]
def folioStates : List FolioState := [.closed, .opened, .frozen]
def lastEnds : List LastEnd := [.none, .committed, .voided, .expired, .released]
def storeKinds : List StoreKind := [.slot, .entry, .settle, .muster, .day]
def musterCauses : List MusterCause := [.host, .alarm]
def doorAlarms : List DoorAlarm := [.forced, .forcedCleared, .held, .heldCleared, .strike]

/-- ON and OFF, in the order R15 and R98 name them. -/
def onOff? (n : Nat) : Option Bool := enumOf [true, false] n

/-- The direction taken at a lane: 0 none, 1 INBOUND, 2 OUTBOUND (R208). -/
def directionCode : Option Direction → Nat
  | none => 0
  | some .inbound => 1
  | some .outbound => 2

/-- A grant's two bytes: the kind in the two upper bits, the number in the lower fourteen (R209). `none` is the
kind 3, which makes the record BAD-RECORD, and so are the numbers R16 refuses. -/
def grantOf (n : Nat) : Option Grant :=
  let v := n % 16384
  match n / 16384 with
  | 0 => if 1 ≤ v && v ≤ 9999 then some (.cabin v) else none
  | 1 => if 1 ≤ v && v ≤ 63 then some (.zone v) else none
  | 2 => some .allCabins
  | _ => none

/-- A grant as its two bytes carry it (R209). -/
def grantCode : Grant → Nat
  | .cabin n => n
  | .zone z => 16384 + z
  | .allCabins => 32768

/-- The grants of a record, none if any is refused or there are more than four (R16, R209). -/
def grantsOf (r : CardRecord) : Option (List Grant) :=
  if r.grantCount ≤ 4 then r.grants.mapM grantOf else none

/-- CARD-QUERY by set and way: the set in byte 1 and the way in byte 2 of the body, that is the two upper bytes of
the key (R209). -/
def querySet (key : Nat) : Nat := key / 16777216
def queryWay (key : Nat) : Nat := key / 65536 % 256

/-- The tariff row of a card class (R133). -/
def ratesOf (t : Tariff) : CardClass → ClassRates
  | .guest => t.guest
  | .youth => t.youth
  | .crew => t.crew
  | .officer => t.officer
  | .visitor => t.visitor

/-- The gratuity of a class 0 to 7 (R133). -/
def gratuityOf (t : Tariff) (cls : Nat) : Nat := t.gratuity.getD cls 0

/-- A hold number's slot and reuse counter, and the number they form (R149, R151). -/
def holdNumberSlot (n : Nat) : Nat := n % 32
def holdNumberReuse (n : Nat) : Nat := n / 32
def holdNumber (slot reuse : Nat) : Nat := reuse * 32 + slot

end Sys2Proof.Machine
end

