-- ==== Sys2Proof/Machine/Ops.lean ====
section
/-! DEFINITION. The named operations every meaning is written over: sparse tables, the block setters, free
choices, the transmit queue, fault reports, replies, and the acceptance of a request (R200). -/

namespace Sys2Proof

/-- Record `k` of a table whose unlisted numbers read `d`. -/
def Table.read {α : Type} (d : α) : Table α → Nat → α
  | [], _ => d
  | (k', v) :: t, k => if k' = k then v else Table.read d t k

/-- Insert or replace record `k`, keeping the numbers rising. -/
def Table.put {α : Type} (k : Nat) (v : α) : Table α → Table α
  | [] => [(k, v)]
  | (k', v') :: t =>
    if k < k' then (k, v) :: (k', v') :: t
    else if k' = k then (k, v) :: t
    else (k', v') :: Table.put k v t

/-- Take record `k` out of the listing. -/
def Table.drop {α : Type} (k : Nat) (t : Table α) : Table α := t.filter fun p => p.1 != k

/-- Write record `k`; the value an unlisted number reads as is held by not listing it. -/
def Table.write {α : Type} [DecidableEq α] (d : α) (k : Nat) (v : α) (t : Table α) : Table α :=
  if v = d then Table.drop k t else Table.put k v t

/-- Change every listed record. -/
def Table.update {α : Type} [DecidableEq α] (d : α) (f : α → α) (t : Table α) : Table α :=
  (t.map fun p => (p.1, f p.2)).filter fun p => p.2 != d

/-- The canonical form: numbers strictly rising, no listed record equal to what an unlisted one reads as (log 27). -/
def Table.wf {α : Type} [DecidableEq α] (d : α) : Table α → Bool
  | [] => true
  | [(_, v)] => v != d
  | (k, v) :: (k', v') :: t => v != d && k < k' && Table.wf d ((k', v') :: t)

end Sys2Proof

namespace Sys2Proof.Machine

open Sys2Proof

/-! ## Block setters -/

def State.withLink (s : State) (x : Link) : State := { s with link := x }
def State.withClock (s : State) (x : Clock) : State := { s with clock := x }
def State.withCards (s : State) (x : Cards) : State := { s with cards := x }
def State.withPtu (s : State) (x : Portals) : State := { s with ptu := x }
def State.withRoll (s : State) (x : Roll) : State := { s with roll := x }
def State.withEmu (s : State) (x : Emergency) : State := { s with emu := x }
def State.withPurse (s : State) (x : Purse) : State := { s with purse := x }
def State.withJournal (s : State) (x : Journal) : State := { s with journal := x }
def State.withStore (s : State) (x : Store) : State := { s with store := x }
def State.withImage (s : State) (x : Image) : State := { s with image := x }
def State.withFrc (s : State) (x : Recorder) : State := { s with frc := x }
def State.withNow (s : State) (x : Nat) : State := { s with now := x }

/-- Elapsed crystal time reaches `t` at the latest: a timer's expiry is taken when its time has come (log 2). -/
def reachTime (t : Nat) (s : State) : State := s.withNow (max s.now t)

/-! ## Free choices -/

/-- The next free choice: one already given, otherwise the next of `Config.freeChoice` (log 4). -/
def draw (s : State) : Nat × State :=
  match s.choices with
  | c :: cs => (c, { s with choices := cs })
  | [] => (Config.freeChoice s.drawn, { s with drawn := s.drawn + 1 })

/-! ## The records of each block, by number -/

def State.portal (s : State) (n : Nat) : Portal := Table.read defaultPortal s.ptu.portals n
def State.timing (s : State) (n : Nat) : Timing := Table.read defaultTiming s.ptu.timings n
def State.person (s : State) (n : Nat) : PersonSlot := Table.read defaultSlot s.roll.slots n
def State.beforeImage (s : State) (n : Nat) : Option PersonSlot := Table.read none s.roll.before n
def State.station (s : State) (n : Nat) : Nat := Table.read 0 s.emu.stations n
def State.folio (s : State) (n : Nat) : Folio := Table.read defaultFolio s.purse.folios n
def State.holdSlot (s : State) (n : Nat) : HoldSlot := Table.read defaultHoldSlot s.purse.holds n
def State.entry (s : State) (set way : Nat) : Option CardEntry := Table.read none s.cards.entries (4 * set + way)
def State.pointer (s : State) (set : Nat) : Nat := Table.read 0 s.cards.pointers set
def State.way (s : State) (w : Nat) : WayHealth := Table.read defaultWay s.cards.ways w
def State.fetch (s : State) (n : Nat) : Option Fetch := Table.read none s.cards.fetches n

def State.setPortal (s : State) (n : Nat) (p : Portal) : State :=
  s.withPtu { s.ptu with portals := Table.write defaultPortal n p s.ptu.portals }
def State.setTiming (s : State) (n : Nat) (t : Timing) : State :=
  s.withPtu { s.ptu with timings := Table.write defaultTiming n t s.ptu.timings }
def State.setFolio (s : State) (n : Nat) (f : Folio) : State :=
  s.withPurse { s.purse with folios := Table.write defaultFolio n f s.purse.folios }
def State.setHoldSlot (s : State) (n : Nat) (h : HoldSlot) : State :=
  s.withPurse { s.purse with holds := Table.write defaultHoldSlot n h s.purse.holds }
def State.setEntry (s : State) (set way : Nat) (e : Option CardEntry) : State :=
  s.withCards { s.cards with entries := Table.write none (4 * set + way) e s.cards.entries }
def State.setPointer (s : State) (set p : Nat) : State :=
  s.withCards { s.cards with pointers := Table.write 0 set p s.cards.pointers }
def State.setWay (s : State) (w : Nat) (h : WayHealth) : State :=
  s.withCards { s.cards with ways := Table.write defaultWay w h s.cards.ways }
def State.setFetch (s : State) (n : Nat) (f : Option Fetch) : State :=
  s.withCards { s.cards with fetches := Table.write none n f s.cards.fetches }

/-! ## Sizes of bodies (R201, R208) -/

def Fld.size : Fld → Nat
  | .n1 _ => 1
  | .n2 _ => 2
  | .n3 _ => 3
  | .n4 _ => 4
  | .i3 _ => 3
  | .i4 _ => 4

/-- The number of body bytes of a reply: 30 for the decision layout (R210), otherwise the result byte and the
fields (R208). -/
def Body.size : Body → Nat
  | .decision _ => 30
  | .plain _ fs => 1 + (fs.map Fld.size).sum

/-- How many parts a reply is sent in: parts of 240 bytes and a remainder of 1 to 240 (R201). -/
def Body.parts (b : Body) : Nat := max 1 ((b.size + 239) / 240)

/-! ## The transmit queue (R202, R203) -/

/-- The notices waiting: each holds one of the 48 slots (R202). -/
def noticesWaiting (tx : List Frame) : Nat :=
  (tx.filter fun f => match f with | .notice _ => true | _ => false).length

/-- The transmitter begins the oldest waiting frame when none is being sent, HOLD# is high (R203) and RESET# is
not low (R205). -/
def startTx (s : State) : State :=
  if !s.link.sending && !s.link.tx.isEmpty && s.pins.holdHigh && s.pins.resetHigh then
    s.withLink { s.link with sending := true }
  else s

/-- A composed frame joins the tail of the transmit queue (R202). -/
def pushFrame (f : Frame) (s : State) : State := startTx (s.withLink { s.link with tx := s.link.tx ++ [f] })

/-- Whether a notice finds a free slot among the 48 (R202). -/
def noticeRoom (s : State) : Bool := noticesWaiting s.link.tx < 48

/-! ## Fault reports (R187 to R193) -/

/-- A kind's row number, in the order of section 10.1. -/
def FaultKind.row (k : FaultKind) : Nat := enumCode faultKinds k

/-- What an unlisted row would read as; the recorder holds all sixteen. -/
def noFaultRow : FaultRow := ⟨.ignore, 0, false⟩

/-- A kind's row of the recorder. -/
def Recorder.rowOf (r : Recorder) (k : FaultKind) : FaultRow := r.rows.getD k.row noFaultRow

/-- Severity as a rank: IGNORE below NOTE below ALERT (R187). -/
def Severity.rank : Severity → Nat
  | .ignore => 0
  | .note => 1
  | .alert => 2

/-- Whether a report at this severity replaces the capture: it is empty, or holds a lower severity (R191). -/
def capturesOver (v : Severity) (c : Option Capture) : Bool :=
  v != .ignore && c.all fun c => c.severity.rank < v.rank

/-- The recorder after a report: count, summary and capture (R189, R190, R191). -/
def Recorder.take (r : Recorder) (k : FaultKind) (f : FaultFields) (time : Nat) : Recorder :=
  let row := r.rowOf k
  let count := satAdd 255 row.count 1
  { rows := r.rows.set k.row ⟨row.severity, count, row.inSummary || row.severity != .ignore⟩
    capture := if capturesOver row.severity r.capture then some ⟨k, row.severity, time, f, count⟩ else r.capture }

/-- A FAULT notice finds a slot or is dropped; the drop of a FAULT notice sets the flag and raises no further
report (R193). -/
def sendFaultNotice (n : Notice) (s : State) : State :=
  if noticeRoom s then pushFrame (.notice n) s else s.withLink { s.link with noticesLost := true }

/-- A block's fault report, taken as one event (R187): at ALERT it also sends FAULT (R192). Ship time is 0
while the clock is NOT-SET (R29, R191). -/
def report (k : FaultKind) (f : FaultFields) (s : State) : State :=
  let row := s.frc.rowOf k
  let s' := s.withFrc (s.frc.take k f s.clock.shipTime)
  if row.severity = .alert then
    sendFaultNotice (.fault k row.severity s.clock.shipTime f (satAdd 255 row.count 1) (capturesOver row.severity s.frc.capture)) s'
  else s'

/-- A block's notice: it takes a free slot, or is dropped with the notices-lost flag set and NOTICE-LOST reported
(R193, R202). -/
def notify (n : Notice) (s : State) : State :=
  if noticeRoom s then pushFrame (.notice n) s
  else report .noticeLost {} (s.withLink { s.link with noticesLost := true })

/-! ## Replies (R201) -/

/-- The reply to a request enters the transmit queue. -/
def reply (id : ReqId) (b : Body) (s : State) : State := pushFrame (.reply id b 0) s

/-- A reply of a result and its fields. -/
def answer (id : ReqId) (r : Result) (fs : List Fld) (s : State) : State := reply id (.plain r fs) s

/-- The reply to a request that waited, unless a warm reset has lost it (R186). -/
def replyWaiting (id : Option ReqId) (b : Body) (s : State) : State := id.elim s fun id => reply id b s

/-! ## Acceptance of a request (R200) -/

/-- A tag in use: of an outstanding request or of a pending BUSY answer (R200 step 2). -/
def tagInUse (l : Link) (tag : Nat) : Bool := l.outstanding.any (·.tag = tag) || l.busy.any (·.tag = tag)

/-- The receiver takes nothing while the supply is down or RESET# is low (R205, R212). -/
def receiving (s : State) : Bool := s.supply && s.pins.resetHigh

/-- R200 step 3: the sixteen outstanding requests leave room only for a BUSY answer, of which eight may wait. -/
def refuseBusy (id : ReqId) (s : State) : State :=
  if s.link.busy.length < 8 then pushFrame (.busy id) (s.withLink { s.link with busy := s.link.busy ++ [id] })
  else s.withLink { s.link with discarded := satAdd 65535 s.link.discarded 1 }

/-- The request joins the outstanding list (R200 step 4). -/
def enlist (id : ReqId) (s : State) : State :=
  s.withLink { s.link with outstanding := s.link.outstanding ++ [id] }

/-- The steps of R200 for a good frame of a request kind: `need` is the LENGTH the kind requires, `always` says
that STARTING does not refuse it, and `act` is the owner's answer at step 8. -/
def accept (kind : Nat) (h : Hdr) (need : Nat) (always : Bool) (act : ReqId → State → State) (s : State) : State :=
  if receiving s then
    let s := s.withLink { s.link with rx := .hunting }
    let id : ReqId := ⟨kind, h.tag⟩
    if h.tag = 0 then report .linkForm { req := some id } s
    else if tagInUse s.link h.tag then report .linkForm { req := some id } s
    else if 16 ≤ s.link.outstanding.length then refuseBusy id s
    else
      let s := enlist id s
      if h.len ≠ need then answer id .badLength [] s
      else if s.starting && !always then answer id .starting [] s
      else act id s
  else s

/-- An event of the part itself is taken while the supply holds it out of cold reset (R212). -/
def powered (act : State → State) (s : State) : State := if s.supply then act s else s

end Sys2Proof.Machine
end

