-- ==== Sys2Proof/Machine/StoreOps.lean ====
section
/-! DEFINITION. The store's shared operations (chapter 9): the queue, the interrupted marker, the begin of a
write with its content fixed, and the image. -/

namespace Sys2Proof.Machine

open Sys2Proof

/-- The queue holds up to 8 requests, the one being written among them (R178). -/
def storeFull (s : State) : Bool := 8 ≤ s.store.queue.length

def StoreReq.kind : StoreReq → StoreKind
  | .slot _ _ _ _ => .slot
  | .entry _ _ _ => .entry
  | .settle _ _ => .settle
  | .muster => .muster
  | .day => .day

/-- A request of this kind stands in the queue, waiting or being written. -/
def queued (k : StoreKind) (s : State) : Bool := s.store.queue.any (·.kind = k)

/-- What the interrupted marker names for a write: its kind, and the person, sequence number, muster number or day
the write carries (R180, R185). -/
def WriteContent.marker : WriteContent → Marker
  | .slot p _ => ⟨.slot, p⟩
  | .entry _ e _ => ⟨.entry, e.seq⟩
  | .settle last => ⟨.settle, last⟩
  | .muster r => ⟨.muster, r.number⟩
  | .day d => ⟨.day, d⟩

/-- The identifier a marker names, at the size of its kind: a person number and a day take two bytes, a sequence number and a muster
number four (R185, R208). -/
def Marker.idField (m : Marker) : Fld :=
  match m.kind with
  | .slot | .day => .n2 m.id
  | .entry | .settle | .muster => .n4 m.id

/-- One try at writing the marker and reading it back; whether it agrees is a free choice (log 4). -/
def markerTry (s : State) : Bool × State := ((draw s).1 % 2 = 0, (draw s).2)

/-- Setting or clearing the marker: a write of the marker alone, made once more when the read-back disagrees; when
the second try disagrees too, STORE-FAULT with no optional field, and the old marker stays (R180). Neither count of STORE-QUERY
moves for it. DESIGN CHOICE (log 45), unsafe. -/
def writeMarker (m : Option Marker) (s : State) : State :=
  let first := markerTry s
  if first.1 then first.2.withImage { first.2.image with marker := m }
  else
    let second := markerTry first.2
    if second.1 then second.2.withImage { second.2.image with marker := m } else report .storeFault {} second.2

/-- A journal-entry place is free when it holds no entry, or one at or below the settled-through value (R177). -/
def placeFree (img : Image) (p : Nat) : Bool :=
  (Table.read none img.entries p).all fun r => r.entry.seq ≤ img.settledThrough

/-- The lowest-numbered free place (R179). -/
def freePlace? (img : Image) : Option Nat := (List.range 512).find? (placeFree img)

/-- The number of free places (R182). -/
def freePlaces (img : Image) : Nat := ((List.range 512).filter (placeFree img)).length

/-- The place an ENTRY write takes. R167 guarantees a free one; where the state has none the place is a value off
the spec (log 20). -/
def entryPlace (img : Image) : Nat := (freePlace? img).getD (Config.offSpec img.settledThrough)

/-- The appends queued whose numbers have not been assigned (R165). -/
def unnumberedAppends (s : State) : Nat :=
  ((s.store.queue.drop (if s.store.write.isSome then 1 else 0)).filter (·.kind = .entry)).length

/-- The next sequence number after `n`: EXHAUSTED after 4,294,967,295 (R164). -/
def nextAfter (n : Nat) : Option Nat := if n < maxTime then some (n + 1) else none

/-- Whether one more append finds a number: not EXHAUSTED, and enough numbers remain for those queued before it
(R165; log 19). -/
def numbersRemain (s : State) : Bool :=
  s.journal.next.any fun n => unnumberedAppends s + 1 ≤ maxTime + 1 - n

/-- The number an append's write assigns. R165 keeps the numbering from running out under a queued append; where
the state is EXHAUSTED all the same, the number is a value off the spec (log 20). -/
def assignedNumber (s : State) : Nat := s.journal.next.getD (Config.offSpec 0)

/-- JNL completes the entry when its write begins: sequence number, ship time and voyage day (R165, R179). -/
def completeEntry (a : Append) (s : State) : JournalEntry :=
  { seq := assignedNumber s, folio := a.folio, card := a.card, person := a.person, portal := a.portal, net := a.net,
    gratuity := a.gratuity, total := a.total, alcohol := a.alcohol, time := s.clock.shipTime, day := s.clock.day }

/-- The content a write carries, fixed when it begins (R179). -/
def fixedContent (r : StoreReq) (s : State) : WriteContent :=
  match r with
  | .slot p c _ _ => .slot p c
  | .entry _ a _ => .entry (entryPlace s.image) (completeEntry a s) (nextAfter (assignedNumber s))
  | .settle last _ => .settle last
  | .muster => .muster s.emu.record
  | .day => .day s.clock.day

/-- What the requester does as its write begins: an append's number is assigned and the next one raised (R164); a
muster record write carries the changes of all who await one (R108). -/
def requesterBegins (r : StoreReq) (s : State) : State :=
  match r with
  | .entry _ _ _ => s.withJournal { s.journal with next := nextAfter (assignedNumber s) }
  | .muster => s.withEmu { s.emu with waiters := s.emu.waiters.map fun w => { w with carried := true } }
  | .slot _ _ _ _ | .settle _ _ | .day => s

/-- The request at the head of the queue begins its write, when no write is under way (R179); the first attempt
makes the marker name the record (R180). -/
def beginWrite (s : State) : State :=
  match s.store.write, s.store.queue with
  | none, r :: _ =>
    let c := fixedContent r s
    let s := requesterBegins r s
    writeMarker (some c.marker) (s.withStore { s.store with write := some ⟨c, false⟩ })
  | _, _ => s

/-- A request that found room joins the tail; it begins at once when the queue was empty (R178, R179). -/
def enqueue (r : StoreReq) (s : State) : State :=
  let s' := s.withStore { s.store with queue := s.store.queue ++ [r] }
  if s.store.queue.isEmpty then beginWrite s' else s'

/-- The image with a completed write's content in the place of the record's old content (R180). -/
def Image.apply (img : Image) : WriteContent → Image
  | .slot p c => { img with slots := Table.write defaultSlotRecord p c img.slots }
  | .entry place e next => { img with entries := Table.write none place (some ⟨e, next⟩) img.entries }
  | .settle last => { img with settledThrough := last }
  | .muster r => { img with muster := some r }
  | .day d => { img with day := some d }

/-- The stored day: the day record, or 0 where the store holds none (R39). -/
def storedDay (s : State) : Nat := s.image.day.getD 0

/-! ## The journal as its neighbours read it (R169) -/

/-- The journal entries that name a folio. -/
def entriesOfFolio (s : State) (f : Nat) : List JournalEntry := s.journal.entries.filter (·.folio = f)

/-- The sum of their totals. -/
def journalSum (s : State) (f : Nat) : Nat := ((entriesOfFolio s f).map (·.total)).sum

/-- The appends in flight: the ENTRY requests of the store's queue (R165). -/
def appendsInFlight (s : State) : Nat := (s.store.queue.filter (·.kind = .entry)).length

end Sys2Proof.Machine
end

