-- ==== Sys2Proof/Machine/CardOps.lean ====
section
/-! DEFINITION. The card table's shared operations (chapter 1): set index, day counters, check failures, way
retirement, lookup, allocation, the fetch list, and PUR's three calls. -/

namespace Sys2Proof.Machine

open Sys2Proof

/-- The set index: the exclusive-or of the four bytes of the card number (R4). -/
def setIndex (c : Nat) : Nat :=
  (c % 256) ^^^ (c / 256 % 256) ^^^ (c / 65536 % 256) ^^^ (c / 16777216 % 256)

/-! ## The day counters and the writes of an entry (R2) -/

/-- The effective day counters: zero when the stamp is not the current voyage day (R2). -/
def CardEntry.spend (e : CardEntry) (day : Nat) : Nat := if e.dayStamp = day then e.daySpend else 0
def CardEntry.alcohol (e : CardEntry) (day : Nat) : Nat := if e.dayStamp = day then e.dayAlcohol else 0

/-- An entry brought up to date before a write (R2). -/
def CardEntry.refresh (e : CardEntry) (day : Nat) : CardEntry :=
  { e with dayStamp := day, daySpend := e.spend day, dayAlcohol := e.alcohol day }

/-- A write of a valid entry: brought up to date, changed, and its check code recomputed (R2, R3). -/
def writeEntry (set way : Nat) (f : CardEntry → CardEntry) (s : State) : State :=
  match s.entry set way with
  | some e => s.setEntry set way (some { f (e.refresh s.clock.day) with codeDiff := 0 })
  | none => s

/-- The stored check code: the computed one, off by `codeDiff` (R3, log 6). -/
def CardEntry.storedCode (e : CardEntry) : Byte :=
  e.codeDiff ^^^ Config.checkCode
    ([e.card, e.gen, e.person, e.folio, enumCode cardClasses e.cls, yesCode e.drinkingAge, yesCode e.chargeEnabled, e.cap,
      e.grants.length] ++ e.grants.map grantCode
      ++ [e.validFrom, e.validUntil, yesCode e.revoked, yesCode e.resident, e.holdCount, e.dayStamp, e.daySpend,
        e.dayAlcohol, yesCode e.suspect])

/-! ## What the hold table answers CTB (R160) -/

/-- The hold a slot holds, if it is not FREE. -/
def HoldSlot.hold? (h : HoldSlot) : Option Hold :=
  match h.body with
  | .free => none
  | .held h _ => some h
  | .committing h _ => some h

/-- Every non-FREE hold with its slot number, in slot order. -/
def openHolds (s : State) : List (Nat × Hold) := s.purse.holds.filterMap fun p => p.2.hold?.map fun h => (p.1, h)

/-- The non-FREE holds that name a card. -/
def holdsOfCard (s : State) (c : Nat) : List Hold := ((openHolds s).map (·.2)).filter (·.card = c)

/-! ## Leaving the table (R14) -/

/-- A valid entry leaves the table: DAY-TALLY when its counters are for today and not both zero. -/
def leaveTable (set way : Nat) (s : State) : State :=
  match s.entry set way with
  | none => s
  | some e =>
    let s := if e.dayStamp = s.clock.day && (0 < e.daySpend || 0 < e.dayAlcohol) then
        notify (.dayTally e.card e.dayStamp e.daySpend e.dayAlcohol) s
      else s
    s.setEntry set way none

/-! ## Check failures and way retirement (R3, R5, R6, R9) -/

/-- Whether a read's verification fails: a suspect entry is not verified again (R3). -/
def CardEntry.fails (e : CardEntry) : Bool := !e.suspect && e.codeDiff != 0

/-- A card that the entry at this position may answer for: its number indexes to the set, no other valid entry of
the set holds it, and a non-FREE hold names it (R5). -/
def mayAnswerFor (set way : Nat) (s : State) (c : Nat) : Bool :=
  setIndex c = set && !((List.range 4).any fun w => w != way && (s.entry set w).any (·.card = c))
    && !(holdsOfCard s c).isEmpty

/-- The card an entry whose check failed answers for: the number it held, otherwise the lowest that qualifies (R5). -/
def answersFor (set way : Nat) (e : CardEntry) (s : State) : Option Nat :=
  if mayAnswerFor set way s e.card then some e.card
  else (((openHolds s).map (·.2.card)).filter (mayAnswerFor set way s)).min?

/-- The entry rebuilt from the card's open holds, and suspect (R6). The person and folio are those of the
lowest-numbered slot: DESIGN CHOICE (log 18), unsafe. -/
def CardEntry.rebuild (e : CardEntry) (c : Nat) (s : State) : CardEntry :=
  let hs := holdsOfCard s c
  let today := hs.filter (·.day = s.clock.day)
  { e with
    card := c, person := (hs.head?.map (·.person)).getD e.person, folio := (hs.head?.map (·.folio)).getD e.folio,
    holdCount := hs.length, dayStamp := s.clock.day, daySpend := min maxAmount (today.map (·.total)).sum,
    dayAlcohol := min 255 (today.map (·.alcohol)).sum, resident := false, suspect := true, codeDiff := 0 }

/-- A failed entry is invalidated, with no DAY-TALLY (R5), or rebuilt and made suspect (R6). -/
def settleFailed (set way : Nat) (e : CardEntry) (s : State) : State :=
  s.setEntry set way ((answersFor set way e s).map fun c => e.rebuild c s)

/-- CARD-CHECK carries the number the failed entry held (R5; log 18). -/
def reportCheck (e : CardEntry) (s : State) : State := report .cardCheck { card := some e.card } s

/-- A failed entry is dealt with and its way's count rises by one unless it is 4 (R5, R6). Made suspect before the way is
retired, so that the retirement finds its true hold count (log 18). -/
def failEntry (set way : Nat) (e : CardEntry) (s : State) : State :=
  let s := settleFailed set way e s
  let h := s.way way
  reportCheck e (s.setWay way { h with faults := min 4 (h.faults + 1) })

/-- A failure in a way that is already disabled: when it brings the count to 4, WAY-RETIRED and nothing more (R9). -/
def failDisabled (set way : Nat) (e : CardEntry) (s : State) : State :=
  let reached := (s.way way).faults = 3
  let s := failEntry set way e s
  if reached then report .wayRetired { way := some way } s else s

/-- One entry of a way being retired: verified, and invalidated with DAY-TALLY when its hold count is 0. A check that fails
in the pass leaves the way's count as it is: it stays at 4 (R9), or keeps its value (R11). -/
def retireEntry (way : Nat) (s : State) (set : Nat) : State :=
  let s := match s.entry set way with
    | some e => if e.fails then reportCheck e (settleFailed set way e s) else s
    | none => s
  match s.entry set way with
  | some e => if e.holdCount = 0 then leaveTable set way s else s
  | none => s

/-- The sets whose entry in a way is valid, ascending (log 17). -/
def setsOfWay (s : State) (way : Nat) : List Nat :=
  (s.cards.entries.filter fun p => p.1 % 4 = way).map fun p => p.1 / 4

/-- A way is retired: disabled, WAY-RETIRED when a fault count did it, and its entries gone through (R9, R11). -/
def retireWay (way : Nat) (byFault : Bool) (s : State) : State :=
  let s := s.setWay way { s.way way with enabled := false }
  let s := if byFault then report .wayRetired { way := some way } s else s
  (setsOfWay s way).foldl (retireEntry way) s

/-- A read whose verification failed, in any way (R5, R6, R9). -/
def failCheck (set way : Nat) (e : CardEntry) (s : State) : State :=
  if (s.way way).enabled then
    let reached := (s.way way).faults = 3
    let s := failEntry set way e s
    if reached then retireWay way true s else s
  else failDisabled set way e s

/-- A read of the entry at a position: verified before its result is used (R3). -/
def verify (set way : Nat) (s : State) : State :=
  match s.entry set way with
  | some e => if e.fails then failCheck set way e s else s
  | none => s

/-! ## Finding a card (R4) -/

/-- A lookup sees a valid entry in an enabled way, or in a disabled one with open holds (R4, R10). -/
def sees (s : State) (w : Nat) (e : CardEntry) : Bool := (s.way w).enabled || 0 < e.holdCount

/-- The way whose entry a lookup of the card matches (R4). Where corruption has made two valid entries of the set read one
number (R5 speaks of it), R4 does not say which it compares: the lowest way's. DESIGN CHOICE (log 43), unsafe. -/
def findWay (s : State) (c : Nat) : Option Nat :=
  (List.range 4).find? fun w => (s.entry (setIndex c) w).any fun e => e.card = c && sees s w e

/-- The way of the set whose valid entry holds the card's number, whatever its way and its hold count (R17, R21). -/
def entryWay (s : State) (c : Nat) : Option Nat :=
  (List.range 4).find? fun w => (s.entry (setIndex c) w).any (·.card = c)

/-- The card's entry, read among some ways of its set in turn: the first that reads the number and still does once it is
verified, with where it stands. An entry whose check fails and that is invalidated, or rebuilt for another card (R5, R6), is
not the card's, and the ways after it are read. DEDUCED (log 38), unsafe; the order of the ways, log 43. -/
def readAmong (may : Nat → CardEntry → Bool) (c : Nat) : List Nat → State → Option (Nat × CardEntry) × State
  | [], s => (none, s)
  | w :: ws, s =>
    if (s.entry (setIndex c) w).any fun e => e.card = c && may w e then
      let s := verify (setIndex c) w s
      match s.entry (setIndex c) w with
      | some e => if e.card = c then (some (w, e), s) else readAmong may c ws s
      | none => readAmong may c ws s
    else readAmong may c ws s

/-- A read of the card's entry as a lookup sees it, which moves no pointer (R20). -/
def readSeen (c : Nat) (s : State) : Option (Nat × CardEntry) × State := readAmong (sees s) c (List.range 4) s

/-- A read of the card's valid entry, in whatever way (R15, R17, R21, R27). -/
def readCard (c : Nat) (s : State) : Option (Nat × CardEntry) × State := readAmong (fun _ _ => true) c (List.range 4) s

/-- A lookup (R4): a hit gives the entry and moves the pointer off the way it names (R13); a failed check and a
suspect entry are misses. -/
def lookup (c : Nat) (s : State) : Option CardEntry × State :=
  match findWay s c with
  | none => (none, s)
  | some w =>
    let set := setIndex c
    let s := verify set w s
    match s.entry set w with
    | some e =>
      if e.suspect then (none, s) else (some e, if s.pointer set = w then s.setPointer set ((w + 1) % 4) else s)
    | none => (none, s)

/-! ## The calls of PUR (R21) -/

/-- A call on the card's valid entry: a read, then a write. The change sees the entry as read and as brought up to
date. -/
def callEntry (c : Nat) (f : CardEntry → CardEntry → CardEntry) (s : State) : State :=
  match readCard c s with
  | (some (w, e), s) => writeEntry (setIndex c) w (f e) s
  | (none, s) => s

/-- The authorization call (R21): the hold count rises, total and alcohol units are added, saturating. -/
def callAuthorize (c total alcohol : Nat) (s : State) : State :=
  callEntry c (fun _ e => { e with
    holdCount := e.holdCount + 1, daySpend := satAdd maxAmount e.daySpend total,
    dayAlcohol := satAdd 255 e.dayAlcohol alcohol }) s

/-- A signed adjustment that stops at 0 and at the maximum (R21). -/
def adjust (cap : Nat) (v : Nat) (by' : Int) : Nat := min cap ((v : Int) + by').toNat

/-- The day adjustment (R21): made when the hold's day equals the stamp before the entry is brought up to date. -/
def callAdjust (c : Nat) (spend alcohol : Int) (day : Nat) (s : State) : State :=
  callEntry c (fun old e =>
    if old.dayStamp = day then
      { e with daySpend := adjust maxAmount e.daySpend spend, dayAlcohol := adjust 255 e.dayAlcohol alcohol }
    else e) s

/-- The hold end (R21): the hold count falls; at 0 on a suspect entry or in a disabled way the entry leaves (R10). -/
def callHoldEnd (c : Nat) (s : State) : State :=
  match readCard c s with
  | (some (w, _), s) =>
    let set := setIndex c
    let s := writeEntry set w (fun e => { e with holdCount := e.holdCount - 1 }) s
    match s.entry set w with
    | some e => if e.holdCount = 0 && (e.suspect || !(s.way w).enabled) then leaveTable set w s else s
    | none => s
  | (none, s) => s

/-! ## Allocation (R12, R13) -/

/-- Every valid entry in the set's enabled ways is verified (R12), in rising order of way, which shows where two of them fail; R12
gives no order. DESIGN CHOICE (log 17), unsafe. -/
def verifySet (set : Nat) (s : State) : State :=
  (List.range 4).foldl (fun s w => if (s.way w).enabled then verify set w s else s) s

/-- The way a new entry takes: an enabled way whose entry is not valid, otherwise the replacement walk (R12). -/
def chooseWay (s : State) (set : Nat) : Option Nat :=
  match (List.range 4).find? fun w => (s.way w).enabled && (s.entry set w).isNone with
  | some w => some w
  | none =>
    ((List.range 4).map fun i => (s.pointer set + i) % 4).find? fun w =>
      (s.way w).enabled && (s.entry set w).any fun e => !e.resident && e.holdCount = 0

/-- A new entry is written into the way the allocation chooses, the valid entry there evicted first (R12 to R14,
R18); `none` where the allocation fails. The set has been verified. -/
def install (e : CardEntry) (s : State) : Option Nat × State :=
  let set := setIndex e.card
  match chooseWay s set with
  | none => (none, s)
  | some w => (some w, ((leaveTable set w s).setEntry set w (some e)).setPointer set ((w + 1) % 4))

/-! ## The fetch list (R22) -/

/-- The number and the fetch pending for a card. -/
def fetchOf (s : State) (c : Nat) : Option (Nat × Fetch) :=
  ((List.range 16).filterMap fun n => (s.fetch n).map fun f => (n, f)).find? fun p => p.2.card = c

/-- The lowest free fetch number (R22). -/
def freeFetch (s : State) : Option Nat := (List.range 16).find? fun n => (s.fetch n).isNone

/-- A presentation that needs a fetch joins the card's, starts one, or finds no room (R22): `false` is FETCH-FULL. -/
def startFetch (p : Presentation) (s : State) : Bool × State :=
  match fetchOf s p.card with
  | some (n, f) =>
    if f.waiting.length < 4 then (true, s.setFetch n (some { f with waiting := f.waiting ++ [p] })) else (false, s)
  | none =>
    match freeFetch s with
    | none => (false, s)
    | some n =>
      (true, notify (.cardWanted n p.card p.gen) (s.setFetch n (some ⟨p.card, p.gen, false, [p], s.now + s.cards.fetchWait⟩)))

/-- How CTB settles a lookup request (R7). -/
inductive CardAnswer where
  | handedBack (e : CardEntry)
  | refused (r : Result)
  | waiting
  deriving DecidableEq, Repr

/-- CTB's answer to a block's lookup request: card number 0, a hit compared by generation (R8), or a fetch (R7). -/
def askCard (p : Presentation) (s : State) : CardAnswer × State :=
  let fetch (s : State) : CardAnswer × State :=
    let (ok, s) := startFetch p s
    (if ok then .waiting else .refused .fetchFull, s)
  if p.card = 0 then (.refused .noRecord, s)
  else
    match lookup p.card s with
    | (some e, s) =>
      if p.gen < e.gen then (.refused .superseded, s)
      else if p.gen = e.gen then (.handedBack e, s)
      else fetch s
    | (none, s) => fetch s

end Sys2Proof.Machine
end

