-- ==== Sys2Proof/Machine/Flags.lean ====
section
/-! DEFINITION. The flags and lines that follow from the state: the ALERT shares and output, the emergency
condition's sources, what is due in ship time, the capacity check, and the charge arithmetic with its
judgements. -/

namespace Sys2Proof.Machine

open Sys2Proof

/-! ## ALERT (R196, R212) -/

/-- EMU's share: the emergency latch (R100). -/
def alertEmu (s : State) : Bool := s.emu.latch

/-- PRL's share: the capacity warning stands (R84). -/
def alertPrl (s : State) : Bool := s.roll.standing

/-- PTU's share: a portal is in FORCED or HELD-OPEN (R55). -/
def alertPtu (s : State) : Bool := s.ptu.portals.any fun p => p.2.state = .forced || p.2.state = .heldOpen

/-- The ALERT output: asserted while a share is (R196), low during reset (R212). -/
def alertLine (s : State) : Bool := s.supply && s.pins.resetHigh && (alertEmu s || alertPrl s || alertPtu s)

/-! ## The emergency condition (R99) -/

def LineFilter.source (l : LineFilter) : Bool := l.enabled && l.active

/-- At least one of the three sources holds. -/
def conditionNow (e : Emergency) : Bool := e.lineA.source || e.lineB.source || e.declared

/-! ## Ship time (R31, R32, R38, R87, R150) -/

/-- The computed day (R32). -/
def computedDay (c : Clock) : Nat := (c.shipTime - c.offset) / 86400

/-- The deadline event is due (R87). -/
def deadlineDue (s : State) : Bool := s.clock.isSet && !s.roll.passed && s.roll.deadline.any (· ≤ s.clock.shipTime)

/-- The expiry of a slot's HELD hold is due (R150). -/
def holdDue (s : State) (slot : Nat) : Bool :=
  match (s.holdSlot slot).body with
  | .held _ expiry => s.clock.isSet && expiry ≤ s.clock.shipTime
  | _ => false

/-- The validity window against ship time, both ends inclusive (R38). -/
def windowRefusal (e : CardEntry) (s : State) : Option Result :=
  if s.clock.shipTime < e.validFrom then some .notYetValid
  else if e.validUntil < s.clock.shipTime then some .expired
  else none

/-! ## The roll (R71, R72, R83, R84) -/

/-- The aboard total (R71). -/
def aboardTotal (r : Roll) : Nat := r.aboardGuests + r.aboardCrew

/-- The capacity check: the reserved total plus one is at or below the certified limit (R83). -/
def capacityOk (r : Roll) : Bool := aboardTotal r + r.departures + 1 ≤ r.limit

/-- The clear level: the warning level less the hysteresis, or 0 (R84). -/
def clearLevel (r : Roll) : Nat := r.level - r.hysteresis

/-- A slot's write-pending mark (R72). -/
def writePending (s : State) (person : Nat) : Bool := (s.beforeImage person).isSome

/-! ## The charge arithmetic (R127 to R132) -/

/-- Net, gratuity and total of a purchase. -/
structure Charge where
  net : Nat
  gratuity : Nat
  total : Nat
  deriving DecidableEq, Repr

/-- The discount rounds down, the gratuity to the nearest with a half up (R127, R128). -/
def chargeOf (subtotal discount gratuity : Nat) : Charge :=
  let net := subtotal - subtotal * discount / 10000
  let g := (net * gratuity + 5000) / 10000
  ⟨net, g, net + g⟩

/-- The available amount, signed (R131). -/
def available (f : Folio) : Int := (f.limit : Int) - f.balance - f.exposure

/-- The tier: how many boundaries are at or below the amount (R132). -/
def tierOf (r : ClassRates) (amount : Nat) : Nat := ([r.b1, r.b2, r.b3, r.b4].filter (· ≤ amount)).length

/-- The request's own amounts are in range (R126). -/
def amountsOk (a : ChargeAmounts) : Bool :=
  1 ≤ a.subtotal && a.subtotal ≤ 999999 && a.alcohol ≤ 15 && a.gratuityClass ≤ 7

/-- A refusal of check 11 with the detail, tier and room it carries (R124). -/
structure ChargeRefusal where
  result : Result
  detail : Nat := 0
  tier : Nat := 0
  room : Nat := 0
  deriving DecidableEq, Repr

/-- The five judgements of check 11, in order (R129 to R132): the first that fails. -/
def judge (a : ChargeAmounts) (e : CardEntry) (day : Nat) (f : Folio) (r : ClassRates) (c : Charge) : Option ChargeRefusal :=
  let spend := e.spend day
  let tier := tierOf r (spend + c.total)
  if 0 < a.alcohol && !e.drinkingAge then some { result := .age }
  else if r.alcoholCap < e.alcohol day + a.alcohol then some { result := .pacing }
  else if e.cap < spend + c.total then some { result := .dailyCap, room := e.cap - spend }
  else if available f < c.total then some { result := .limit, room := (available f).toNat }
  else if tier = 2 && !a.pinVerified then some { result := .verify, detail := 2, tier := 2 }
  else if tier = 3 && !a.staffOverride then some { result := .verify, detail := 3, tier := 3 }
  else if tier = 4 then some { result := .ceiling, tier := 4 }
  else none

end Sys2Proof.Machine
end

