-- ==== Sys2Proof/Machine/DoorOps.lean ====
section
/-! DEFINITION. The portal unit's shared operations (chapter 3): capture, placement, the entry into EMERGENCY, the
door step, alarms, strike failure, retiming; and the decision replies of presentations (R210). -/

namespace Sys2Proof.Machine

open Sys2Proof

/-! ## Decision replies (R53, R80, R113, R210) -/

/-- The request a presentation answers: AUTHORIZE for a charge, PRESENT otherwise. -/
def Presentation.id (p : Presentation) : ReqId :=
  match p.job with
  | .charge _ => ⟨Kind.authorize, p.tag⟩
  | .door | .gangway | .muster => ⟨Kind.present, p.tag⟩

/-- The decision of a presentation with the fields its class uses (R53, R80, R113, R210), as the working values stand. The class is
the one the presentation was routed by, whatever its portal has become since: DEDUCED (log 24), unsafe. The person is named when an
entry or record was handed back; before that a lane's reply has no person's state to give and holds 0 there: DESIGN CHOICE (log 41),
unsafe. -/
def decisionFor (p : Presentation) (outcome : Result) (person : Option Nat) (s : State) : Decision :=
  let d : Decision := { outcome := outcome, portal := p.portal, person := person }
  let state := enumCode portalStates (s.portal p.portal).state
  match p.job with
  | .door => { d with portalState := state }
  | .gangway =>
    { d with
      portalState := state, aboardTotal := aboardTotal s.roll,
      personState := person.elim 0 fun n => enumCode personStates (s.person n).state }
  | .muster =>
    { d with
      portalState := state, mustered := s.emu.mustered, detail := (person.bind fun n => (s.person n).mark).getD 0 }
  | .charge _ => d

/-- The presentation is answered. -/
def decide' (p : Presentation) (d : Decision) (s : State) : State := reply p.id (.decision d) s

/-- The presentation is refused before any entry was handed back. -/
def refuse (p : Presentation) (r : Result) (s : State) : State := decide' p (decisionFor p r none s) s

/-- The presentation is refused after an entry or record was handed back. -/
def refuseFor (p : Presentation) (e : CardEntry) (r : Result) (s : State) : State :=
  decide' p (decisionFor p r (some e.person) s) s

/-! ## Portals (R41 to R43, R66) -/

/-- The door classes (R41). -/
def PortalClass.isDoor : PortalClass → Bool
  | .cabin | .crewDoor | .venueDoor => true
  | .gangway | .muster | .terminal => false

/-- A door portal is configured with a door class, disabled or not (R41). -/
def Portal.isDoor (p : Portal) : Bool := p.cls.any PortalClass.isDoor

/-- Configured, not disabled and of this class. -/
def Portal.serves (p : Portal) (c : PortalClass) : Bool := p.cls = some c && !p.disabled

/-- Every timer stopped, no strike confirmation awaited. -/
def Portal.stopped (p : Portal) : Portal :=
  { p with releaseTimer := none, heldOpenTimer := none, strikeTimer := none, strikePending := false }

/-- A door portal leaves SECURE: its timing set is copied (R66). From any other state the copy stays. -/
def Portal.leaving (p : Portal) (s : State) : Portal :=
  if p.state = .secure && p.isDoor then { p with captured := s.timing p.timingSet } else p

/-- The running timers' limits from the captured copy (R66). -/
def Timing.releaseMs (t : Timing) : Nat := 1000 * t.release
def Timing.heldOpenMs (t : Timing) : Nat := 1000 * t.heldOpen

/-! ## Alarms and lock commands (R55, R68) -/

/-- The fault an alarm records (R55). -/
def DoorAlarm.fault : DoorAlarm → Option FaultKind
  | .forced => some .doorForced
  | .held => some .doorHeld
  | .strike => some .strikeFault
  | .forcedCleared | .heldCleared => none

/-- DOOR-ALARM with the portal's state after the event, then the fault it records (R55, R192). -/
def alarm (n : Nat) (k : DoorAlarm) (s : State) : State :=
  let s := notify (.doorAlarm n k (s.portal n).state s.clock.shipTime) s
  k.fault.elim s fun f => report f { portal := some n } s

/-- PORTAL-DRIVE to a portal's lock (R68). -/
def drive (n : Nat) (d : Drive) (s : State) : State := notify (.portalDrive n d) s

/-- The cleared alarm of a portal that left an alarm state (R55). -/
def clearAlarm (n : Nat) (was : PortalState) (s : State) : State :=
  match was with
  | .forced => alarm n .forcedCleared s
  | .heldOpen => alarm n .heldCleared s
  | .secure | .released | .opened | .emergency | .outOfService => s

/-! ## EMERGENCY and placement (R43, R102) -/

/-- A door portal enters EMERGENCY (R102); `tell` is no at a warm reset, which sends no notice (R69). -/
def enterEmergency (tell : Bool) (n : Nat) (s : State) : State :=
  let p := s.portal n
  let s := s.setPortal n { (p.leaving s).stopped with state := .emergency }
  if tell then
    let s := clearAlarm n p.state s
    drive n (if p.preset = .release then .holdReleased else .relock) s
  else s

/-- The placement step sets a configured portal's state from its fields as they stand (R43). -/
def place (tell : Bool) (n : Nat) (s : State) : State :=
  let p := s.portal n
  if p.isDoor && p.preset != .normal && s.emu.condition then
    if p.state = .emergency then s.setPortal n p.stopped else enterEmergency tell n s
  else if p.disabled then s.setPortal n { (p.leaving s).stopped with state := .outOfService }
  else s.setPortal n { p.stopped with state := .secure }

/-- A held door returns to service: placement, and RELOCK for a RELEASE preset (R104, R105). -/
def resumeDoor (n : Nat) (s : State) : State :=
  let preset := (s.portal n).preset
  let s := place true n s
  if preset = .release then drive n .relock s else s

/-- The numbers of the portals that meet a condition, ascending (R47, R103). -/
def portalsWhere (f : Portal → Bool) (s : State) : List Nat := (s.ptu.portals.filter fun p => f p.2).map (·.1)

/-! ## The door step (R52, R63) -/

/-- A SECURE door is released: captured, RELEASED, release timer, and the strike confirmation if required (R52). -/
def releaseSecure (n : Nat) (s : State) : State :=
  let p := (s.portal n).leaving s
  s.setPortal n { p with
    state := .released, releaseTimer := some ⟨s.now, p.captured.releaseMs⟩, strikePending := p.strikeRequired,
    strikeTimer := if p.strikeRequired then some ⟨s.now, p.captured.strike⟩ else none }

/-- The door step: the outcome (ADMIT or a refusal), the release in seconds, and the door after it (R52). A door
portal in service is never OUT-OF-SERVICE (R43). -/
def doorStep (n : Nat) (s : State) : Result × Nat × State :=
  let p := s.portal n
  match p.state with
  | .secure => (.admitted, (s.timing p.timingSet).release, releaseSecure n s)
  | .released => (.admitted, p.captured.release, s.setPortal n { p with releaseTimer := some ⟨s.now, p.captured.releaseMs⟩ })
  | .opened | .heldOpen | .forced => (.admitted, p.captured.release, s)
  | .emergency => (if p.preset = .release then .admitted else .emergency, 0, s)
  | .outOfService => (.outOfService, 0, s)

/-- A strike confirmation fails: SECURE, timers stopped, DOOR-ALARM STRIKE with its fault, RELOCK (R58). -/
def strikeFailure (n : Nat) (s : State) : State :=
  drive n .relock (alarm n .strike (s.setPortal n { (s.portal n).stopped with state := .secure }))

/-- The release of a RELEASED door ends with no strike confirmation awaited: SECURE (R59). -/
def releaseEnds (n : Nat) (s : State) : State := s.setPortal n { (s.portal n).stopped with state := .secure }

/-- The held-open limit passes: HELD-OPEN, DOOR-ALARM HELD with its fault (R62). -/
def heldOpenEnds (n : Nat) (s : State) : State :=
  alarm n .held (s.setPortal n { (s.portal n).stopped with state := .heldOpen })

/-! ## The grant and presence checks (R50, R51) -/

/-- Whether one of the entry's grants matches the portal (R50). -/
def grantMatches (e : CardEntry) (p : Portal) : Bool :=
  match p.cls with
  | some .cabin => e.grants.any fun g => g = .cabin p.cabin || g = .allCabins
  | some .crewDoor => e.grants.any fun g => g = .zone p.zone
  | some .venueDoor => p.zone = 0 || e.grants.any fun g => g = .zone p.zone
  | some .gangway | some .muster | some .terminal | none => false

/-- The checks of a door presentation when its entry is handed back: 5 to 10 of R49, in order. -/
def decideDoor (p : Presentation) (e : CardEntry) (s : State) : State :=
  let door := s.portal p.portal
  let person := s.person e.person
  if e.revoked then refuseFor p e .revoked s
  else match windowRefusal e s with
  | some r => refuseFor p e r s
  | none =>
    if door.disabled || !door.isDoor then refuseFor p e .outOfService s
    else if !grantMatches e door then refuseFor p e .noGrant s
    else if person.state != .aboard && door.strict then refuseFor p e .notAboard s
    else
      let (outcome, release, s) := doorStep p.portal s
      let s := if outcome = .admitted && person.state != .aboard then
          report .presenceConflict { portal := some p.portal, card := some p.card, person := some e.person }
            (notify (.presenceConflict p.portal p.card e.person person.state) s)
        else s
      decide' p { decisionFor p outcome (some e.person) s with release := release } s

/-! ## Retiming (R67) -/

/-- The running timers of a portal take the limits of the new captured copy and keep their starts (R67). -/
def Portal.retimed (p : Portal) (t : Timing) : Portal :=
  { p with
    captured := t
    releaseTimer := p.releaseTimer.map fun r => { r with limit := t.releaseMs }
    heldOpenTimer := p.heldOpenTimer.map fun r => { r with limit := t.heldOpenMs }
    strikeTimer := p.strikeTimer.map fun r => { r with limit := t.strike } }

/-- A timer's time has come. -/
def Timer.due (t : Timer) (now : Nat) : Bool := t.start + t.limit ≤ now

/-- Milliseconds until a timer expires. -/
def Timer.remaining (t : Timer) (now : Nat) : Nat := t.start + t.limit - now

/-- The release timer after a retime (R67): run on with a PORTAL-DRIVE RELEASE of the seconds left, rounded up, or
ended at once. `window` is the captured window before. -/
def retimeRelease (window : Nat) (n : Nat) (s : State) : State :=
  let p := s.portal n
  match p.releaseTimer with
  | none => s
  | some t =>
    if p.captured.release = window then s
    else if !t.due s.now then drive n (.release ((t.remaining s.now + 999) / 1000)) s
    else if p.strikePending then strikeFailure n s
    else drive n .relock (releaseEnds n s)

/-- The strike-confirm and held-open timers after a retime: one that is due expires at once (R67). -/
def retimeOthers (n : Nat) (s : State) : State :=
  let p := s.portal n
  let s := if p.strikeTimer.any (·.due s.now) then strikeFailure n s else s
  if p.heldOpenTimer.any (·.due s.now) then heldOpenEnds n s else s

/-- One portal of the set, not SECURE, is retimed (R67). Its release timer is treated before its strike-confirm timer, as R67
lists them: a PORTAL-DRIVE RELEASE may go ahead of a strike failure that the same retime brings. R67 gives no order. DESIGN
CHOICE (log 40), unsafe. -/
def retime (t : Timing) (s : State) (n : Nat) : State :=
  let p := s.portal n
  retimeOthers n (retimeRelease p.captured.release n (s.setPortal n (p.retimed t)))

end Sys2Proof.Machine
end

