-- ==== Sys2Proof/Machine/RollOps.lean ====
section
/-! DEFINITION. The presence roll's shared operations (chapter 4): a slot and its counters, a slot change with its
write, the capacity warning, crossings, and the ends of slot writes; and the muster mark (R112, R113), which is
a slot change too. -/

namespace Sys2Proof.Machine

open Sys2Proof

/-! ## Slots and counters (R71, R107) -/

/-- The counter of a state and kind moves; UNLISTED has none (R71). -/
def Roll.count (r : Roll) (st : PersonState) (k : PersonKind) (f : Nat → Nat) : Roll :=
  match st, k with
  | .unlisted, _ => r
  | .aboard, .guest => { r with aboardGuests := f r.aboardGuests }
  | .aboard, .crew => { r with aboardCrew := f r.aboardCrew }
  | .ashore, .guest => { r with ashoreGuests := f r.ashoreGuests }
  | .ashore, .crew => { r with ashoreCrew := f r.ashoreCrew }

/-- The counters follow a slot's change of state or kind (R71). -/
def Roll.recount (r : Roll) (old new : PersonSlot) : Roll :=
  if old.state = new.state && old.kind = new.kind then r
  else (r.count old.state old.kind (· - 1)).count new.state new.kind (· + 1)

/-- A station's counter and the mustered count fall by one for a mark taken away, and rise for one set (R107). -/
def Emergency.unmark (e : Emergency) (m : Option Nat) : Emergency :=
  m.elim e fun k => { e with stations := Table.write 0 k (Table.read 0 e.stations k - 1) e.stations, mustered := e.mustered - 1 }
def Emergency.mark (e : Emergency) (m : Option Nat) : Emergency :=
  m.elim e fun k => { e with stations := Table.write 0 k (Table.read 0 e.stations k + 1) e.stations, mustered := e.mustered + 1 }

/-- The station counts follow a slot's change of mark (R107). -/
def Emergency.remark (e : Emergency) (old new : PersonSlot) : Emergency :=
  if old.mark = new.mark then e else (e.unmark old.mark).mark new.mark

/-- A slot's working copy changes, and the presence and muster counts with it in the same event (R71, R107). -/
def setPerson (n : Nat) (new : PersonSlot) (s : State) : State :=
  let old := s.person n
  let s := s.withEmu (s.emu.remark old new)
  s.withRoll { s.roll.recount old new with slots := Table.write defaultSlot n new s.roll.slots }

/-! ## The capacity warning (R84, R85) -/

/-- The warning asserts: standing, and CAPACITY-WARNING once for each acknowledgement (R85). -/
def assertWarning (s : State) : State :=
  let r := s.roll
  let s' := s.withRoll { r with standing := true, armed := false }
  if r.armed then
    notify (.capacityWarning (aboardTotal r) r.aboardGuests r.aboardCrew r.level r.limit s.clock.shipTime) s'
  else s'

/-- The warning is evaluated from the aboard total (R84). -/
def evalWarning (s : State) : State :=
  let r := s.roll
  if r.standing then
    if aboardTotal r < r.level && aboardTotal r ≤ clearLevel r then s.withRoll { r with standing := false } else s
  else if r.level ≤ aboardTotal r then assertWarning s
  else s

/-- The evaluation made at a change of the aboard total (R84). -/
def evalIfMoved (before : Nat) (s : State) : State := if aboardTotal s.roll = before then s else evalWarning s

/-! ## A slot change and the end of its write (R72, R79, R81, R88) -/

/-- A departure: out of ABOARD (R72). -/
def isDeparture (old new : PersonSlot) : Bool := old.state = .aboard && new.state != .aboard

/-- A change of a slot: working copy, counts, departures in flight, warning, write-pending mark with its before
image, and the slot write queued with the muster number now current (R72, R79, R106). -/
def changeSlot (n : Nat) (new : PersonSlot) (cause : SlotCause) (awaits : Option ReqId) (s : State) : State :=
  let old := s.person n
  let total := aboardTotal s.roll
  let s := setPerson n new s
  let s := if isDeparture old new then s.withRoll { s.roll with departures := s.roll.departures + 1 } else s
  let s := evalIfMoved total s
  let s := s.withRoll { s.roll with before := Table.write none n (some old) s.roll.before }
  enqueue (.slot n ⟨new, s.emu.record.number⟩ cause awaits) s

/-- The end of a slot's write: the mark and the before image go, a departure in flight is taken away, and after
STORE-FAULT the slot takes back its before image with the counts and the warning (R72, R80, R81, R88, R113). -/
def endChange (n : Nat) (ok : Bool) (s : State) : State :=
  match s.beforeImage n with
  | none => s
  | some old =>
    let total := aboardTotal s.roll
    let departed := isDeparture old (s.person n)
    let s := s.withRoll { s.roll with
      before := Table.write none n none s.roll.before
      departures := if departed then s.roll.departures - 1 else s.roll.departures }
    if ok then s else evalIfMoved total (setPerson n old s)

/-! ## Crossings (R73 to R81) -/

/-- The repeat guard holds (R74). -/
def guardHolds (s : State) (lane : Nat) (p : PersonSlot) : Bool :=
  p.lastLane = some lane && p.lastTime ≤ s.clock.shipTime && s.clock.shipTime < p.lastTime + s.roll.guard

/-- The direction a lane takes for a person on the roll (R75). -/
def directionTaken (lane : Option LaneDirection) (st : PersonState) : Option Direction :=
  match lane, st with
  | _, .unlisted => none
  | some .inbound, _ => some .inbound
  | some .outbound, _ => some .outbound
  | some .toggle, .aboard => some .outbound
  | some .toggle, .ashore => some .inbound
  | none, _ => none

/-- A lane's answer with the direction taken (R80). -/
def answerLane (p : Presentation) (r : Result) (person : Nat) (d : Option Direction) (s : State) : State :=
  decide' p { decisionFor p r (some person) s with direction := directionCode d } s

/-- LANE-ANOMALY, its fault, and the refusal (R78). -/
def laneAnomaly (p : Presentation) (r : Result) (person : Nat) (d : Direction) (s : State) : State :=
  let s := notify (.laneAnomaly p.portal p.card person (s.person person).state d s.clock.shipTime) s
  let s := report .laneAnomaly { portal := some p.portal, card := some p.card, person := some person } s
  answerLane p r person (some d) s

/-- An accepted crossing: no reply until its write ends (R79). -/
def acceptCrossing (p : Presentation) (person : Nat) (d : Direction) (s : State) : State :=
  let to' : PersonState := match d with
    | .inbound => .aboard
    | .outbound => .ashore
  let slot := s.person person
  let new := { slot with
    state := to', lastTime := s.clock.shipTime, lastLane := some p.portal,
    mark := if to' = .aboard then slot.mark else none }
  changeSlot person new (.crossing p.portal p.card d (d = .inbound && s.roll.passed)) (some p.id) s

/-- An OUTBOUND crossing (R76). -/
def crossOutbound (p : Presentation) (person : Nat) (s : State) : State :=
  if (s.person person).state = .ashore then laneAnomaly p .alreadyAshore person .outbound s
  else if s.roll.passed then answerLane p .sailing person (some .outbound) s
  else if storeFull s then answerLane p .storeBusy person (some .outbound) s
  else acceptCrossing p person .outbound s

/-- An INBOUND crossing (R77). -/
def crossInbound (p : Presentation) (person : Nat) (s : State) : State :=
  if (s.person person).state = .aboard then laneAnomaly p .alreadyAboard person .inbound s
  else if !capacityOk s.roll then
    answerLane p .capacity person (some .inbound)
      (report .capacityRefused { portal := some p.portal, card := some p.card, person := some person } s)
  else if storeFull s then answerLane p .storeBusy person (some .inbound) s
  else acceptCrossing p person .inbound s

/-- The crossing (R74 to R77). -/
def cross (p : Presentation) (person : Nat) (s : State) : State :=
  let slot := s.person person
  if guardHolds s p.portal slot then answerLane p .repeated person none s
  else if writePending s person then answerLane p .storeBusy person none s
  else match directionTaken (s.portal p.portal).direction slot.state with
  | none => answerLane p .notAboard person none s
  | some .outbound => crossOutbound p person s
  | some .inbound => crossInbound p person s

/-- The checks of a gangway presentation when its entry is handed back: 5 to 10 of R73, in order. -/
def decideLane (p : Presentation) (e : CardEntry) (s : State) : State :=
  if e.revoked then refuseFor p e .revoked s
  else match windowRefusal e s with
  | some r => refuseFor p e r s
  | none =>
    if !(s.portal p.portal).serves .gangway then refuseFor p e .outOfService s
    else if s.emu.record.active then refuseFor p e .muster s
    else if s.emu.latch then refuseFor p e .emergency s
    else cross p e.person s

/-- The end of an accepted crossing's write (R80, R81). -/
def endCrossing (person portal card : Nat) (d : Direction) (late : Bool) (awaits : Option ReqId) (ok : Bool) (s : State) :
    State :=
  let s := endChange person ok s
  let slot := s.person person
  let s := if ok && d = .inbound && late then
      notify (.lateReturn portal card person slot.kind slot.lastTime s.roll.ashoreGuests s.roll.ashoreCrew) s
    else s
  let p : Presentation := ⟨0, portal, card, 0, .gangway⟩
  let answer := decisionFor p (if ok then .admitted else .storeFault) (some person) s
  replyWaiting awaits (.decision { answer with direction := directionCode (some d) }) s

/-! ## Enrolment and corrections (R88) -/

/-- The fields a DONE of section 4.5 carries: person, state, kind and the aboard total (R88). -/
def slotFields (person : Nat) (s : State) : List Fld :=
  let p := s.person person
  [.n2 person, .n1 (enumCode personStates p.state), .n1 (enumCode personKinds p.kind), .n2 (aboardTotal s.roll)]

/-- The change of an enrolment, discharge or correction, unless the store's queue is full (R88). -/
def correctSlot (id : ReqId) (person : Nat) (new : PersonSlot) (s : State) : State :=
  if storeFull s then answer id .storeBusy [] s else changeSlot person new .correction (some id) s

/-- A failed capacity check of an enrolment or correction (R83). -/
def refuseCapacity (id : ReqId) (person : Nat) (s : State) : State :=
  answer id .capacity [] (report .capacityRefused { person := some person, req := some id } s)

/-- The end of its write (R88). -/
def endCorrection (person : Nat) (awaits : Option ReqId) (ok : Bool) (s : State) : State :=
  let s := endChange person ok s
  replyWaiting awaits (if ok then .plain .done (slotFields person s) else .plain .storeFault []) s

/-! ## Muster marks (R111 to R113) -/

/-- A muster station's answer. -/
def answerMark (p : Presentation) (r : Result) (person : Nat) (s : State) : State :=
  decide' p (decisionFor p r (some person) s) s

/-- The mark, decided from the person's working slot (R112). -/
def markPerson (p : Presentation) (person : Nat) (s : State) : State :=
  let slot := s.person person
  if slot.state = .unlisted then answerMark p .notAboard person s
  else if slot.mark.isSome then answerMark p .repeated person s
  else if writePending s person then answerMark p .storeBusy person s
  else if storeFull s then answerMark p .storeBusy person s
  else
    let station := some (s.portal p.portal).station
    let ashore : Bool := slot.state = .ashore
    let new := if ashore then { slot with state := .aboard, lastLane := none, mark := station }
      else { slot with mark := station }
    changeSlot person new (.mark p.portal p.card ashore) (some p.id) s

/-- The checks of a muster presentation when its entry is handed back: 6 to 9 of R111, in order. -/
def decideMuster (p : Presentation) (e : CardEntry) (s : State) : State :=
  if e.revoked then refuseFor p e .revoked s
  else match windowRefusal e s with
  | some r => refuseFor p e r s
  | none =>
    if !(s.portal p.portal).serves .muster || !s.emu.record.active then refuseFor p e .outOfService s
    else markPerson p e.person s

/-- The end of an accepted mark's write (R113). -/
def endMark (person portal card : Nat) (foundAshore : Bool) (awaits : Option ReqId) (ok : Bool) (s : State) : State :=
  let s := endChange person ok s
  let s := if ok && foundAshore then
      report .presenceConflict { portal := some portal, card := some card, person := some person }
        (notify (.presenceConflict portal card person .ashore) s)
    else s
  let p : Presentation := ⟨0, portal, card, 0, .muster⟩
  replyWaiting awaits (.decision (decisionFor p (if ok then .admitted else .storeFault) (some person) s)) s

end Sys2Proof.Machine
end

