-- ==== Sys2Proof/Machine/PurseOps.lean ====
section
/-! DEFINITION. The purse's shared operations (chapters 6 to 8): the decision of an authorization at hand-back, the
creation, release, expiry and commit of a hold, and the events at the ends of append and settle writes. -/

namespace Sys2Proof.Machine

open Sys2Proof

/-! ## Folios -/

/-- The folio's exposure moves (R141). -/
def moveExposure (n : Nat) (f : Nat → Nat) (s : State) : State :=
  s.setFolio n { s.folio n with exposure := f (s.folio n).exposure }

/-! ## Releasing and expiring a hold (R156, R158) -/

/-- The release of a hold: exposure, the card's day counters and hold count, and the slot (R156). -/
def releaseHold (slot : Nat) (h : Hold) (last : LastEnd) (s : State) : State :=
  let s := moveExposure h.folio (· - h.total) s
  let s := callAdjust h.card (-(h.total : Int)) (-(h.alcohol : Int)) h.day s
  let s := callHoldEnd h.card s
  s.setHoldSlot slot { s.holdSlot slot with body := .free, lastEnd := last }

/-- HOLD-EXPIRED, ahead of any DAY-TALLY the release causes (R158, R161). -/
def tellExpired (slot : Nat) (h : Hold) (cause : HoldExpiredCause) (s : State) : State :=
  notify (.holdExpired (holdNumber slot (s.holdSlot slot).reuse) h.portal h.card h.person h.folio h.total h.alcohol
    s.clock.shipTime cause) s

/-- The expiry of a HELD hold, when it is due (R150, R158). -/
def expireIfDue (slot : Nat) (s : State) : State :=
  match (s.holdSlot slot).body with
  | .held h _ => if holdDue s slot then releaseHold slot h .expired (tellExpired slot h .timeout s) else s
  | .free | .committing _ _ => s

/-! ## Authorization at hand-back (R118 to R124) -/

/-- The expiry time of a hold created or returned now, stopping at the last ship time (R123, R154). -/
def expiryAfter (seconds : Nat) (s : State) : Nat := satAdd maxTime s.clock.shipTime seconds

/-- The lowest-numbered FREE slot (R123). -/
def freeHoldSlot (s : State) : Option Nat := (List.range 32).find? fun n => (s.holdSlot n).body = .free

/-- The number of non-FREE holds plus the number of journal entries (R122, R167). -/
def boundSum (s : State) : Nat := (openHolds s).length + s.journal.entries.length

/-- The hold is created in the event of the last check: slot, exposure, the authorization call, APPROVED, and an
expiry that is due already (R123, R124, R150). -/
def createHold (p : Presentation) (h : Hold) (slot : Nat) (d : Decision) (s : State) : State :=
  let reuse := ((s.holdSlot slot).reuse + 1) % 8
  let s := s.setHoldSlot slot { s.holdSlot slot with body := .held h (expiryAfter s.purse.holdTime s), reuse := reuse }
  let s := moveExposure h.folio (· + h.total) s
  let s := callAuthorize h.card h.total h.alcohol s
  let s := decide' p { d with outcome := .approved, hold := some (holdNumber slot reuse), sign := d.tier = 1 } s
  expireIfDue slot s

/-- Checks 12 to 14 and the approval (R122, R123). `d` carries the amounts and the tier. -/
def roomChecks (p : Presentation) (e : CardEntry) (h : Hold) (d : Decision) (s : State) : State :=
  match freeHoldSlot s with
  | none => decide' p { d with outcome := .holdsFull } s
  | some slot =>
    if 2 ≤ e.holdCount then decide' p { d with outcome := .cardHolds } s
    else if 512 ≤ boundSum s then
      decide' p { d with outcome := .journalFull }
        (report .journalFull { portal := some p.portal, card := some p.card, person := some e.person, req := some p.id } s)
    else createHold p h slot d s

/-- Check 11 and what follows it (R126 to R132, R124). -/
def amountChecks (p : Presentation) (a : ChargeAmounts) (e : CardEntry) (s : State) : State :=
  let base := { decisionFor p .badAmount (some e.person) s with folio := some e.folio }
  if !amountsOk a then decide' p base s
  else
    let rates := ratesOf s.purse.active e.cls
    let gratuity := gratuityOf s.purse.active a.gratuityClass
    let c := chargeOf a.subtotal rates.discount gratuity
    let d := { base with amounts := true, net := c.net, gratuity := c.gratuity, total := c.total }
    match judge a e s.clock.day (s.folio e.folio) rates c with
    | some r => decide' p { d with outcome := r.result, detail := r.detail, tier := r.tier, room := r.room } s
    | none =>
      let h : Hold := ⟨p.portal, p.card, e.person, e.folio, a.subtotal, c.total, a.alcohol, rates.discount, gratuity, s.clock.day⟩
      roomChecks p e h { d with tier := tierOf rates (e.spend s.clock.day + c.total) } s

/-- A charge refused after its entry was handed back: the reply names person and folio (R124). -/
def refuseCharge (p : Presentation) (e : CardEntry) (r : Result) (s : State) : State :=
  decide' p { decisionFor p r (some e.person) s with folio := some e.folio } s

/-- Checks 5 to 10 of an authorization, in order, then the rest (R118, R120, R121). -/
def decideCharge (p : Presentation) (a : ChargeAmounts) (e : CardEntry) (s : State) : State :=
  if e.revoked then refuseCharge p e .revoked s
  else match windowRefusal e s with
  | some r => refuseCharge p e r s
  | none =>
    if s.emu.latch then refuseCharge p e .emergency s
    else if !(s.portal p.portal).serves .terminal then refuseCharge p e .outOfService s
    else if !e.chargeEnabled then refuseCharge p e .chargeDisabled s
    else if (s.person e.person).state != .aboard then refuseCharge p e .notAboard s
    else match (s.folio e.folio).state with
    | .closed => refuseCharge p e .folioClosed s
    | .frozen => refuseCharge p e .folioFrozen s
    | .opened => amountChecks p a e s

/-! ## The end of an append (R153, R154, R161, R166) -/

/-- The fields of the APPROVED reply to a COMMIT (R153). -/
def commitFields (number seq : Nat) (h : Hold) (c : CommitPart) : List Fld :=
  [.n1 number, .n4 seq, .n3 c.net, .n3 c.gratuity, .n3 c.total, .n1 c.alcohol, .n3 (h.total - c.total)]

/-- An append completes: the entry joins the tail and the hold is closed, in one event (R153, R166). -/
def closeCommit (slot : Nat) (entry : JournalEntry) (awaits : Option ReqId) (s : State) : State :=
  let s := s.withJournal { s.journal with entries := s.journal.entries ++ [entry] }
  match (s.holdSlot slot).body with
  | .committing h c =>
    let number := holdNumber slot (s.holdSlot slot).reuse
    let s := moveExposure h.folio (fun x => x + c.total - h.total) s
    let s := callAdjust h.card ((c.total : Int) - h.total) ((c.alcohol : Int) - h.alcohol) h.day s
    let s := callHoldEnd h.card s
    let s := s.setHoldSlot slot { s.holdSlot slot with body := .free, lastEnd := .committed }
    if c.orphaned then s else replyWaiting awaits (.plain .approved (commitFields number entry.seq h c)) s
  | .free | .held _ _ => s

/-- An append ends STORE-FAULT: the hold returns to HELD with the time it had left (R154), or an orphaned one is
released as UNBOOKED (R161). -/
def failCommit (slot : Nat) (awaits : Option ReqId) (s : State) : State :=
  match (s.holdSlot slot).body with
  | .committing h c =>
    if c.orphaned then releaseHold slot h .released (tellExpired slot h .unbooked s)
    else
      let s := s.setHoldSlot slot { s.holdSlot slot with body := .held h (expiryAfter c.remaining s) }
      let s := replyWaiting awaits (.plain .storeFault [.n1 (holdNumber slot (s.holdSlot slot).reuse)]) s
      expireIfDue slot s
  | .free | .held _ _ => s

/-! ## The end of a settlement (R171, R172) -/

/-- What a settlement moved, left unmoved and clipped (R171). -/
structure SettleTally where
  moved : Nat := 0
  unmoved : Nat := 0
  unmovedCount : Nat := 0
  clipped : Nat := 0
  deriving DecidableEq, Repr

/-- The largest posted balance (R141). -/
def maxBalance : Int := 8388607

/-- One removed entry: its total (log 29 for what the reply then calls moved) moves from exposure to the posted balance of a loaded folio, clipped at the
maximum, or is unmoved when the folio is CLOSED (R171). -/
def settleEntry (acc : State × SettleTally) (e : JournalEntry) : State × SettleTally :=
  let (s, t) := acc
  let f := s.folio e.folio
  if f.state = .closed then (s, { t with unmoved := t.unmoved + e.total, unmovedCount := t.unmovedCount + 1 })
  else
    let sum := f.balance + e.total
    let clip := (sum - maxBalance).toNat
    (s.setFolio e.folio { f with balance := min maxBalance sum, exposure := f.exposure - e.total },
      { t with moved := t.moved + e.total, clipped := t.clipped + clip })

/-- A settle write completes: the head entries leave and their totals move, in one event (R171). -/
def completeSettle (awaits : Option ReqId) (s : State) : State :=
  match s.journal.settle with
  | none => s
  | some x =>
    let leaving := s.journal.entries.take x.count
    let s := s.withJournal { s.journal with entries := s.journal.entries.drop x.count, settle := none }
    let (s, t) := leaving.foldl settleEntry (s, {})
    replyWaiting awaits (.plain .done
      [.n2 x.count, .n4 x.last, .n3 t.moved, .n3 t.unmoved, .n2 t.unmovedCount, .n3 t.clipped,
        .n2 s.journal.entries.length]) s

/-- A settle write ends STORE-FAULT: nothing is removed (R172). -/
def failSettle (awaits : Option ReqId) (s : State) : State :=
  replyWaiting awaits (.plain .storeFault []) (s.withJournal { s.journal with settle := none })

/-! ## The tariff (R137) -/

/-- A rollover makes the staged tariff active; whether one was staged (R137). -/
def activateTariff (s : State) : Bool × State :=
  match s.purse.staged with
  | some t => (true, s.withPurse { s.purse with active := t, staged := none })
  | none => (false, s)

end Sys2Proof.Machine
end

