-- ==== Sys2Proof/Machine/EmergencyOps.lean ====
section
/-! DEFINITION. The emergency unit's shared operations (chapter 5): the muster record and its writes, starts and
ends of a muster, the evaluation of the condition, and the alarm-line filters. -/

namespace Sys2Proof.Machine

open Sys2Proof

/-! ## The muster record (R106 to R110) -/

/-- Every working mark and every before-image mark becomes none, and the counts become 0 (R109, R110). -/
def clearMarks (s : State) : State :=
  let unmarked (p : PersonSlot) : PersonSlot := { p with mark := none }
  let s := s.withRoll { s.roll with
    slots := Table.update defaultSlot unmarked s.roll.slots
    before := Table.update none (·.map unmarked) s.roll.before }
  s.withEmu { s.emu with stations := [], mustered := 0 }

/-- MUSTER-STATE with the record as it stands (R109). -/
def tellMuster (s : State) : State := notify (.musterState s.emu.record s.emu.cause s.emu.mustered) s

/-- A record change needs its write: joined to one that waits, left to the end of one in flight, or queued; a full
queue leaves it to a retry (R108). -/
def queueRecord (s : State) : State :=
  let s := s.withEmu { s.emu with outstanding := true }
  if queued .muster s then s
  else if storeFull s then s.withEmu { s.emu with retry := some (s.emu.retry.getD (s.now + 1000)) }
  else enqueue .muster (s.withEmu { s.emu with retry := none })

/-- The number a new muster takes: from 4,294,967,295 to 1 (R106). -/
def nextMuster (n : Nat) : Nat := if n < maxTime then n + 1 else 1

/-- A muster starts (R109). `awaits` is the request that awaits the record write; its reply carries the number it takes here (log
42). -/
def startMuster (cause : MusterCause) (awaits : Option ReqId) (s : State) : State :=
  let s := clearMarks s
  let number := nextMuster s.emu.record.number
  let s := s.withEmu { s.emu with
    record := ⟨true, number, s.clock.shipTime⟩, cause := some cause
    waiters := s.emu.waiters ++ (awaits.map fun id => ⟨id, number, false⟩).toList }
  tellMuster (queueRecord s)

/-- The muster ends (R110). Its reply carries the number as it stands here (log 42). -/
def endMuster (id : ReqId) (s : State) : State :=
  let s := clearMarks s
  let s := s.withEmu { s.emu with
    record := { s.emu.record with active := false }
    waiters := s.emu.waiters ++ [⟨id, s.emu.record.number, false⟩] }
  tellMuster (queueRecord s)

/-- Whether a host's start or end is refused STORE-BUSY: the queue is full and no record write is in it (R109, R110). -/
def musterBusy (s : State) : Bool := storeFull s && !queued .muster s

/-- The requests whose changes a record write carried are answered DONE with the muster number and stored (R108, R109), in the
order they were taken, each with the number as it stood when it was taken (`startMuster`, `endMuster`). R108 gives no order, and
R109 does not say which number a reply carries once a later start has raised it. DESIGN CHOICE (log 42), unsafe. -/
def answerCarried (stored : Bool) (s : State) : State :=
  let answered := s.emu.waiters.filter (·.carried)
  let s := s.withEmu { s.emu with waiters := s.emu.waiters.filter fun w => !w.carried }
  answered.foldl (fun s w => answer w.id .done [.n4 w.number, .n1 (yesCode stored)] s) s

/-- A record write ends: its requests are answered; a record that has changed since is written again at once, and a
failed one 60 s later (R108; log 21 for both together). -/
def endRecordWrite (written : MusterRecord) (ok : Bool) (s : State) : State :=
  let s := answerCarried ok s
  if s.emu.record ≠ written then queueRecord s
  else if ok then s.withEmu { s.emu with outstanding := false }
  else s.withEmu { s.emu with retry := some (s.now + 60000) }

/-- The retry of a record write: queued, or tried again a second later (R108). -/
def retryRecord (s : State) : State :=
  match s.emu.retry with
  | none => s
  | some due =>
    let s := reachTime due s
    queueRecord (s.withEmu { s.emu with retry := none })

/-! ## The emergency condition (R99, R103, R104) -/

/-- EMERGENCY-STATE (R99). Each of the three source states is whether the source holds. DESIGN CHOICE (log 41), unsafe. -/
def tellEmergency (s : State) : State :=
  let e := s.emu
  notify (.emergencyState e.condition e.latch e.lineA.source e.lineB.source e.declared s.clock.shipTime) s

/-- The doors a change of the condition to true takes: a preset not NORMAL and not in EMERGENCY (R103). -/
def doorsToEnter (s : State) : List Nat :=
  portalsWhere (fun p => p.isDoor && p.preset != .normal && p.state != .emergency) s

/-- The doors a change to false brings out: in EMERGENCY with auto-resume (R104). -/
def doorsToResume (s : State) : List Nat := portalsWhere (fun p => p.isDoor && p.state = .emergency && p.autoResume) s

/-- The condition becomes true (R99, R100, R103, R109). -/
def conditionRises (s : State) : State :=
  let s := tellEmergency (s.withEmu { s.emu with condition := true, latch := true })
  let s := (doorsToEnter s).foldl (fun s n => enterEmergency true n s) s
  if s.emu.startsMuster && !s.emu.record.active then startMuster .alarm none s else s

/-- The condition becomes false; the latch stays (R99, R104). EMERGENCY-STATE goes first (log 23). -/
def conditionFalls (s : State) : State :=
  let s := tellEmergency (s.withEmu { s.emu with condition := false })
  (doorsToResume s).foldl (fun s n => resumeDoor n s) s

/-- The condition is evaluated; a change is one event (R99). -/
def evalCondition (s : State) : State :=
  if conditionNow s.emu = s.emu.condition then s
  else if conditionNow s.emu then conditionRises s
  else conditionFalls s

/-! ## The alarm-line filters (R96) -/

def Emergency.line (e : Emergency) : AlarmLine → LineFilter
  | .ema => e.lineA
  | .emb => e.lineB

def Emergency.setLine (e : Emergency) (l : AlarmLine) (f : LineFilter) : Emergency :=
  match l with
  | .ema => { e with lineA := f }
  | .emb => { e with lineB := f }

/-- The raw level takes a value: a pending change starts, goes on or is discarded (R96). -/
def LineFilter.sample (f : LineFilter) (raw : Bool) (now : Nat) : LineFilter :=
  { f with rawActive := raw, since := if raw = f.active then none else some (f.since.getD now) }

/-- A pending change has held for the debounce time (R96). -/
def LineFilter.due (f : LineFilter) (debounce now : Nat) : Bool := f.since.any fun t => t + debounce ≤ now

/-- The debounced level takes the raw one and the pending change ends (R96). -/
def LineFilter.settle (f : LineFilter) : LineFilter := { f with active := f.rawActive, since := none }

/-- A line whose pending change is due takes its new level (R96). -/
def settleLine (l : AlarmLine) (s : State) : State :=
  let f := s.emu.line l
  if f.due s.emu.debounce s.now then s.withEmu (s.emu.setLine l f.settle) else s

end Sys2Proof.Machine
end

