-- ==== Sys2Proof/Machine/ClockOps.lean ====
section
/-! DEFINITION. The voyage clock's shared operations (chapter 2): the day write, the rollover, the deadline, and the
events of ship time that fall due. -/

namespace Sys2Proof.Machine

open Sys2Proof

/-! ## The day write (R34) -/

/-- The day write is queued, unless one is queued or in flight; a full queue leaves it to a retry one second later. -/
def queueDay (s : State) : State :=
  if queued .day s then s
  else if storeFull s then s.withClock { s.clock with dayRetry := some (s.now + 1000) }
  else enqueue .day (s.withClock { s.clock with dayRetry := none })

/-- The retry of the day write (R34). -/
def retryDay (s : State) : State :=
  match s.clock.dayRetry with
  | none => s
  | some due =>
    let s := reachTime due s
    queueDay (s.withClock { s.clock with dayRetry := none })

/-- A day write ends (R34). The image already holds the day when it completed; a later rollover has a new write
queued at once, and a failure one 60 s later. -/
def endDayWrite (written : Nat) (ok : Bool) (s : State) : State :=
  if ok then
    if written = s.clock.day then s.withClock { s.clock with dayOutstanding := false } else queueDay s
  else s.withClock { s.clock with lastFailedDay := some written, dayRetry := some (s.now + 60000) }

/-! ## The voyage day (R32, R33) -/

/-- A rollover: the day, the tariff, DAY-ROLLED, the day write (R33). -/
def rollover (s : State) : State :=
  let old := s.clock.day
  let new := computedDay s.clock
  let (activated, s) := activateTariff (s.withClock { s.clock with day := new })
  let s := notify (.dayRolled old new s.clock.shipTime activated) s
  queueDay (s.withClock { s.clock with dayOutstanding := true })

/-- The voyage day is evaluated (R32). -/
def evaluateDay (s : State) : State :=
  if s.clock.isSet && s.clock.day < computedDay s.clock then rollover s else s

/-! ## The events of ship time (R31) -/

/-- The deadline event, when it is due (R87). -/
def takeDeadline (s : State) : State :=
  if deadlineDue s then
    let r := s.roll
    notify (.allAboardMissing (r.deadline.getD 0) s.clock.shipTime r.ashoreGuests r.ashoreCrew (aboardTotal r))
      (s.withRoll { r with passed := true })
  else s

/-- Something that an event of ship time owes: the deadline, the expiry of a hold slot, or a reply. -/
inductive Due where
  | deadline
  | hold (slot : Nat)
  | reply (id : ReqId) (b : Body)
  deriving DecidableEq, Repr

/-- It is taken. -/
def takeDue : Due → State → State
  | .deadline, s => takeDeadline s
  | .hold slot, s => expireIfDue slot s
  | .reply id b, s => reply id b s

/-- What is due now: the deadline and the expired holds (R31, R87, R150). -/
def dueNow (s : State) : List Due :=
  (if deadlineDue s then [.deadline] else []) ++ ((List.range 32).filter (holdDue s)).map .hold

/-- One of several is taken next, which one being a free choice (R31 "in no stated order"; log 5). -/
def takeOneOf (n : Nat) (ds : List Due) (s : State) : State :=
  match n, ds with
  | 0, _ => s
  | _, [] => s
  | _, [d] => takeDue d s
  | n + 1, ds =>
    let (c, s) := draw s
    let i := c % ds.length
    takeOneOf n (ds.eraseIdx i) (match ds[i]? with
      | some d => takeDue d s
      | none => s)

/-- All of them are taken, in an order that is free (log 5). -/
def takeAll (ds : List Due) (s : State) : State := takeOneOf ds.length ds s

end Sys2Proof.Machine
end

