-- ==== Sys2Proof/Machine/LoadOps.lean ====
section
/-! DEFINITION. Handing a presentation back to its block (R7), the start of a lookup, and the routes of a delivered
card record (R16 to R18, R23, R24). -/

namespace Sys2Proof.Machine

open Sys2Proof

/-! ## Handing back (R7, R8) -/

/-- The entry or record is handed back: the block goes on with the checks that follow the card lookup (R7). -/
def handBack (p : Presentation) (e : CardEntry) (s : State) : State :=
  match p.job with
  | .door => decideDoor p e s
  | .gangway => decideLane p e s
  | .muster => decideMuster p e s
  | .charge a => decideCharge p a e s

/-- A resumed presentation is compared once more and then decided (R8). -/
def resumeWith (e : CardEntry) (s : State) (p : Presentation) : State :=
  if p.gen < e.gen then refuse p .superseded s
  else if e.gen < p.gen then refuse p .noRecord s
  else handBack p e s

/-- The card lookup of a presentation: a generation above 15 is NO-RECORD, otherwise CTB is asked (R48, R73, R111,
R118). -/
def present (p : Presentation) (s : State) : State :=
  if 15 < p.gen then refuse p .noRecord s
  else match askCard p s with
  | (.handedBack e, s) => handBack p e s
  | (.refused r, s) => refuse p r s
  | (.waiting, s) => s

/-! ## A delivered record (R16 to R18) -/

/-- The class and grants of a record that passes validation, none for BAD-RECORD (R16). -/
def recordParts (r : CardRecord) : Option (CardClass × List Grant) :=
  if r.card = 0 || 15 < r.gen || 8191 < r.person || 4095 < r.folio then none
  else match enumOf cardClasses r.cls, grantsOf r with
  | some c, some gs => some (c, gs)
  | _, _ => none

/-- The entry a record gives when it is installed (R18). -/
def entryOf (r : CardRecord) (cls : CardClass) (grants : List Grant) (day : Nat) : CardEntry :=
  let today : Bool := r.dayStamp = day
  { card := r.card, gen := r.gen, person := r.person, folio := r.folio, cls := cls, drinkingAge := r.drinkingAge,
    chargeEnabled := r.chargeEnabled, cap := r.cap, grants := grants, validFrom := r.validFrom,
    validUntil := r.validUntil, revoked := r.revoked, resident := false, holdCount := 0, dayStamp := day,
    daySpend := if today then r.daySpend else 0, dayAlcohol := if today then r.dayAlcohol else 0, suspect := false,
    codeDiff := 0 }

/-- The update of an entry, already brought up to date, by a record's entry: marks kept, each day counter the larger
of the two (R17). A record of another day brings counters of 0, which leave the entry's. -/
def CardEntry.merge (e fresh : CardEntry) : CardEntry :=
  { fresh with
    resident := e.resident, holdCount := e.holdCount, daySpend := max e.daySpend fresh.daySpend,
    dayAlcohol := max e.dayAlcohol fresh.dayAlcohol }

/-- How a record reached the table (R17, R18). -/
inductive Placed where
  | updated (way : Nat)
  | installed (way : Nat)
  | failed
  deriving DecidableEq, Repr

/-- The record's entry updates the card's valid entry in place, or is installed, or finds no way (R17, R18). An entry that
the verification of the set has rebuilt as the card's own is its valid entry, and is updated: a card has one (R1, R17). -/
def placeRecord (fresh : CardEntry) (s : State) : Placed × State :=
  let set := setIndex fresh.card
  match readCard fresh.card s with
  | (some (w, _), s) => (.updated w, writeEntry set w (·.merge fresh) s)
  | (none, s) =>
    let s := verifySet set s
    match entryWay s fresh.card with
    | some w => (.updated w, writeEntry set w (·.merge fresh) s)
    | none =>
      match install fresh s with
      | (some w, s) => (.installed w, s)
      | (none, s) => (.failed, s)

/-- A presentation resumed against the table's entry (R23). -/
def resumeAt (c way : Nat) (fresh : CardEntry) (s : State) (p : Presentation) : State :=
  resumeWith ((s.entry (setIndex c) way).getD fresh) s p

/-- A presentation resumed against a passed record: a charge is refused TABLE-FULL (R24). -/
def resumePassed (fresh : CardEntry) (s : State) (p : Presentation) : State :=
  match p.job with
  | .charge _ => refuse p .tableFull s
  | .door | .gangway | .muster => resumeWith fresh s p

/-- A load that answers a pending fetch (R23, R24). -/
def answerFetch (id : ReqId) (n : Nat) (f : Fetch) (fresh : CardEntry) (s : State) : State :=
  let fresh := { fresh with revoked := fresh.revoked || f.revoked }
  match placeRecord fresh s with
  | (.updated w, s) => answer id .updated [] (f.waiting.foldl (resumeAt fresh.card w fresh) (s.setFetch n none))
  | (.installed w, s) => answer id .installed [] (f.waiting.foldl (resumeAt fresh.card w fresh) (s.setFetch n none))
  | (.failed, s) => answer id .passed [] (f.waiting.foldl (resumePassed fresh) (s.setFetch n none))

/-- A load with no pending fetch (R17, R18). -/
def loadRecord (id : ReqId) (fresh : CardEntry) (s : State) : State :=
  match placeRecord fresh s with
  | (.updated _, s) => answer id .updated [] s
  | (.installed _, s) => answer id .installed [] s
  | (.failed, s) => answer id .notInstalled [] s

/-- A fetch ends without a record: each waiting presentation is refused in joining order, REVOKED if the mark is set
(R25, R26). -/
def refuseFetch (n : Nat) (f : Fetch) (r : Result) (s : State) : State :=
  f.waiting.foldl (fun s p => refuse p (if f.revoked then .revoked else r) s) (s.setFetch n none)

end Sys2Proof.Machine
end

