-- ==== Sys2Proof/Machine/Doors.lean ====
section
/-! DEFINITION. The meanings of the Portal Unit's commands (chapter 3), and PRESENT at a portal of any class. -/

namespace Sys2Proof.Machine

open Sys2Proof

/-! ## Replies -/

/-- The code of a portal's state. -/
def stateCode (n : Nat) (s : State) : Nat := enumCode portalStates (s.portal n).state

/-- DONE with the portal's state. -/
def doneState (id : ReqId) (n : Nat) (s : State) : State := answer id .done [.n1 (stateCode n s)] s

/-- A field that may be none and has no spare value to show it, behind its presence byte (R208); absent, its bytes are 0. -/
def optional1 (v : Option Nat) : List Fld := [.n1 (yesCode v.isSome), .n1 (v.getD 0)]
def optional4 (v : Option Nat) : List Fld := [.n1 (yesCode v.isSome), .n4 (v.getD 0)]

/-- A person number or a count that may be none: 0xFFFF for none (R208). -/
def orNone2 (v : Option Nat) : Fld := .n2 (v.getD 65535)

/-- A portal's state in a reply that may carry none: 255 for none (R208). -/
def orNoState (v : Option PortalState) : Fld := .n1 (enumCode? portalStates v)

/-- The fields of a timing set (R65). -/
def timingFields (t : Timing) : List Fld := [.n4 t.release, .n4 t.heldOpen, .n2 t.strike]

/-- Whether a timer runs, and the milliseconds until it expires (R47). -/
def timerFields (t : Option Timer) (now : Nat) : List Fld :=
  [.n1 (yesCode t.isSome), .n2 (t.elim 0 fun t => t.remaining now)]

/-- Every field of R41, in its order. -/
def portalFields (p : Portal) : List Fld :=
  [.n1 (yesCode p.cls.isSome), .n1 (enumCode? portalClasses p.cls), .n2 p.cabin, .n1 p.zone,
    .n1 (enumCode? laneDirections p.direction), .n1 p.station, .n1 p.timingSet, .n1 (yesCode p.strikeRequired),
    .n1 (yesCode p.strict), .n1 (enumCode presets p.preset), .n1 (yesCode p.autoResume), .n1 (yesCode p.disabled),
    .n1 (enumCode portalStates p.state), .n1 (enumCode contacts p.contact)] ++ timingFields p.captured

/-- The running items of a door portal, absent for the others (R47). -/
def runningFields (p : Portal) (now : Nat) : List Fld :=
  if p.isDoor then
    [.n1 1, .n1 (yesCode p.strikePending)] ++ timerFields p.releaseTimer now ++ timerFields p.heldOpenTimer now
      ++ timerFields p.strikeTimer now
  else [.n1 0, .n1 0] ++ timerFields none now ++ timerFields none now ++ timerFields none now

/-! ## PRESENT (R48, R49, R73, R111) -/

/-- The block that a portal's class routes a presentation to; a portal of no class or of TERMINAL routes to none (R48). -/
def jobOf (p : Portal) : Option Job :=
  match p.cls with
  | some .gangway => some .gangway
  | some .muster => some .muster
  | some .cabin | some .crewDoor | some .venueDoor => some .door
  | some .terminal | none => none

/-- PTU's two checks, then by class; a muster portal has its check 3 before the lookup (R48, R111). The refusal at a portal that
routes to no block is of no class, and its class fields hold 0, the portal state too (R210; log 24). -/
def presentAt (portal card gen : Nat) (id : ReqId) (s : State) : State :=
  let p := s.portal portal
  match jobOf p with
  | none => reply id (.decision { outcome := if s.clock.isSet then .outOfService else .clockUnset, portal := portal }) s
  | some job =>
    let pr : Presentation := ⟨id.tag, portal, card, gen, job⟩
    if !s.clock.isSet then refuse pr .clockUnset s
    else if p.disabled then refuse pr .outOfService s
    else if job = .muster && !s.emu.record.active then refuse pr .outOfService s
    else present pr s

def execPresent (h : Hdr) (portal card gen : Nat) (s : State) : Host.Outcome State Fault Refusal :=
  .next (accept Kind.present h 6 false (presentAt portal card gen) s)

/-! ## Configuration (R43 to R47) -/

/-- The class fields of a PORTAL-SET that passes validation, the others neutral; none for BAD-VALUE (R44). -/
def configured (c : PortalConfig) : Option Portal :=
  match enumOf portalClasses c.cls with
  | none => none
  | some .gangway => (enumOf laneDirections c.direction).map fun d => { defaultPortal with cls := some .gangway, direction := some d }
  | some .muster =>
    if 1 ≤ c.station && c.station ≤ 32 then some { defaultPortal with cls := some .muster, station := c.station } else none
  | some .terminal => some { defaultPortal with cls := some .terminal }
  | some cls =>
    let door (cabin zone : Nat) (ok : Bool) : Option Portal :=
      if !ok || 7 < c.timingSet then none
      else (enumOf presets c.preset).map fun e => { defaultPortal with
        cls := some cls, cabin := cabin, zone := zone, timingSet := c.timingSet, strikeRequired := c.strikeRequired,
        strict := c.strict, preset := e, autoResume := c.autoResume }
    match cls with
    | .cabin => door c.cabin 0 (1 ≤ c.cabin && c.cabin ≤ 9999)
    | .crewDoor => door 0 c.zone (1 ≤ c.zone && c.zone ≤ 63)
    | .venueDoor => door 0 c.zone (c.zone ≤ 63)
    | .gangway | .muster | .terminal => none

/-- What a portal keeps when it is configured: disabled, state and contact, and a door its captured timing, which is
neutral elsewhere (R41, R44). -/
def Portal.reconfigured (p new : Portal) : Portal :=
  { new with
    disabled := p.disabled, state := p.state, contact := p.contact
    captured := if new.isDoor then p.captured else defaultTiming }

/-- PORTAL-SET (R44). -/
def portalSet (c : PortalConfig) (id : ReqId) (s : State) : State :=
  match configured c with
  | none => answer id .badValue [] s
  | some new =>
    let p := s.portal c.portal
    if p.state = .secure || p.state = .outOfService then
      doneState id c.portal (place true c.portal (s.setPortal c.portal (p.reconfigured new)))
    else answer id .busy [] s

def execPortalSet (h : Hdr) (c : PortalConfig) (s : State) : Host.Outcome State Fault Refusal :=
  .next (accept Kind.portalSet h 12 false (portalSet c) s)

/-- A portal not in EMERGENCY is disabled: OUT-OF-SERVICE, with RELOCK from RELEASED and a cleared alarm (R45). -/
def takeOut (n : Nat) (s : State) : State :=
  let p := s.portal n
  let s := s.setPortal n { (p.leaving s).stopped with disabled := true, state := .outOfService }
  clearAlarm n p.state (if p.state = .released then drive n .relock s else s)

/-- PORTAL-DISABLE (R45). -/
def portalDisable (n : Nat) (id : ReqId) (s : State) : State :=
  let p := s.portal n
  if p.cls.isNone then answer id .notConfigured [] s
  else if p.disabled then answer id .done [orNoState none] s
  else
    let s := if p.state = .emergency then s.setPortal n { p with disabled := true } else takeOut n s
    answer id .done [orNoState (some (s.portal n).state)] s

def execPortalDisable (h : Hdr) (n : Nat) (s : State) : Host.Outcome State Fault Refusal :=
  .next (accept Kind.portalDisable h 1 false (portalDisable n) s)

/-- PORTAL-ENABLE (R46). The NOT-CONFIGURED reply is the result alone: a portal that is not configured has had no request
taken that would give it a state. DESIGN CHOICE (log 41). -/
def portalEnable (n : Nat) (id : ReqId) (s : State) : State :=
  let p := s.portal n
  if p.cls.isNone then answer id .notConfigured [] s
  else if !p.disabled then doneState id n s
  else
    let s := s.setPortal n { p with disabled := false }
    doneState id n (if p.state = .emergency then s else place true n s)

def execPortalEnable (h : Hdr) (n : Nat) (s : State) : Host.Outcome State Fault Refusal :=
  .next (accept Kind.portalEnable h 1 false (portalEnable n) s)

/-- PORTAL-QUERY (R47), answered DONE, which R47 does not name. DESIGN CHOICE (log 46), unsafe. -/
def portalQuery (n : Nat) (id : ReqId) (s : State) : State :=
  answer id .done (portalFields (s.portal n) ++ runningFields (s.portal n) s.now) s

def execPortalQuery (h : Hdr) (n : Nat) (s : State) : Host.Outcome State Fault Refusal :=
  .next (accept Kind.portalQuery h 1 false (portalQuery n) s)

/-- The numbers of the portals in a state, of all 256 (R47). -/
def portalsIn (s : State) (st : PortalState) : List Nat := (List.range 256).filter fun n => (s.portal n).state = st

/-- A list of portal numbers behind their count (log 13). -/
def portalList (ns : List Nat) : List Fld := .n2 ns.length :: ns.map .n1

/-- PORTAL-SCAN (R47), answered DONE, which R47 does not name. DESIGN CHOICE (log 46), unsafe. -/
def portalScan (id : ReqId) (s : State) : State :=
  answer id .done (portalStates.map (fun st => .n2 (portalsIn s st).length) ++ portalList (portalsIn s .forced)
    ++ portalList (portalsIn s .heldOpen) ++ portalList (portalsIn s .emergency)) s

def execPortalScan (h : Hdr) (s : State) : Host.Outcome State Fault Refusal :=
  .next (accept Kind.portalScan h 0 false portalScan s)

/-! ## The door's events (R56 to R64) -/

/-- A CONTACT OPEN applied to a door's state (R60, R64). -/
def contactOpen (n : Nat) (s : State) : State :=
  let p := s.portal n
  match p.state with
  | .secure => alarm n .forced (s.setPortal n { p.leaving s with state := .forced })
  | .released => s.setPortal n { p.stopped with state := .opened, heldOpenTimer := some ⟨s.now, p.captured.heldOpenMs⟩ }
  | .emergency => if p.preset = .lockdown then alarm n .forced s else s
  | .opened | .heldOpen | .forced | .outOfService => s

/-- A CONTACT CLOSED applied to a door's state (R61, R64). -/
def contactClosed (n : Nat) (s : State) : State :=
  let p := s.portal n
  match p.state with
  | .opened => s.setPortal n { p.stopped with state := .secure }
  | .heldOpen => alarm n .heldCleared (s.setPortal n { p.stopped with state := .secure })
  | .forced => alarm n .forcedCleared (s.setPortal n { p.stopped with state := .secure })
  | .secure | .released | .emergency | .outOfService => s

/-- CONTACT (R56). -/
def contact (n position : Nat) (id : ReqId) (s : State) : State :=
  let reported (c : Contact) (apply : State → State) : State :=
    let s := s.setPortal n { s.portal n with contact := c }
    if (s.portal n).isDoor then doneState id n (apply s) else answer id .notDoor [] s
  match enumOf contacts position with
  | some .opened => reported .opened (contactOpen n)
  | some .closed => reported .closed (contactClosed n)
  | some .unknown | none => answer id .badValue [] s

def execContact (h : Hdr) (n position : Nat) (s : State) : Host.Outcome State Fault Refusal :=
  .next (accept Kind.contact h 2 false (contact n position) s)

/-- STRIKE-ACK (R57): TAKEN is 0 and IGNORED 1 (log 13). -/
def strikeAck (n : Nat) (id : ReqId) (s : State) : State :=
  let p := s.portal n
  if !p.isDoor then answer id .notDoor [] s
  else if p.state = .released && p.strikePending then
    answer id .done [.n1 0] (s.setPortal n { p with strikePending := false, strikeTimer := none })
  else answer id .done [.n1 1] s

def execStrikeAck (h : Hdr) (n : Nat) (s : State) : Host.Outcome State Fault Refusal :=
  .next (accept Kind.strikeAck h 1 false (strikeAck n) s)

/-- REMOTE-RELEASE (R63). -/
def remoteRelease (n : Nat) (id : ReqId) (s : State) : State :=
  let p := s.portal n
  if !p.isDoor then answer id .notDoor [] s
  else if p.disabled then answer id .outOfService [] s
  else
    match doorStep n s with
    | (.admitted, release, s) => answer id .done [.n4 release] s
    | (r, _, s) => answer id r [] s

def execRemoteRelease (h : Hdr) (n : Nat) (s : State) : Host.Outcome State Fault Refusal :=
  .next (accept Kind.remoteRelease h 1 false (remoteRelease n) s)

/-! ## Timing sets (R65 to R67) -/

/-- The three values, rounded and clamped (R65). -/
def stagedTiming (release heldOpen strike : Nat) : Timing :=
  ⟨clampTo 1 30 release, clampTo 5 900 heldOpen, clampTo 100 5000 (strike / 100 * 100)⟩

/-- The portals that apply-now retimes: doors using the set and not SECURE (R67). In ascending portal number, which shows in the
order of their notices and in which of them find room; R67 gives no order. DESIGN CHOICE (log 40), unsafe. -/
def portalsOnSet (set : Nat) (s : State) : List Nat :=
  portalsWhere (fun p => p.isDoor && p.timingSet = set && p.state != .secure) s

/-- TIMING-STAGE (R65, R67); the portals of the set are retimed in ascending number (log 40). -/
def timingStage (set release heldOpen strike applyNow : Nat) (id : ReqId) (s : State) : State :=
  if 7 < set then answer id .badValue [] s
  else match yesNo? applyNow with
  | none => answer id .badValue [] s
  | some now =>
    let t := stagedTiming release heldOpen strike
    let s := s.setTiming set t
    if now then
      let ns := portalsOnSet set s
      answer id .done (timingFields t ++ [orNone2 (some ns.length)]) (ns.foldl (retime t) s)
    else answer id .done (timingFields t ++ [orNone2 none]) s

def execTimingStage (h : Hdr) (set release heldOpen strike applyNow : Nat) (s : State) :
    Host.Outcome State Fault Refusal :=
  .next (accept Kind.timingStage h 12 false (timingStage set release heldOpen strike applyNow) s)

/-- TIMING-QUERY (R65), answered DONE for a set 0 to 7, which R65 does not name: DESIGN CHOICE (log 46), unsafe. A set outside 0 to 7 is
BAD-VALUE, as for TIMING-STAGE (log 31). -/
def timingQuery (set : Nat) (id : ReqId) (s : State) : State :=
  if 7 < set then answer id .badValue [] s else answer id .done (timingFields (s.timing set)) s

def execTimingQuery (h : Hdr) (set : Nat) (s : State) : Host.Outcome State Fault Refusal :=
  .next (accept Kind.timingQuery h 1 false (timingQuery set) s)

/-! ## Timers (R58, R59, R62) -/

/-- RELEASE_TIMER_EXPIRY: a strike failure when the confirmation is awaited, otherwise SECURE (R58, R59). -/
def releaseExpiry (n : Nat) (s : State) : State :=
  match (s.portal n).releaseTimer with
  | none => s
  | some t =>
    let s := reachTime (t.start + t.limit) s
    if (s.portal n).strikePending then strikeFailure n s else releaseEnds n s

def execReleaseTimerExpiry (n : Nat) (s : State) : Host.Outcome State Fault Refusal := .next (powered (releaseExpiry n) s)

/-- STRIKE_CONFIRM_EXPIRY: a strike failure (R58). -/
def strikeExpiry (n : Nat) (s : State) : State :=
  match (s.portal n).strikeTimer with
  | none => s
  | some t => strikeFailure n (reachTime (t.start + t.limit) s)

def execStrikeConfirmExpiry (n : Nat) (s : State) : Host.Outcome State Fault Refusal := .next (powered (strikeExpiry n) s)

/-- HELD_OPEN_EXPIRY (R62). -/
def heldOpenExpiry (n : Nat) (s : State) : State :=
  match (s.portal n).heldOpenTimer with
  | none => s
  | some t => heldOpenEnds n (reachTime (t.start + t.limit) s)

def execHeldOpenExpiry (n : Nat) (s : State) : Host.Outcome State Fault Refusal := .next (powered (heldOpenExpiry n) s)

end Sys2Proof.Machine
end

