-- ==== Sys2Proof/Machine/Presence.lean ====
section
/-! DEFINITION. The meanings of the Presence Roll's commands (chapter 4). -/

namespace Sys2Proof.Machine

open Sys2Proof

/-! ## Capacity, guard and deadline (R82 to R87) -/

/-- CAPACITY-SET (R82). -/
def capacitySet (limit level hysteresis : Nat) (id : ReqId) (s : State) : State :=
  if 8191 < limit || 8191 < level || 255 < hysteresis then answer id .badValue [] s
  else
    let s := evalWarning (s.withRoll { s.roll with limit := limit, level := level, hysteresis := hysteresis })
    answer id .done [.n2 limit, .n2 level, .n1 hysteresis, .n2 (aboardTotal s.roll), .n2 s.roll.departures,
      .n1 (yesCode s.roll.standing), .n1 (yesCode s.roll.armed)] s

def execCapacitySet (h : Hdr) (limit level hysteresis : Nat) (s : State) : Host.Outcome State Fault Refusal :=
  .next (accept Kind.capacitySet h 5 false (capacitySet limit level hysteresis) s)

/-- GUARD-SET (R82). -/
def guardSet (seconds : Nat) (id : ReqId) (s : State) : State :=
  let guard := clampTo 1 60 seconds
  answer id .done [.n4 guard] (s.withRoll { s.roll with guard := guard })

def execGuardSet (h : Hdr) (seconds : Nat) (s : State) : Host.Outcome State Fault Refusal :=
  .next (accept Kind.guardSet h 4 false (guardSet seconds) s)

/-- CAPACITY-ACK (R85). -/
def capacityAck (id : ReqId) (s : State) : State :=
  answer id .done [.n1 (yesCode s.roll.standing)] (s.withRoll { s.roll with armed := true })

def execCapacityAck (h : Hdr) (s : State) : Host.Outcome State Fault Refusal :=
  .next (accept Kind.capacityAck h 0 false capacityAck s)

/-- DEADLINE-SET (R86). -/
def deadlineSet (deadline : Option Nat) (id : ReqId) (s : State) : State :=
  let s := takeDeadline (s.withRoll { s.roll with deadline := deadline, passed := false })
  answer id .done (optional4 s.roll.deadline ++ [.n1 (yesCode s.roll.passed)]) s

def execDeadlineSet (h : Hdr) (deadline : Option Nat) (s : State) : Host.Outcome State Fault Refusal :=
  .next (accept Kind.deadlineSet h 5 false (deadlineSet deadline) s)

/-- DEADLINE_EVENT (R87). -/
def execDeadlineEvent (s : State) : Host.Outcome State Fault Refusal := .next (powered takeDeadline s)

/-! ## Enrolment and corrections (R88 to R91) -/

/-- The checks the three requests share: BAD-VALUE, then STORE-BUSY for a slot whose write is pending (R88). -/
def correcting (valid : Bool) (person : Nat) (id : ReqId) (act : State → State) (s : State) : State :=
  if 8191 < person || !valid then answer id .badValue [] s
  else if writePending s person then answer id .storeBusy [] s
  else act s

/-- The change makes the person ABOARD only if the capacity check passes (R83). -/
def ifRoom (aboard : Bool) (person : Nat) (id : ReqId) (new : PersonSlot) (s : State) : State :=
  if aboard && !capacityOk s.roll then refuseCapacity id person s else correctSlot id person new s

/-- ABOARD or ASHORE, the states ENROL and PRESENCE-SET allow (R89, R91). -/
def listedState (n : Nat) : Option PersonState :=
  match enumOf personStates n with
  | some .aboard => some .aboard
  | some .ashore => some .ashore
  | some .unlisted | none => none

/-- ENROL (R89). -/
def enrol (person kind state : Nat) (id : ReqId) (s : State) : State :=
  match listedState state, enumOf personKinds kind with
  | some st, some k =>
    correcting true person id (fun s =>
      if (s.person person).state ≠ .unlisted then answer id .listed [] s
      else ifRoom (st = .aboard) person id ⟨st, k, none, 0, none⟩ s) s
  | _, _ => answer id .badValue [] s

def execEnrol (h : Hdr) (person kind state : Nat) (s : State) : Host.Outcome State Fault Refusal :=
  .next (accept Kind.enrol h 4 false (enrol person kind state) s)

/-- A non-FREE hold names the person (R90, R160). -/
def holdsPerson (s : State) (person : Nat) : Bool := (openHolds s).any fun h => h.2.person = person

/-- DISCHARGE (R90). -/
def discharge (person : Nat) (id : ReqId) (s : State) : State :=
  correcting true person id (fun s =>
    let slot := s.person person
    if slot.state = .unlisted then answer id .notListed [] s
    else if holdsPerson s person then answer id .busy [] s
    else correctSlot id person { slot with state := .unlisted, lastLane := none, mark := none } s) s

def execDischarge (h : Hdr) (person : Nat) (s : State) : Host.Outcome State Fault Refusal :=
  .next (accept Kind.discharge h 2 false (discharge person) s)

/-- The change PRESENCE-SET makes: no lane, and no mark ashore (R91). -/
def presenceChange (slot : PersonSlot) (st : PersonState) : PersonSlot :=
  { slot with state := st, lastLane := none, mark := if st = .ashore then none else slot.mark }

/-- PRESENCE-SET (R91). The DONE of a request that leaves the slot as it was carries the fields of R88's other DONE, which R88
does not say. DESIGN CHOICE (log 41), unsafe. -/
def presenceSet (person state : Nat) (id : ReqId) (s : State) : State :=
  match listedState state with
  | none => answer id .badValue [] s
  | some st =>
    correcting true person id (fun s =>
      let slot := s.person person
      if slot.state = .unlisted then answer id .notListed [] s
      else if slot.state = st then answer id .done (slotFields person s) s
      else ifRoom (st = .aboard) person id (presenceChange slot st) s) s

def execPresenceSet (h : Hdr) (person state : Nat) (s : State) : Host.Outcome State Fault Refusal :=
  .next (accept Kind.presenceSet h 3 false (presenceSet person state) s)

/-! ## Reading the roll (R92, R93) -/

/-- PRESENCE-COUNTS (R92), answered DONE, which R92 does not name. DESIGN CHOICE (log 46), unsafe. -/
def presenceCounts (id : ReqId) (s : State) : State :=
  let r := s.roll
  answer id .done ([.n2 r.aboardGuests, .n2 r.aboardCrew, .n2 r.ashoreGuests, .n2 r.ashoreCrew, .n2 (aboardTotal r),
    .n2 r.departures, .n2 r.before.length, .n2 r.limit, .n2 r.level, .n1 r.hysteresis, .n2 (clearLevel r),
    .n1 (yesCode r.standing), .n1 (yesCode r.armed), .n4 r.guard] ++ optional4 r.deadline
    ++ [.n1 (yesCode r.passed)]) s

def execPresenceCounts (h : Hdr) (s : State) : Host.Outcome State Fault Refusal :=
  .next (accept Kind.presenceCounts h 0 false presenceCounts s)

/-- The slot's working fields in R70's order; a mark of none is station 0 (log 13). -/
def personFields (p : PersonSlot) : List Fld :=
  [.n1 (enumCode personStates p.state), .n1 (enumCode personKinds p.kind), .n1 (p.mark.getD 0), .n4 p.lastTime]
    ++ optional1 p.lastLane

/-- PERSON-QUERY (R93); a person number 0 to 8191 is answered DONE, which R93 does not name. DESIGN CHOICE (log 46), unsafe. -/
def personQuery (person : Nat) (id : ReqId) (s : State) : State :=
  if 8191 < person then answer id .badValue [] s
  else
    answer id .done (personFields (s.person person) ++ [.n1 (yesCode (writePending s person))]
      ++ [.n1 (enumCode? personStates ((s.beforeImage person).map (·.state)))]) s

def execPersonQuery (h : Hdr) (person : Nat) (s : State) : Host.Outcome State Fault Refusal :=
  .next (accept Kind.personQuery h 2 false (personQuery person) s)

/-- Up to 64 persons from a starting number, ascending, that meet a condition, behind their count (log 13), and the
number to continue from: none, 0xFFFF, when the list reached 8191 (R93, R114, R208). -/
def listPersons (f : PersonSlot → Bool) (start : Nat) (s : State) : List Fld :=
  let found := (((List.range 8192).drop start).filter fun n => f (s.person n)).take 64
  let next := match found.getLast? with
    | some l => if found.length = 64 && l < 8191 then l + 1 else 65535
    | none => 65535
  .n1 found.length :: found.map .n2 ++ [.n2 next]

/-- ROLL-READ's optional kind: 255 is none (R93, R208). -/
def kindFilter (kind : Nat) : Option (Option PersonKind) :=
  if kind = 255 then some none else (enumOf personKinds kind).map some

/-- ROLL-READ (R93); one with every field in range is answered DONE, which R93 does not name. DESIGN CHOICE (log 46), unsafe. -/
def rollRead (start state kind : Nat) (id : ReqId) (s : State) : State :=
  match enumOf personStates state, kindFilter kind with
  | some st, some k =>
    if 8191 < start then answer id .badValue [] s
    else answer id .done (listPersons (fun p => p.state = st && k.all (p.kind = ·)) start s) s
  | _, _ => answer id .badValue [] s

def execRollRead (h : Hdr) (start state kind : Nat) (s : State) : Host.Outcome State Fault Refusal :=
  .next (accept Kind.rollRead h 4 false (rollRead start state kind) s)

end Sys2Proof.Machine
end

