-- ==== Sys2Proof/Machine/Alarms.lean ====
section
/-! DEFINITION. The meanings of the Emergency Unit's commands (chapter 5). -/

namespace Sys2Proof.Machine

open Sys2Proof

/-! ## The alarm lines (R96, R97) -/

/-- A due change of a line, then the evaluation of the condition (R96, R99). -/
def takeLine (l : AlarmLine) (s : State) : State :=
  if (s.emu.line l).due s.emu.debounce s.now then evalCondition (settleLine l s) else s

/-- ALARM_LINE_CHANGE: the level is followed at all times; it is filtered from READY on (R96, R116). A change that
was due already is taken first (log 26). -/
def alarmLineChange (l : AlarmLine) (high : Bool) (s : State) : State :=
  if s.supply && !s.starting then
    let s := takeLine l s
    takeLine l (s.withEmu (s.emu.setLine l ((s.emu.line l).sample (!high) s.now)))
  else s.withEmu (s.emu.setLine l { s.emu.line l with rawActive := !high })

def execAlarmLineChange (l : AlarmLine) (high : Bool) (s : State) : Host.Outcome State Fault Refusal :=
  .next (alarmLineChange l high s)

/-- DEBOUNCE_EXPIRY (R96, R99). -/
def debounceExpiry (l : AlarmLine) (s : State) : State :=
  match (s.emu.line l).since with
  | none => s
  | some t => takeLine l (reachTime (t + s.emu.debounce) s)

def execDebounceExpiry (l : AlarmLine) (s : State) : Host.Outcome State Fault Refusal :=
  .next (powered (debounceExpiry l) s)

/-- A line's raw and debounced level; ACTIVE is 0 and INACTIVE 1, in R96's order (log 13). -/
def levelCode (active : Bool) : Nat := if active then 0 else 1

/-- ALARM-SET (R97). -/
def alarmSet (enableA enableB debounce startsMuster : Nat) (id : ReqId) (s : State) : State :=
  match yesNo? enableA, yesNo? enableB, yesNo? startsMuster with
  | some a, some b, some m =>
    let ms := clampTo 0 1000 debounce
    let s := s.withEmu { s.emu with
      lineA := { s.emu.lineA with enabled := a }, lineB := { s.emu.lineB with enabled := b }, debounce := ms,
      startsMuster := m }
    let s := evalCondition (settleLine .emb (settleLine .ema s))
    let e := s.emu
    answer id .done [.n1 (yesCode e.lineA.enabled), .n1 (yesCode e.lineB.enabled), .n2 e.debounce,
      .n1 (yesCode e.startsMuster), .n1 (levelCode e.lineA.rawActive), .n1 (levelCode e.lineA.active),
      .n1 (levelCode e.lineB.rawActive), .n1 (levelCode e.lineB.active), .n1 (yesCode e.condition)] s
  | _, _, _ => answer id .badValue [] s

def execAlarmSet (h : Hdr) (enableA enableB debounce startsMuster : Nat) (s : State) :
    Host.Outcome State Fault Refusal :=
  .next (accept Kind.alarmSet h 5 false (alarmSet enableA enableB debounce startsMuster) s)

/-! ## The declaration and the latch (R98, R101) -/

/-- EMERGENCY-DECLARE (R98). -/
def emergencyDeclare (value : Nat) (id : ReqId) (s : State) : State :=
  match onOff? value with
  | none => answer id .badValue [] s
  | some on =>
    let s := evalCondition (s.withEmu { s.emu with declared := on })
    answer id .done [.n1 (yesCode s.emu.condition), .n1 (yesCode s.emu.latch)] s

def execEmergencyDeclare (h : Hdr) (value : Nat) (s : State) : Host.Outcome State Fault Refusal :=
  .next (accept Kind.emergencyDeclare h 1 false (emergencyDeclare value) s)

/-- EMERGENCY-CLEAR (R101). -/
def emergencyClear (id : ReqId) (s : State) : State :=
  if s.emu.condition then answer id .busy [] s
  else if s.emu.latch then answer id .done [] (tellEmergency (s.withEmu { s.emu with latch := false }))
  else answer id .done [] s

def execEmergencyClear (h : Hdr) (s : State) : Host.Outcome State Fault Refusal :=
  .next (accept Kind.emergencyClear h 0 false emergencyClear s)

/-! ## RESUME (R105) -/

/-- The doors in EMERGENCY. -/
def heldDoors (s : State) : List Nat := portalsWhere (fun p => p.isDoor && p.state = .emergency) s

/-- RESUME of one portal. The state follows the number resumed, 255 where there is none (R208; log 13). -/
def resumeOne (n : Nat) (id : ReqId) (s : State) : State :=
  let p := s.portal n
  if !p.isDoor then answer id .notDoor [] s
  else if p.state ≠ .emergency then answer id .done [.n2 0, orNoState none] s
  else
    let s := resumeDoor n s
    answer id .done [.n2 1, orNoState (some (s.portal n).state)] s

/-- RESUME of every held door, ascending. -/
def resumeAll (id : ReqId) (s : State) : State :=
  let ns := heldDoors s
  answer id .done [.n2 ns.length, orNoState none] (ns.foldl (fun s n => resumeDoor n s) s)

/-- RESUME (R105, R209). A scope above 1 is judged before the condition, so it is BAD-VALUE while R105 would have it BUSY; no rule
says which comes first. DESIGN CHOICE (log 44), unsafe. -/
def resume (scope n : Nat) (id : ReqId) (s : State) : State :=
  if 1 < scope then answer id .badValue [] s
  else if s.emu.condition then answer id .busy [] s
  else if scope = 0 then resumeOne n id s
  else resumeAll id s

def execResume (h : Hdr) (scope n : Nat) (s : State) : Host.Outcome State Fault Refusal :=
  .next (accept Kind.resume h 2 false (resume scope n) s)

/-! ## Muster (R108 to R110, R114) -/

/-- MUSTER-START (R109). -/
def musterStart (id : ReqId) (s : State) : State :=
  if musterBusy s then answer id .storeBusy [] s else startMuster .host (some id) s

def execMusterStart (h : Hdr) (s : State) : Host.Outcome State Fault Refusal :=
  .next (accept Kind.musterStart h 0 false musterStart s)

/-- MUSTER-END (R110). Answered at once it carries the muster number and stored, as the record then stands (log 32). -/
def musterEnd (id : ReqId) (s : State) : State :=
  if !s.emu.record.active then
    answer id .done [.n4 s.emu.record.number, .n1 (yesCode !s.emu.outstanding)] s
  else if musterBusy s then answer id .storeBusy [] s
  else endMuster id s

def execMusterEnd (h : Hdr) (s : State) : Host.Outcome State Fault Refusal :=
  .next (accept Kind.musterEnd h 0 false musterEnd s)

/-- MUSTER_WRITE_RETRY (R108). -/
def execMusterWriteRetry (s : State) : Host.Outcome State Fault Refusal := .next (powered retryRecord s)

/-- MUSTER-QUERY (R114), answered DONE, which R114 does not name. DESIGN CHOICE (log 46), unsafe. -/
def musterQuery (id : ReqId) (s : State) : State :=
  let e := s.emu
  answer id .done ([.n1 (yesCode e.record.active), .n4 e.record.number, .n1 (enumCode? musterCauses e.cause),
    .n4 e.record.startedAt, .n2 e.mustered, .n2 (aboardTotal s.roll - e.mustered)]
    ++ (List.range 32).map (fun i => .n2 (s.station (i + 1))) ++ [.n1 (yesCode e.outstanding)]) s

def execMusterQuery (h : Hdr) (s : State) : Host.Outcome State Fault Refusal :=
  .next (accept Kind.musterQuery h 0 false musterQuery s)

/-- MUSTER-READ (R114); a starting number 0 to 8191 is answered DONE, which R114 does not name. DESIGN CHOICE (log 46), unsafe. -/
def musterRead (start : Nat) (id : ReqId) (s : State) : State :=
  if 8191 < start then answer id .badValue [] s
  else answer id .done (listPersons (fun p => p.state = .aboard && p.mark.isNone) start s) s

def execMusterRead (h : Hdr) (start : Nat) (s : State) : Host.Outcome State Fault Refusal :=
  .next (accept Kind.musterRead h 2 false (musterRead start) s)

/-! ## EMERGENCY-QUERY (R115) -/

/-- A line's raw level, debounced level, enable, and whether a change is pending. -/
def lineFields (l : LineFilter) : List Fld :=
  [.n1 (levelCode l.rawActive), .n1 (levelCode l.active), .n1 (yesCode l.enabled), .n1 (yesCode l.since.isSome)]

/-- EMERGENCY-QUERY (R115), answered DONE, which R115 does not name. DESIGN CHOICE (log 46), unsafe. The declaration is sent as yes/no,
ON 1 and OFF 0, unlike EMERGENCY-DECLARE's own ON and OFF. DESIGN CHOICE (log 41), unsafe. -/
def emergencyQuery (id : ReqId) (s : State) : State :=
  let e := s.emu
  let held := heldDoors s
  answer id .done (lineFields e.lineA ++ lineFields e.lineB ++ [.n2 e.debounce, .n1 (yesCode e.startsMuster),
    .n1 (yesCode e.declared), .n1 (yesCode e.condition), .n1 (yesCode e.latch), .n2 held.length]
    ++ held.flatMap (fun n => [.n1 n, .n1 (enumCode presets (s.portal n).preset), .n1 (yesCode (s.portal n).autoResume)])) s

def execEmergencyQuery (h : Hdr) (s : State) : Host.Outcome State Fault Refusal :=
  .next (accept Kind.emergencyQuery h 0 false emergencyQuery s)

end Sys2Proof.Machine
end

