-- ==== Sys2Proof/Machine/Cards.lean ====
section
/-! DEFINITION. The meanings of the Card Table's commands (chapter 1). -/

namespace Sys2Proof.Machine

open Sys2Proof

/-! ## Replies -/

/-- The entry's fields in R1's order, the day counters effective, with its set and way (R20). -/
def entryFields (set way : Nat) (e : CardEntry) (s : State) : List Fld :=
  [.n1 1, .n4 e.card, .n1 e.gen, .n2 e.person, .n2 e.folio, .n1 (enumCode cardClasses e.cls), .n1 (yesCode e.drinkingAge),
    .n1 (yesCode e.chargeEnabled), .n3 e.cap, .n1 e.grants.length] ++ e.grants.map (fun g => .n2 (grantCode g))
    ++ [.n4 e.validFrom, .n4 e.validUntil, .n1 (yesCode e.revoked), .n1 (yesCode e.resident), .n1 e.holdCount,
      .n2 e.dayStamp, .n3 (e.spend s.clock.day), .n1 (e.alcohol s.clock.day), .n1 (yesCode e.suspect),
      .n1 e.storedCode.toNat, .n1 set, .n1 way]

/-- The fetch details of a card, behind their presence byte (R20, R208). -/
def fetchFields (f : Option (Nat × Fetch)) : List Fld :=
  match f with
  | some (n, f) => [.n1 1, .n1 n, .n1 f.waiting.length]
  | none => [.n1 0, .n1 0, .n1 0]

/-- The state of one way: its enable and its fault count (R11). It is the whole of the way state that section 1.5 has WAY-DISABLE and
WAY-RESTORE answer with, since the entry numbers are WAY-QUERY's to gather (R11). DESIGN CHOICE (log 41), unsafe. -/
def wayFields (w : Nat) (s : State) : List Fld := [.n1 (yesCode (s.way w).enabled), .n1 (s.way w).faults]

/-- The valid entries of a way. -/
def entriesOfWay (s : State) (w : Nat) : List CardEntry :=
  s.cards.entries.filterMap fun p => if p.1 % 4 = w then p.2 else none

/-- What WAY-QUERY returns of a way (R11). -/
def wayReport (s : State) (w : Nat) : List Fld :=
  let es := entriesOfWay s w
  wayFields w s ++ [.n2 es.length, .n2 (es.filter (·.resident)).length, .n2 (es.filter (0 < ·.holdCount)).length,
    .n2 (es.filter (·.suspect)).length]

/-- The sets whose entry in a way is read one after another, each verified (R11, R19). -/
def verifyWay (s : State) (w : Nat) : State := (setsOfWay s w).foldl (fun s set => verify set w s) s

/-! ## Loads and fetches -/

/-- CARD-LOAD (R16 to R18, R23, R24). -/
def cardLoad (r : CardRecord) (id : ReqId) (s : State) : State :=
  match recordParts r with
  | none => answer id .badRecord [] s
  | some (cls, grants) =>
    let fresh := entryOf r cls grants s.clock.day
    match fetchOf s r.card with
    | some (n, f) => answerFetch id n f fresh s
    | none => loadRecord id fresh s

def execCardLoad (h : Hdr) (r : CardRecord) (s : State) : Host.Outcome State Fault Refusal :=
  .next (accept Kind.cardLoad h (cardLoadLength r.grantCount) false (cardLoad r) s)

/-- CARD-UNKNOWN (R25). -/
def cardUnknown (card : Nat) (id : ReqId) (s : State) : State :=
  match fetchOf s card with
  | some (n, f) => answer id .done [] (refuseFetch n f .noRecord s)
  | none => answer id .notPending [] s

def execCardUnknown (h : Hdr) (card : Nat) (s : State) : Host.Outcome State Fault Refusal :=
  .next (accept Kind.cardUnknown h 4 false (cardUnknown card) s)

/-- FETCH_EXPIRY (R26). -/
def fetchExpiry (n : Nat) (s : State) : State :=
  match s.fetch n with
  | some f => refuseFetch n f .offline (report .fetchTimeout { card := some f.card } (reachTime f.expiry s))
  | none => s

def execFetchExpiry (n : Nat) (s : State) : Host.Outcome State Fault Refusal := .next (powered (fetchExpiry n) s)

/-- FETCH-WAIT-SET (R22). -/
def fetchWaitSet (ms : Nat) (id : ReqId) (s : State) : State :=
  let wait := clampTo 50 2000 (ms / 50 * 50)
  answer id .done [.n2 wait] (s.withCards { s.cards with fetchWait := wait })

def execFetchWaitSet (h : Hdr) (ms : Nat) (s : State) : Host.Outcome State Fault Refusal :=
  .next (accept Kind.fetchWaitSet h 2 false (fetchWaitSet ms) s)

/-! ## Records -/

/-- CARD-REVOKE (R27). -/
def cardRevoke (card : Nat) (id : ReqId) (s : State) : State :=
  let (found, s) := readCard card s
  let s := found.elim s fun p => writeEntry (setIndex card) p.1 (fun e => { e with revoked := true }) s
  let pendingFetch := fetchOf s card
  let s := pendingFetch.elim s fun p => s.setFetch p.1 (some { p.2 with revoked := true })
  if found.isSome || pendingFetch.isSome then
    answer id .done [.n1 (yesCode found.isSome), .n1 (yesCode pendingFetch.isSome)] s
  else answer id .notPresent [] s

def execCardRevoke (h : Hdr) (card : Nat) (s : State) : Host.Outcome State Fault Refusal :=
  .next (accept Kind.cardRevoke h 4 false (cardRevoke card) s)

/-- The number of valid resident entries of a set (R15). -/
def residents (s : State) (set : Nat) : Nat := ((List.range 4).filter fun w => (s.entry set w).any (·.resident)).length

/-- CARD-RESIDENT (R15). -/
def cardResident (card value : Nat) (id : ReqId) (s : State) : State :=
  match onOff? value with
  | none => answer id .badValue [] s
  | some on =>
    match readCard card s with
    | (none, s) => answer id .notPresent [] s
    | (some (w, e), s) =>
      if e.suspect then answer id .notPresent [] s
      else if on && e.resident then answer id .done [] s
      else if on && 3 ≤ residents s (setIndex card) then answer id .tableFull [] s
      else answer id .done [] (writeEntry (setIndex card) w (fun e => { e with resident := on }) s)

def execCardResident (h : Hdr) (card value : Nat) (s : State) : Host.Outcome State Fault Refusal :=
  .next (accept Kind.cardResident h 5 false (cardResident card value) s)

/-- CARD-QUERY by card number (R20). A matched entry that fails its check and is rebuilt for another card is not this card's:
NOT-PRESENT. DEDUCED (log 38), unsafe. -/
def queryCard (card : Nat) (id : ReqId) (s : State) : State :=
  match readSeen card s with
  | (some (w, e), s) =>
    answer id .done (entryFields (setIndex card) w e s ++ fetchFields (fetchOf s card)) s
  | (none, s) => answer id .notPresent (fetchFields (fetchOf s card)) s

/-- CARD-QUERY by set and way (R20). -/
def queryPlace (set way : Nat) (id : ReqId) (s : State) : State :=
  if 3 < way then answer id .badValue [] s
  else
    let s := verify set way s
    match s.entry set way with
    | some e => answer id .done (entryFields set way e s ++ fetchFields none) s
    | none => answer id .notPresent (fetchFields none) s

/-- CARD-QUERY (R20, R209). An entry is reported with DONE: the rules name NOT-PRESENT and BAD-VALUE, and of the entry's own reply no
result. DESIGN CHOICE (log 46), unsafe. -/
def cardQuery (form key : Nat) (id : ReqId) (s : State) : State :=
  match form with
  | 0 => queryCard key id s
  | 1 => queryPlace (querySet key) (queryWay key) id s
  | _ => answer id .badValue [] s

def execCardQuery (h : Hdr) (form key : Nat) (s : State) : Host.Outcome State Fault Refusal :=
  .next (accept Kind.cardQuery h 5 false (cardQuery form key) s)

/-- FLUSH of one position: verified, and invalidated when neither resident nor hold-locked (R19). -/
def flushEntry (s : State) (n : Nat) : State :=
  let set := n / 4
  let way := n % 4
  let s := verify set way s
  match s.entry set way with
  | some e => if !e.resident && e.holdCount = 0 then leaveTable set way s else s
  | none => s

/-- FLUSH (R19; logs 16 and 17 for the count and the order). -/
def flush (id : ReqId) (s : State) : State :=
  let before := s.cards.entries.length
  let s := (s.cards.entries.map (·.1)).foldl flushEntry s
  answer id .done [.n2 (before - s.cards.entries.length)] s

def execFlush (h : Hdr) (s : State) : Host.Outcome State Fault Refusal := .next (accept Kind.flush h 0 false flush s)

/-! ## Ways (R11) -/

/-- WAY-DISABLE: on an enabled way the retirement of R9, its fault count kept and no WAY-RETIRED, whatever its pass finds. -/
def wayDisable (w : Nat) (id : ReqId) (s : State) : State :=
  if 3 < w then answer id .badValue [] s
  else
    let s := if (s.way w).enabled then retireWay w false s else s
    answer id .done (wayFields w s) s

def execWayDisable (h : Hdr) (w : Nat) (s : State) : Host.Outcome State Fault Refusal :=
  .next (accept Kind.wayDisable h 1 false (wayDisable w) s)

/-- WAY-RESTORE. -/
def wayRestore (w : Nat) (id : ReqId) (s : State) : State :=
  if 3 < w then answer id .badValue [] s
  else
    let s := s.setWay w ⟨0, true⟩
    answer id .done (wayFields w s) s

def execWayRestore (h : Hdr) (w : Nat) (s : State) : Host.Outcome State Fault Refusal :=
  .next (accept Kind.wayRestore h 1 false (wayRestore w) s)

/-- WAY-QUERY: the way it names is judged as the other two requests' is, and the four ways are reported, every valid entry
verified as the numbers are gathered (log 39). -/
def wayQuery (w : Nat) (id : ReqId) (s : State) : State :=
  if 3 < w then answer id .badValue [] s
  else
    let s := (List.range 4).foldl verifyWay s
    answer id .done ((List.range 4).flatMap (wayReport s)) s

def execWayQuery (h : WayRequest) (s : State) : Host.Outcome State Fault Refusal :=
  .next (accept Kind.wayQuery h.toHdr 1 false (wayQuery h.way) s)

end Sys2Proof.Machine
end

