-- ==== Sys2Proof/Machine/ShipTime.lean ====
section
/-! DEFINITION. The meanings of the Voyage Clock's commands (chapter 2). -/

namespace Sys2Proof.Machine

open Sys2Proof

/-- The crystal's next second begins (R29, R30; log 3). -/
def nextSecond (s : State) : State :=
  let start := s.clock.secondStart + 1000
  reachTime start (s.withClock { s.clock with secondStart := start })

/-- SECOND_COUNT: ship time rises by one while the clock is SET, the day is evaluated, and what falls due is taken
(R29, R31, R32). -/
def secondCount (s : State) : State :=
  let s := nextSecond s
  if s.clock.isSet then
    let s := evaluateDay (s.withClock { s.clock with shipTime := satAdd maxTime s.clock.shipTime 1 })
    takeAll (dueNow s) s
  else s

def execSecondCount (s : State) : Host.Outcome State Fault Refusal := .next (powered secondCount s)

/-- DAY_ROLLOVER: the computed day passing the current day (R32, R33). -/
def execDayRollover (s : State) : Host.Outcome State Fault Refusal := .next (powered evaluateDay s)

/-- DAY_WRITE_RETRY (R34). -/
def execDayWriteRetry (s : State) : Host.Outcome State Fault Refusal := .next (powered retryDay s)

/-- The step a TIME-SET reports, numbered in the order of R30's table: FIRST, FORWARD, NONE, BACKWARD. -/
def stepCode (c : Clock) (t : Nat) : Nat :=
  if !c.isSet then 0 else if c.shipTime < t then 1 else if c.shipTime = t then 2 else 3

/-- TIME-SET (R30, R31). A rollover comes before the reply; what falls due and the reply come in an order that is
free (log 5). CLOCK-STEP is taken before the time moves (log 30). -/
def timeSet (t : Nat) (id : ReqId) (s : State) : State :=
  let code := stepCode s.clock t
  let s := if code = 3 then report .clockStep { req := some id } s else s
  let s := evaluateDay (s.withClock { s.clock with shipTime := t, isSet := true, secondStart := s.now })
  takeAll (dueNow s ++ [.reply id (.plain .done [.n1 code, .n4 s.clock.shipTime, .n2 s.clock.day])]) s

def execTimeSet (h : Hdr) (t : Nat) (s : State) : Host.Outcome State Fault Refusal :=
  .next (accept Kind.timeSet h 4 false (timeSet t) s)

/-- ROLLOVER-SET (R35). -/
def rolloverSet (offset : Nat) (id : ReqId) (s : State) : State :=
  if 86399 < offset then answer id .badValue [] s
  else
    let s := evaluateDay (s.withClock { s.clock with offset := offset })
    answer id .done [.n4 s.clock.offset, .n2 s.clock.day] s

def execRolloverSet (h : Hdr) (offset : Nat) (s : State) : Host.Outcome State Fault Refusal :=
  .next (accept Kind.rolloverSet h 4 false (rolloverSet offset) s)

/-- The seconds until the next rollover; 0 while NOT-SET and where it lies beyond the last ship time (R40). -/
def untilRollover (c : Clock) : Nat :=
  let at' := c.offset + 86400 * (c.day + 1)
  if c.isSet && at' ≤ maxTime then at' - c.shipTime else 0

/-- CLOCK-QUERY (R40), answered DONE, which R40 does not name. DESIGN CHOICE (log 46), unsafe. -/
def clockQuery (id : ReqId) (s : State) : State :=
  let c := s.clock
  answer id .done [.n4 c.shipTime, .n1 (yesCode c.isSet), .n4 c.offset, .n2 c.day, .n2 (storedDay s),
    .n1 (yesCode c.dayOutstanding), .n4 (untilRollover c)] s

def execClockQuery (h : Hdr) (s : State) : Host.Outcome State Fault Refusal :=
  .next (accept Kind.clockQuery h 0 false clockQuery s)

end Sys2Proof.Machine
end

