-- ==== Sys2Proof/Machine/Faults.lean ====
section
/-! DEFINITION. The meanings of the Fault Recorder's commands (chapter 10). -/

namespace Sys2Proof.Machine

open Sys2Proof

/-- SEVERITY-SET (R188). -/
def severitySet (kind severity : Nat) (id : ReqId) (s : State) : State :=
  match enumOf faultKinds kind, enumOf severities severity with
  | some k, some v =>
    answer id .done [.n1 kind, .n1 severity]
      (s.withFrc { s.frc with rows := s.frc.rows.set k.row { s.frc.rowOf k with severity := v } })
  | _, _ => answer id .badValue [] s

def execSeveritySet (h : Hdr) (kind severity : Nat) (s : State) : Host.Outcome State Fault Refusal :=
  .next (accept Kind.severitySet h 2 false (severitySet kind severity) s)

/-- The kinds in the sticky summary, in table order (R190, R194). -/
def Recorder.summary (r : Recorder) : List FaultKind := faultKinds.filter fun k => (r.rowOf k).inSummary

/-- The summary as a list of kinds behind its count (log 13). -/
def summaryList (r : Recorder) : List Fld :=
  .n1 r.summary.length :: r.summary.map fun k => .n1 (enumCode faultKinds k)

/-- A field of an absent group: its bytes are 0 (R208). -/
def Fld.blank : Fld → Fld
  | .n1 _ => .n1 0
  | .n2 _ => .n2 0
  | .n3 _ => .n3 0
  | .n4 _ => .n4 0
  | .i3 _ => .i3 0
  | .i4 _ => .i4 0

/-- The optional fields of a report (R187): the person 0xFFFF where absent, the others behind their presence bytes (R208). -/
def faultFields (f : FaultFields) : List Fld :=
  optional1 f.portal ++ optional4 f.card ++ [orNone2 f.person] ++ optional1 f.way
    ++ [.n1 (yesCode f.req.isSome), .n1 (f.req.elim 0 (·.kind)), .n1 (f.req.elim 0 (·.tag))]

/-- The capture record behind its presence byte (R191, R208). -/
def captureFields (c : Option Capture) : List Fld :=
  match c with
  | some c => [.n1 1, .n1 (enumCode faultKinds c.kind), .n1 (enumCode severities c.severity), .n4 c.time] ++ faultFields c.fields
      ++ [.n1 c.count]
  | none => [.n1 0, .n1 0, .n1 0, .n4 0] ++ (faultFields {}).map Fld.blank ++ [.n1 0]

/-- The sixteen occurrence counts. -/
def countFields (r : Recorder) : List Fld := faultKinds.map fun k => .n1 (r.rowOf k).count

/-- FAULT-READ (R194), answered DONE, which R194 does not name. DESIGN CHOICE (log 46), unsafe. -/
def faultRead (id : ReqId) (s : State) : State :=
  answer id .done (summaryList s.frc ++ captureFields s.frc.capture ++ countFields s.frc
    ++ faultKinds.map (fun k => .n1 (enumCode severities (s.frc.rowOf k).severity))
    ++ [.n1 (yesCode (alertLine s)), .n1 (yesCode (alertEmu s)), .n1 (yesCode (alertPrl s)), .n1 (yesCode (alertPtu s))]) s

def execFaultRead (h : Hdr) (s : State) : Host.Outcome State Fault Refusal :=
  .next (accept Kind.faultRead h 0 false faultRead s)

/-- The recorder emptied, its severities kept (R195). -/
def Recorder.emptied (r : Recorder) : Recorder :=
  { rows := r.rows.map fun row => { row with count := 0, inSummary := false }, capture := none }

/-- FAULT-CLEAR (R195). -/
def faultClear (id : ReqId) (s : State) : State :=
  answer id .done (summaryList s.frc ++ captureFields s.frc.capture ++ countFields s.frc) (s.withFrc s.frc.emptied)

def execFaultClear (h : Hdr) (s : State) : Host.Outcome State Fault Refusal :=
  .next (accept Kind.faultClear h 0 false faultClear s)

end Sys2Proof.Machine
end

