-- ==== Sys2Proof/Machine/Charges.lean ====
section
/-! DEFINITION. The meanings of AUTHORIZE and of the tariff's commands (chapter 6). -/

namespace Sys2Proof.Machine

open Sys2Proof

/-! ## AUTHORIZE (R118 to R120) -/

/-- The first three checks, then the card lookup (R119, R120). -/
def authorize (portal card gen : Nat) (a : ChargeAmounts) (id : ReqId) (s : State) : State :=
  let p : Presentation := ⟨id.tag, portal, card, gen, .charge a⟩
  if !s.clock.isSet then refuse p .clockUnset s
  else if s.emu.latch then refuse p .emergency s
  else if !(s.portal portal).serves .terminal then refuse p .outOfService s
  else present p s

def execAuthorize (h : Hdr) (portal card gen : Nat) (a : ChargeAmounts) (s : State) : Host.Outcome State Fault Refusal :=
  .next (accept Kind.authorize h 12 false (authorize portal card gen a) s)

/-! ## The tariff (R133 to R139) -/

/-- A tier row strictly ascends (R134). -/
def rowAscends (r : ClassRates) : Bool := r.b1 < r.b2 && r.b2 < r.b3 && r.b3 < r.b4

/-- The first card class whose tier row fails, as its number (R134). -/
def firstBadRow (t : Tariff) : Option Nat := t.rows.findIdx? fun r => !rowAscends r

/-- A row's rates clamped (R134). -/
def clampRow (r : ClassRates) : ClassRates :=
  { r with discount := clampTo 0 5000 r.discount, alcoholCap := clampTo 0 31 r.alcoholCap }

/-- The tariff as clamped (R134). -/
def clampTariff (t : Tariff) : Tariff :=
  { gratuity := t.gratuity.map (clampTo 0 2500), guest := clampRow t.guest, youth := clampRow t.youth, crew := clampRow t.crew,
    officer := clampRow t.officer, visitor := clampRow t.visitor }

/-- The number of values clamped (R134). -/
def clampCount (t : Tariff) : Nat :=
  (t.gratuity.filter (2500 < ·)).length + (t.rows.filter fun r => 5000 < r.discount).length
    + (t.rows.filter fun r => 31 < r.alcoholCap).length

/-- TARIFF-STAGE (R134 to R136): ACTIVE is 0 and STAGED 1 in the reply (log 13). -/
def tariffStage (t : Tariff) (applyNow : Nat) (id : ReqId) (s : State) : State :=
  match yesNo? applyNow with
  | none => answer id .badValue [] s
  | some now =>
    match firstBadRow t with
    | some cls => answer id .badAmount [.n1 cls] s
    | none =>
      let was := s.purse.staged.isSome
      let s := s.withPurse (if now then { s.purse with active := clampTariff t, staged := none }
        else { s.purse with staged := some (clampTariff t) })
      answer id .done [.n1 (if now then 0 else 1), .n1 (yesCode was), .n1 (clampCount t)] s

def execTariffStage (h : Hdr) (t : Tariff) (applyNow : Nat) (s : State) : Host.Outcome State Fault Refusal :=
  .next (accept Kind.tariffStage h 92 false (tariffStage t applyNow) s)

/-- TARIFF-DISCARD (R135). -/
def tariffDiscard (id : ReqId) (s : State) : State :=
  answer id .done [.n1 (yesCode s.purse.staged.isSome)] (s.withPurse { s.purse with staged := none })

def execTariffDiscard (h : Hdr) (s : State) : Host.Outcome State Fault Refusal :=
  .next (accept Kind.tariffDiscard h 0 false tariffDiscard s)

/-- The four tables in R133's order. -/
def tariffFields (t : Tariff) : List Fld :=
  t.gratuity.map .n2 ++ t.rows.map (fun r => .n2 r.discount) ++ t.rows.map (fun r => .n1 r.alcoholCap)
    ++ t.rows.flatMap (fun r => [.n3 r.b1, .n3 r.b2, .n3 r.b3, .n3 r.b4])

/-- TARIFF-QUERY (R139); a copy that is present is answered DONE, which R139 does not name. DESIGN CHOICE (log 46), unsafe. The BAD-VALUE
reply names no copy and is the result byte alone. DESIGN CHOICE (log 41), unsafe. -/
def tariffQuery (which : Nat) (id : ReqId) (s : State) : State :=
  let present : Fld := .n1 (yesCode s.purse.staged.isSome)
  match which, s.purse.staged with
  | 0, _ => answer id .done (tariffFields s.purse.active ++ [present]) s
  | 1, some t => answer id .done (tariffFields t ++ [present]) s
  | 1, none => answer id .noneStaged [present] s
  | _, _ => answer id .badValue [] s

def execTariffQuery (h : Hdr) (which : Nat) (s : State) : Host.Outcome State Fault Refusal :=
  .next (accept Kind.tariffQuery h 1 false (tariffQuery which) s)

end Sys2Proof.Machine
end

