-- ==== Sys2Proof/Machine/Holds.lean ====
section
/-! DEFINITION. The meanings of the hold and folio commands (chapter 7). -/

namespace Sys2Proof.Machine

open Sys2Proof

/-! ## COMMIT and VOID (R151, R152, R157) -/

/-- A refusal of COMMIT or VOID carries the hold number as given (R151). -/
def refuseHold (id : ReqId) (number : Nat) (r : Result) (s : State) : State := answer id r [.n1 number] s

/-- The HELD hold a number names, or the result that refuses it; `onExpiry` is what a released-by-expiry hold answers
(R151). -/
def namedHold (number : Nat) (onExpiry : Result) (s : State) : Except Result (Hold × Nat) :=
  let slot := s.holdSlot (holdNumberSlot number)
  let same : Bool := slot.reuse = holdNumberReuse number
  match slot.body with
  | .free => .error (if same && slot.lastEnd = .expired then onExpiry else .unknownHold)
  | .held h expiry => if same then .ok (h, expiry) else .error .unknownHold
  | .committing _ _ => .error (if same then .holdBusy else .unknownHold)

/-- The commit part of a recomputed charge (R152). -/
def commitPart (h : Hold) (subtotal alcohol remaining : Nat) : CommitPart :=
  let c := chargeOf subtotal h.discount h.gratuity
  ⟨subtotal, c.net, c.gratuity, c.total, alcohol, remaining, false⟩

/-- What PUR hands JNL (R152, R165). -/
def appendOf (h : Hold) (c : CommitPart) : Append :=
  ⟨h.folio, h.card, h.person, h.portal, c.net, c.gratuity, c.total, c.alcohol⟩

/-- The append is queued and the hold becomes COMMITTING, or it is refused (R152, R165). -/
def commitHold (number : Nat) (h : Hold) (expiry subtotal alcohol : Nat) (id : ReqId) (s : State) : State :=
  if !numbersRemain s then
    refuseHold id number .journalFull
      (report .journalFull { portal := some h.portal, card := some h.card, person := some h.person, req := some id } s)
  else if storeFull s then refuseHold id number .storeBusy s
  else
    let slot := holdNumberSlot number
    let c := commitPart h subtotal alcohol (expiry - s.clock.shipTime)
    enqueue (.entry slot (appendOf h c) (some id))
      (s.setHoldSlot slot { s.holdSlot slot with body := .committing h c })

/-- COMMIT (R151, R152). -/
def commit (number subtotal alcohol : Nat) (id : ReqId) (s : State) : State :=
  match namedHold number .tooLate s with
  | .error r => refuseHold id number r s
  | .ok (h, expiry) =>
    if subtotal = 0 || 999999 < subtotal || 15 < alcohol then refuseHold id number .badAmount s
    else if h.subtotal < subtotal || h.alcohol < alcohol then refuseHold id number .overHold s
    else commitHold number h expiry subtotal alcohol id s

def execCommit (h : Hdr) (number subtotal alcohol : Nat) (s : State) : Host.Outcome State Fault Refusal :=
  .next (accept Kind.commit h 5 false (commit number subtotal alcohol) s)

/-- VOID (R151, R157). -/
def voidHold (number : Nat) (id : ReqId) (s : State) : State :=
  match namedHold number .unknownHold s with
  | .error r => refuseHold id number r s
  | .ok (h, _) =>
    answer id .done [.n1 number, .n3 h.total, .n1 h.alcohol] (releaseHold (holdNumberSlot number) h .voided s)

def execVoidHold (h : Hdr) (number : Nat) (s : State) : Host.Outcome State Fault Refusal :=
  .next (accept Kind.voidHold h 1 false (voidHold number) s)

/-! ## The hold table (R150, R158, R160) -/

/-- HOLD_EXPIRY (R150, R158). -/
def execHoldExpiry (slot : Nat) (s : State) : Host.Outcome State Fault Refusal := .next (powered (expireIfDue slot) s)

/-- HOLD-TIME-SET (R150). -/
def holdTimeSet (seconds : Nat) (id : ReqId) (s : State) : State :=
  let time := clampTo 30 900 seconds
  answer id .done [.n4 time] (s.withPurse { s.purse with holdTime := time })

def execHoldTimeSet (h : Hdr) (seconds : Nat) (s : State) : Host.Outcome State Fault Refusal :=
  .next (accept Kind.holdTimeSet h 4 false (holdTimeSet seconds) s)

/-- The number of a slot's state: FREE 0, HELD 1, COMMITTING 2 (R148, R208). -/
def HoldBody.code : HoldBody → Nat
  | .free => 0
  | .held _ _ => 1
  | .committing _ _ => 2

/-- The hold part, behind its presence byte (R148, R160). -/
def holdPart (h : Option Hold) : List Fld :=
  let x := h.getD ⟨0, 0, 0, 0, 0, 0, 0, 0, 0, 0⟩
  [.n1 (yesCode h.isSome), .n1 x.portal, .n4 x.card, .n2 x.person, .n2 x.folio, .n3 x.subtotal, .n3 x.total, .n1 x.alcohol,
    .n2 x.discount, .n2 x.gratuity, .n2 x.day]

/-- The commit part, behind its presence byte (R148, R160). -/
def commitPartFields (c : Option CommitPart) : List Fld :=
  let x := c.getD ⟨0, 0, 0, 0, 0, 0, false⟩
  [.n1 (yesCode c.isSome), .n3 x.subtotal, .n3 x.net, .n3 x.gratuity, .n3 x.total, .n1 x.alcohol, .n4 x.remaining,
    .n1 (yesCode x.orphaned)]

/-- A HELD hold's expiry time and the seconds until it, behind their presence byte (R148, R160). -/
def expiryFields (expiry : Option Nat) (time : Nat) : List Fld :=
  [.n1 (yesCode expiry.isSome), .n4 (expiry.getD 0), .n4 (expiry.elim 0 (· - time))]

/-- What HOLD-QUERY returns of a slot: with a hold, every field of its part, the expiry time among them (R160). -/
def slotReport (slot : Nat) (h : HoldSlot) (time : Nat) : List Fld :=
  [.n1 h.body.code, .n1 h.reuse, .n1 (enumCode lastEnds h.lastEnd), .n1 (holdNumber slot h.reuse)] ++ holdPart h.hold?
    ++ (match h.body with
      | .free => expiryFields none time ++ commitPartFields none
      | .held _ expiry => expiryFields (some expiry) time ++ commitPartFields none
      | .committing _ c => expiryFields none time ++ commitPartFields (some c))

/-- HOLD-QUERY (R160); a slot 0 to 31 is answered DONE, which R160 does not name. DESIGN CHOICE (log 46), unsafe. -/
def holdQuery (slot : Nat) (id : ReqId) (s : State) : State :=
  if 31 < slot then answer id .badValue [] s
  else answer id .done (slotReport slot (s.holdSlot slot) s.clock.shipTime) s

def execHoldQuery (h : Hdr) (slot : Nat) (s : State) : Host.Outcome State Fault Refusal :=
  .next (accept Kind.holdQuery h 1 false (holdQuery slot) s)

/-- What HOLD-SCAN returns of a slot that is not FREE (R160). -/
def scanSlot (s : State) (slot : Nat) : List Fld :=
  match (s.holdSlot slot).hold? with
  | none => []
  | some h =>
    [.n1 (holdNumber slot (s.holdSlot slot).reuse), .n1 (s.holdSlot slot).body.code, .n1 h.portal, .n4 h.card, .n2 h.folio,
      .n3 h.total]

/-- HOLD-SCAN (R160), answered DONE, which R160 does not name: DESIGN CHOICE (log 46), unsafe. The number of slots leads the list
(log 13). -/
def holdScan (id : ReqId) (s : State) : State :=
  answer id .done (.n1 (openHolds s).length :: (List.range 32).flatMap (scanSlot s)) s

def execHoldScan (h : Hdr) (s : State) : Host.Outcome State Fault Refusal :=
  .next (accept Kind.holdScan h 0 false holdScan s)

/-! ## Folios (R141 to R146) -/

/-- The figures in force and the available amount: state, limit, balance, exposure, available (R142). FOLIO-POST's "the figures"
(R143 does not list them) are taken to be these, the state among them. DESIGN CHOICE (log 41), unsafe. -/
def folioFields (f : Folio) : List Fld :=
  [.n1 (enumCode folioStates f.state), .n3 f.limit, .i3 f.balance, .n3 f.exposure, .i4 (available f)]

/-- Whether a posted balance lies in its range and leaves the limit less the balance within the largest amount (R142,
R143). -/
def balanceOk (limit : Nat) (balance : Int) : Bool :=
  -8388608 ≤ balance && balance ≤ maxBalance && (limit : Int) - balance ≤ maxAmount

/-- OPEN or FROZEN, the states FOLIO-LOAD allows (R142). -/
def loadedState (n : Nat) : Option FolioState :=
  match enumOf folioStates n with
  | some .opened => some .opened
  | some .frozen => some .frozen
  | some .closed | none => none

/-- FOLIO-LOAD (R142). -/
def folioLoad (n limit : Nat) (balance : Int) (state : Nat) (id : ReqId) (s : State) : State :=
  match loadedState state with
  | none => answer id .badValue [] s
  | some st =>
    let f := s.folio n
    if 4095 < n then answer id .badValue [] s
    else if maxAmount < limit || !balanceOk limit balance then answer id .badAmount [] s
    else if f.state = .closed then
      if maxAmount < journalSum s n then answer id .badAmount [] s
      else
        let s := s.setFolio n ⟨st, limit, balance, journalSum s n⟩
        answer id .loaded (folioFields (s.folio n)) s
    else
      let s := s.setFolio n ⟨st, limit, balance, f.exposure⟩
      answer id .updated (folioFields (s.folio n)) s

def execFolioLoad (h : Hdr) (n limit : Nat) (balance : Int) (state : Nat) (s : State) : Host.Outcome State Fault Refusal :=
  .next (accept Kind.folioLoad h 9 false (folioLoad n limit balance state) s)

/-- FOLIO-POST (R143). -/
def folioPost (n : Nat) (balance : Int) (id : ReqId) (s : State) : State :=
  let f := s.folio n
  if 4095 < n then answer id .badValue [] s
  else if f.state = .closed then answer id .notLoaded [] s
  else if !balanceOk f.limit balance then answer id .badAmount [] s
  else
    let s := s.setFolio n { f with balance := balance }
    answer id .done (folioFields (s.folio n)) s

def execFolioPost (h : Hdr) (n : Nat) (balance : Int) (s : State) : Host.Outcome State Fault Refusal :=
  .next (accept Kind.folioPost h 5 false (folioPost n balance) s)

/-- FOLIO-FREEZE and FOLIO-OPEN: a loaded folio takes the state named (R144). -/
def moveFolio (n : Nat) (st : FolioState) (id : ReqId) (s : State) : State :=
  if 4095 < n then answer id .badValue [] s
  else if (s.folio n).state = .closed then answer id .notLoaded [] s
  else answer id .done [.n1 (enumCode folioStates st)] (s.setFolio n { s.folio n with state := st })

def execFolioFreeze (h : Hdr) (n : Nat) (s : State) : Host.Outcome State Fault Refusal :=
  .next (accept Kind.folioFreeze h 2 false (moveFolio n .frozen) s)

def execFolioOpen (h : Hdr) (n : Nat) (s : State) : Host.Outcome State Fault Refusal :=
  .next (accept Kind.folioOpen h 2 false (moveFolio n .opened) s)

/-- FOLIO-CLOSE (R145). -/
def folioClose (n : Nat) (id : ReqId) (s : State) : State :=
  let f := s.folio n
  if 4095 < n then answer id .badValue [] s
  else if f.state = .closed then answer id .done [.i3 0] s
  else if 0 < f.exposure then answer id .busy [] s
  else answer id .done [.i3 f.balance] (s.setFolio n defaultFolio)

def execFolioClose (h : Hdr) (n : Nat) (s : State) : Host.Outcome State Fault Refusal :=
  .next (accept Kind.folioClose h 2 false (folioClose n) s)

/-- The open holds that name a folio (R146). -/
def holdsOfFolio (s : State) (n : Nat) : List Hold := ((openHolds s).map (·.2)).filter (·.folio = n)

/-- FOLIO-QUERY (R146); a folio number 0 to 4095 is answered DONE, which R146 does not name. DESIGN CHOICE (log 46), unsafe. -/
def folioQuery (n : Nat) (id : ReqId) (s : State) : State :=
  if 4095 < n then answer id .badValue [] s
  else
    let hs := holdsOfFolio s n
    answer id .done (folioFields (s.folio n) ++ [.n1 hs.length, .n3 (hs.map (·.total)).sum,
      .n2 (entriesOfFolio s n).length, .n3 (journalSum s n)]) s

def execFolioQuery (h : Hdr) (n : Nat) (s : State) : Host.Outcome State Fault Refusal :=
  .next (accept Kind.folioQuery h 2 false (folioQuery n) s)

end Sys2Proof.Machine
end

