-- ==== Sys2Proof/Machine/Booking.lean ====
section
/-! DEFINITION. The meanings of the journal's commands (chapter 8). -/

namespace Sys2Proof.Machine

open Sys2Proof

/-- A journal entry's 29 bytes (R211). -/
def journalFields (e : JournalEntry) : List Fld :=
  [.n4 e.seq, .n2 e.folio, .n4 e.card, .n2 e.person, .n1 e.portal, .n3 e.net, .n3 e.gratuity, .n3 e.total, .n1 e.alcohol,
    .n4 e.time, .n2 e.day]

/-- Whether a settlement is pending, which is also the presence byte of its last sequence and count (R168, R208). DESIGN CHOICE
(log 13), unsafe. -/
def settleFields (x : Option Settlement) : List Fld :=
  [.n1 (yesCode x.isSome), .n4 (x.elim 0 (·.last)), .n2 (x.elim 0 (·.count))]

/-- The journal's summary, in R168's order; none and EXHAUSTED are 0 (R211). -/
def summaryFields (next : Option Nat) (s : State) : List Fld :=
  let es := s.journal.entries
  [.n2 es.length, .n4 (es.head?.elim 0 (·.seq)), .n4 (es.getLast?.elim 0 (·.seq)), .n4 (s.journal.next.getD 0),
    .n4 s.image.settledThrough, .n1 (appendsInFlight s)] ++ settleFields s.journal.settle ++ [.n4 (next.getD 0)]

/-- Where the next JOURNAL-READ should begin: one above the last entry returned, or none when the reply reached the tail
(R168). -/
def nextRead (returned all : List JournalEntry) : Option Nat :=
  match returned.getLast?, all.getLast? with
  | some r, some t => if r.seq = t.seq then none else some (r.seq + 1)
  | _, _ => none

/-- JOURNAL-READ (R168, R211); a count 1 to 8 is answered DONE, which neither rule names. DESIGN CHOICE (log 46), unsafe. -/
def journalRead (start count : Nat) (id : ReqId) (s : State) : State :=
  if count = 0 || 8 < count then answer id .badValue [] s
  else
    let returned := (s.journal.entries.filter (start ≤ ·.seq)).take count
    answer id .done (summaryFields (nextRead returned s.journal.entries) s ++ .n1 returned.length
      :: returned.flatMap journalFields) s

def execJournalRead (h : Hdr) (start count : Nat) (s : State) : Host.Outcome State Fault Refusal :=
  .next (accept Kind.journalRead h 5 false (journalRead start count) s)

/-- The head entries at or below a sequence number (R170). -/
def settling (seq : Nat) (s : State) : List JournalEntry := s.journal.entries.takeWhile (·.seq ≤ seq)

/-- SETTLE (R170): with nothing to settle, DONE at once with count 0 and the settled-through value (log 33). -/
def settle (seq : Nat) (id : ReqId) (s : State) : State :=
  if s.journal.settle.isSome then answer id .busy [] s
  else match (settling seq s).getLast? with
  | none =>
    answer id .done [.n2 0, .n4 s.image.settledThrough, .n3 0, .n3 0, .n2 0, .n3 0, .n2 s.journal.entries.length] s
  | some e =>
    if storeFull s then answer id .storeBusy [] s
    else
      enqueue (.settle e.seq (some id))
        (s.withJournal { s.journal with settle := some ⟨(settling seq s).length, e.seq⟩ })

def execSettle (h : Hdr) (seq : Nat) (s : State) : Host.Outcome State Fault Refusal :=
  .next (accept Kind.settle h 4 false (settle seq) s)

end Sys2Proof.Machine
end

