-- ==== Sys2Proof/Machine/Storing.lean ====
section
/-! DEFINITION. The meanings of the store's commands (chapter 9). -/

namespace Sys2Proof.Machine

open Sys2Proof

/-! ## STORE-QUERY (R182) -/

/-- The kind and identifier of the write under way and which attempt it is on, behind their presence byte; the attempt
is 1 or 2, and the identifier of no write four bytes of 0 (log 13). -/
def writeFields (w : Option Write) : List Fld :=
  match w with
  | some w => [.n1 1, .n1 (enumCode storeKinds w.content.marker.kind), w.content.marker.idField, .n1 (if w.second then 2 else 1)]
  | none => [.n1 0, .n1 0, .n4 0, .n1 0]

/-- STORE-QUERY (R182), answered DONE, which R182 does not name. DESIGN CHOICE (log 46), unsafe. -/
def storeQuery (id : ReqId) (s : State) : State :=
  answer id .done (.n1 s.store.queue.length :: s.store.queue.map (fun r => .n1 (enumCode storeKinds r.kind))
    ++ writeFields s.store.write ++ [.n2 s.store.secondAttempts, .n2 s.store.faults, .n2 (freePlaces s.image)]) s

def execStoreQuery (h : Hdr) (s : State) : Host.Outcome State Fault Refusal :=
  .next (accept Kind.storeQuery h 0 false storeQuery s)

/-! ## Writes (R179 to R181) -/

/-- STORE_WRITE_BEGIN (R179). -/
def execStoreWriteBegin (s : State) : Host.Outcome State Fault Refusal := .next (powered beginWrite s)

/-- The request of the link that a queued request names as awaiting it: an orphaned append, a day write, and a record
write that no request awaits have none (R181; log 22 for a record write that several await). -/
def awaitedBy (r : StoreReq) (s : State) : Option ReqId :=
  match r with
  | .slot _ _ _ awaits => awaits
  | .entry _ _ awaits => awaits
  | .settle _ awaits => awaits
  | .muster => (s.emu.waiters.find? (·.carried)).map (·.id)
  | .day => none

/-- The optional fields of the STORE-FAULT report (R181). -/
def storeFaultFields (r : StoreReq) (s : State) : FaultFields :=
  let f : FaultFields := { req := awaitedBy r s }
  match r with
  | .slot person _ _ _ => { f with person := some person }
  | .entry _ a _ => { f with portal := some a.portal, card := some a.card, person := some a.person }
  | .settle _ _ | .muster | .day => f

/-- A day write that fails for a day value that has failed already is not recorded again (R34, R181). -/
def failedBefore (c : WriteContent) (s : State) : Bool :=
  match c with
  | .day d => s.clock.lastFailedDay = some d
  | .slot _ _ | .entry _ _ _ | .settle _ | .muster _ => false

/-- The end of a slot write, by what the write carried out (R181). -/
def endSlotWrite (person : Nat) (cause : SlotCause) (awaits : Option ReqId) (ok : Bool) (s : State) : State :=
  match cause with
  | .crossing portal card d late => endCrossing person portal card d late awaits ok s
  | .correction => endCorrection person awaits ok s
  | .mark portal card ashore => endMark person portal card ashore awaits ok s

/-- The report of an end to its requester: one event, made by the rule that owns the record (R181). -/
def reportEnd (r : StoreReq) (c : WriteContent) (ok : Bool) (s : State) : State :=
  match r, c with
  | .slot person _ cause awaits, _ => endSlotWrite person cause awaits ok s
  | .entry slot _ awaits, .entry _ e _ => if ok then closeCommit slot e awaits s else failCommit slot awaits s
  | .settle _ awaits, _ => if ok then completeSettle awaits s else failSettle awaits s
  | .muster, .muster record => endRecordWrite record ok s
  | .day, .day d => endDayWrite d ok s
  | _, _ => s

/-- A write ends: the marker is cleared, the request leaves the queue, a STORE-FAULT is recorded, and the requester is
told (R181, R182). -/
def endWrite (r : StoreReq) (w : Write) (ok : Bool) (s : State) : State :=
  let s := if ok then s.withImage (s.image.apply w.content) else s
  let s := s.withStore { s.store with
    secondAttempts := if ok && w.second then satAdd 65535 s.store.secondAttempts 1 else s.store.secondAttempts
    faults := if ok then s.store.faults else satAdd 65535 s.store.faults 1 }
  let s := writeMarker none s
  let s := s.withStore { s.store with queue := s.store.queue.drop 1, write := none }
  let s := if !ok && !failedBefore w.content s then report .storeFault (storeFaultFields r s) s else s
  reportEnd r w.content ok s

/-- A second attempt begins at once, with the same content and the same marker (R180). -/
def secondAttempt (w : Write) (s : State) : State :=
  writeMarker (some w.content.marker) (s.withStore { s.store with write := some { w with second := true } })

/-- An attempt of the write under way ends with its read-back (R180). -/
def attemptEnd (readBackMatches : Bool) (s : State) : State :=
  match s.store.write, s.store.queue with
  | some w, r :: _ =>
    if readBackMatches then endWrite r w true s
    else if w.second then endWrite r w false s
    else secondAttempt w s
  | _, _ => s

/-- STORE_ATTEMPT_END (R180, R181). -/
def execStoreAttemptEnd (readBackMatches : Bool) (s : State) : Host.Outcome State Fault Refusal :=
  .next (powered (attemptEnd readBackMatches) s)

end Sys2Proof.Machine
end

