-- ==== Sys2Proof/Machine/Resets.lean ====
section
/-! DEFINITION. The meanings of the power and reset commands (R183 to R186, R205, R206), and RESTART. -/

namespace Sys2Proof.Machine

open Sys2Proof

/-! ## Cold reset (R183, R206, R212) -/

/-- The levels that stand on BAUD1 and BAUD0 as a reset ends (R206, R212). -/
def strapsStand (straps : Straps) (s : State) : State := { s with pins := { s.pins with straps := straps } }

/-- What a loss of power or a cold reset leaves: the image, the pins and the lines' levels, and the model's own queue
and choices (R183; log 7). -/
def afterPower (supply : Bool) (check : SelfCheck) (straps : Straps) (s : State) : State :=
  { coldState s.image s.pins s.emu.lineA.rawActive s.emu.lineB.rawActive check straps with
    supply := supply, choices := s.choices, drawn := s.drawn, pending := s.pending }

/-- POWER_LOSS (R183, R212). -/
def execPowerLoss (s : State) : Host.Outcome State Fault Refusal :=
  .next (afterPower false ⟨false, false⟩ ⟨false, false⟩ s)

/-- COLD_RESET: the straps are read (R206). -/
def execColdReset (check : SelfCheck) (straps : Straps) (s : State) : Host.Outcome State Fault Refusal :=
  .next (afterPower true check straps (strapsStand straps s))

/-! ## The store's scan (R175, R184, R185, R117) -/

/-- An entry takes its place in ascending order of sequence number. -/
def insertEntry (e : JournalEntry) : List JournalEntry → List JournalEntry
  | [] => [e]
  | x :: t => if e.seq < x.seq then e :: x :: t else x :: insertEntry e t

/-- The entry records the image holds. -/
def storedEntries (img : Image) : List EntryRecord := img.entries.filterMap (·.2)

/-- The journal: every stored entry above the settled-through value, ascending (R175). -/
def scannedJournal (img : Image) : List JournalEntry :=
  (((storedEntries img).map (·.entry)).filter (img.settledThrough < ·.seq)).foldr insertEntry []

/-- The largest number the image holds or names (R175). -/
def largestNumber (img : Image) : Nat :=
  let named := match img.marker with
    | some ⟨.entry, n⟩ => n
    | _ => 0
  ((storedEntries img).foldl (fun m r => max m (max r.entry.seq (r.next.elim maxTime (· - 1)))) (max img.settledThrough named))

/-- The scan rebuilds JNL (R175). -/
def scanJournal (s : State) : State :=
  s.withJournal ⟨scannedJournal s.image, nextAfter (largestNumber s.image), none⟩

/-- A stored slot as the scan takes it: its mark counts when the muster is active, the numbers agree and the slot is
ABOARD (R117). -/
def restoredSlot (m : MusterRecord) (r : SlotRecord) : PersonSlot :=
  { r.slot with
    mark := if m.active && r.musterNumber = m.number && r.slot.state = .aboard then r.slot.mark else none }

/-- The scan rebuilds the muster record, the slots and their counts (R94, R117). -/
def scanSlots (s : State) : State :=
  let record := s.image.muster.getD ⟨false, 0, 0⟩
  let s := s.withEmu { s.emu with record := record, cause := if record.active then some .alarm else none }
  s.image.slots.foldl (fun s p => setPerson p.1 (restoredSlot record p.2) s) s

/-- The scan takes the voyage day (R39). -/
def scanDay (s : State) : State :=
  s.withClock { s.clock with day := max (storedDay s) (s.journal.entries.getLast?.elim 0 (·.day)) }

/-- An interrupted marker is reported and cleared (R185). -/
def scanMarker (s : State) : State :=
  match s.image.marker with
  | none => s
  | some m =>
    let s := notify (.storeInterrupted m.kind m.id) s
    let s := report .storeInterrupted { person := if m.kind = .slot then some m.id else none } s
    writeMarker none s

/-- The filters start at READY: a line low then has its pending change (R96, R116). -/
def startFilters (s : State) : State :=
  let start (l : LineFilter) := l.sample l.rawActive s.now
  s.withEmu { s.emu with lineA := start s.emu.lineA, lineB := start s.emu.lineB }

/-- The part enters READY after a cold start: RESTARTED, then what the rebuilt state calls for (R184, R206). -/
def coldReady (s : State) : State :=
  let s := notify (.restarted .power s.check) { s with starting := false }
  let s := if s.emu.record.active then tellMuster s else s
  startFilters (evalWarning s)

/-- STORE_SCAN: the scan of a cold start ends (R184). -/
def storeScan (s : State) : State :=
  if s.starting then coldReady (scanMarker (scanDay (scanSlots (scanJournal s)))) else s

def execStoreScan (s : State) : Host.Outcome State Fault Refusal := .next (powered storeScan s)

/-! ## Warm reset (R186, R205) -/

/-- Every portal's contact is UNKNOWN and every configured portal is placed, without notices (R69). -/
def placeAll (s : State) : State :=
  let s := s.withPtu { s.ptu with
    portals := Table.update defaultPortal (fun p => { p with contact := .unknown }) s.ptu.portals }
  (portalsWhere (fun p => p.cls.isSome) s).foldl (fun s n => place false n s) s

/-- A HELD hold is released without a notice of its own (R161). -/
def releaseAtReset (s : State) (slot : Nat) : State :=
  match (s.holdSlot slot).body with
  | .held h _ => releaseHold slot h .released s
  | .free | .committing _ _ => s

/-- A COMMITTING hold becomes orphaned (R161). -/
def HoldSlot.orphan (h : HoldSlot) : HoldSlot :=
  match h.body with
  | .committing x c => { h with body := .committing x { c with orphaned := true } }
  | .free | .held _ _ => h

/-- PUR's part: COMMITTING holds orphaned, HELD holds released in ascending order (R161). -/
def resetHolds (s : State) : State :=
  (List.range 32).foldl releaseAtReset
    (s.withPurse { s.purse with holds := Table.update defaultHoldSlot HoldSlot.orphan s.purse.holds })

/-- A queued write that no request awaits any more (R186). -/
def StoreReq.unawaited : StoreReq → StoreReq
  | .slot p c k _ => .slot p c k none
  | .entry n a _ => .entry n a none
  | .settle last _ => .settle last none
  | .muster => .muster
  | .day => .day

/-- The requests that awaited a write are lost at the link; the writes go on (R116, R186). -/
def dropAwaiting (s : State) : State :=
  let s := s.withStore { s.store with queue := s.store.queue.map StoreReq.unawaited }
  s.withEmu { s.emu with waiters := [] }

/-- The warm reset: LNK cleared and the straps read again, then, unless a cold start's scan is still to end, RESTARTED and
the blocks' own work (R28, R69, R161, R186, R205, R206). A RESET# that went low before the scan ended and goes high after it finds
the part READY, and is a warm reset in full; R205 does not say. DESIGN CHOICE (log 9), unsafe. -/
def warmReset (source : ResetSource) (straps : Straps) (s : State) : State :=
  let s := (strapsStand straps s).withLink (resetLink straps)
  if s.starting then s
  else
    let s := notify (.restarted source s.check) s
    let s := dropAwaiting (s.withCards { s.cards with fetches := [] })
    resetHolds (placeAll s)

/-- RESET_ASSERTED: RESET# is driven low; a frame in progress is cut off (R205; log 10). -/
def resetAsserted (s : State) : State :=
  { s with pins := { s.pins with resetHigh := false }, link := { s.link with sending := false, rx := .hunting } }

def execResetAsserted (s : State) : Host.Outcome State Fault Refusal := .next (resetAsserted s)

/-- RESET# is high again. -/
def resetReleased (s : State) : State := { s with pins := { s.pins with resetHigh := true } }

/-- WARM_RESET: RESET# goes high and the warm reset proceeds (R205). -/
def execWarmReset (straps : Straps) (s : State) : Host.Outcome State Fault Refusal :=
  .next (powered (warmReset .line straps) (resetReleased s))

/-- RESTART (R205): no reply of its own. -/
def restart (straps : Straps) (id : ReqId) (s : State) : State := warmReset (.request id.tag) straps s

def execRestart (h : RestartRequest) (s : State) : Host.Outcome State Fault Refusal :=
  .next (accept Kind.restart h.toHdr 0 false (restart h.straps) s)

end Sys2Proof.Machine
end

