-- ==== Sys2Proof/Machine/Linking.lean ====
section
/-! DEFINITION. The meanings of the link's events and of PING, STATUS and LINK-QUERY (chapter 11). -/

namespace Sys2Proof.Machine

open Sys2Proof

/-! ## The transmitter (R201 to R203) -/

/-- HOLD_LINE_CHANGE (R203). -/
def holdLineChange (high : Bool) (s : State) : State :=
  powered startTx { s with pins := { s.pins with holdHigh := high } }

def execHoldLineChange (high : Bool) (s : State) : Host.Outcome State Fault Refusal := .next (holdLineChange high s)

/-- The link after the last byte of its oldest frame has left: a part of a reply, the whole reply, a BUSY answer or a
notice (R201, R202). -/
def Link.afterFrame (l : Link) : Link :=
  let l := { l with sending := false, framesSent := satAdd 65535 l.framesSent 1 }
  match l.tx with
  | .reply id b sent :: rest =>
    if sent + 1 < b.parts then { l with tx := .reply id b (sent + 1) :: rest }
    else { l with tx := rest, outstanding := l.outstanding.erase id }
  | .busy id :: rest => { l with tx := rest, busy := l.busy.erase id, busySent := satAdd 65535 l.busySent 1 }
  | .notice _ :: rest => { l with tx := rest }
  | [] => l

/-- FRAME_SENT (R201 to R203). -/
def frameSent (s : State) : State := if s.link.sending then startTx (s.withLink s.link.afterFrame) else s

def execFrameSent (s : State) : Host.Outcome State Fault Refusal := .next (powered frameSent s)

/-! ## The receiver (R199, R200) -/

/-- KIND and TAG of a frame that had delivered both before it was abandoned (R199). -/
def delivered (bytes : List Byte) : Option ReqId :=
  match bytes with
  | _ :: kind :: tag :: _ => some ⟨kind.toNat, tag.toNat⟩
  | _ => none

/-- The bytes of the frame since its SYNC: those the assembler had, and those the event brings (log 11). -/
def Rx.with' (rx : Rx) (bytes : List Byte) : List Byte :=
  match rx with
  | .hunting => bytes
  | .collecting before _ => before ++ bytes

/-- A frame is abandoned: LINK-FORM, and the assembler hunts (R199). -/
def abandonFrame (bytes : List Byte) (s : State) : State :=
  if receiving s then
    report .linkForm { req := delivered (s.link.rx.with' bytes) } (s.withLink { s.link with rx := .hunting })
  else s

/-- BYTE_GAP_TIMEOUT (R199). -/
def execByteGapTimeout (bytes : List Byte) (s : State) : Host.Outcome State Fault Refusal := .next (abandonFrame bytes s)

/-- FRAME_ABANDONED: a LENGTH above 240 or a missing stop bit (R199). -/
def execFrameAbandoned (bytes : List Byte) (s : State) : Host.Outcome State Fault Refusal := .next (abandonFrame bytes s)

/-- FRAME_DISCARDED: the CHECK disagrees; LINK-CHECK and no reply (R199). -/
def frameDiscarded (s : State) : State :=
  if receiving s then report .linkCheck {} (s.withLink { s.link with rx := .hunting }) else s

def execFrameDiscarded (s : State) : Host.Outcome State Fault Refusal := .next (frameDiscarded s)

/-- UNKNOWN_KIND: answered at step 5 of R200, whatever the LENGTH and the service state. -/
def execUnknownKind (h : Hdr) (kind : Nat) (s : State) : Host.Outcome State Fault Refusal :=
  .next (accept kind h h.len true (fun id s => answer id .unknownKind [.n1 kind] s) s)

/-! ## PING, STATUS and LINK-QUERY (R204) -/

/-- The self-check result: STORAGE failed, CRYSTAL failed (R206; log 13). -/
def checkFields (c : SelfCheck) : List Fld := [.n1 (yesCode c.storageFailed), .n1 (yesCode c.crystalFailed)]

/-- PING: the part code in two bytes and the revision in one. DESIGN CHOICE (log 13), unsafe. -/
def ping (id : ReqId) (s : State) : State :=
  answer id .done ([.n2 Config.partCode, .n1 Config.revision] ++ checkFields s.check) s

def execPing (h : Hdr) (s : State) : Host.Outcome State Fault Refusal := .next (accept Kind.ping h 0 true ping s)

/-- STATUS, which clears the notices-lost flag (R202, R204). STARTING is 0 and READY 1. -/
def status (id : ReqId) (s : State) : State :=
  answer id .done
    [.n1 (yesCode !s.starting), .n1 (yesCode s.emu.condition), .n1 (yesCode s.emu.latch),
      .n1 (yesCode s.emu.record.active), .n1 (yesCode s.clock.isSet), .n1 (yesCode s.link.noticesLost),
      .n1 (yesCode !s.frc.summary.isEmpty), .n2 s.journal.entries.length, .n1 (openHolds s).length,
      .n2 s.roll.aboardGuests, .n2 s.roll.aboardCrew, .n2 s.roll.ashoreGuests, .n2 s.roll.ashoreCrew]
    (s.withLink { s.link with noticesLost := false })

def execStatus (h : Hdr) (s : State) : Host.Outcome State Fault Refusal := .next (accept Kind.status h 0 true status s)

/-- The rate the straps select (R206). -/
def baudRate (p : Straps) : Nat :=
  match p.baud1, p.baud0 with
  | false, false => 115200
  | false, true => 460800
  | true, false => 921600
  | true, true => 2000000

/-- The frames an item of the transmit queue still has to send: the parts of a reply that have not left, each of which is a
frame, or the one frame of a BUSY answer or a notice (R201, R202). -/
def Frame.left : Frame → Nat
  | .reply _ b sent => b.parts - sent
  | .busy _ | .notice _ => 1

/-- The number of frames in the transmit queue (R204). -/
def framesWaiting (tx : List Frame) : Nat := (tx.map Frame.left).sum

/-- LINK-QUERY (R204). HOLD# is 1 high and 0 low, and each link counter takes two bytes. DESIGN CHOICE (log 13), unsafe. -/
def linkQuery (id : ReqId) (s : State) : State :=
  let l := s.link
  answer id .done [.n4 (baudRate l.straps), .n1 l.outstanding.length, .n1 l.busy.length, .n1 (noticesWaiting l.tx),
    .n1 (framesWaiting l.tx), .n1 (yesCode s.pins.holdHigh), .n2 l.busySent, .n2 l.discarded, .n2 l.framesSent] s

def execLinkQuery (h : Hdr) (s : State) : Host.Outcome State Fault Refusal :=
  .next (accept Kind.linkQuery h 0 false linkQuery s)

end Sys2Proof.Machine
end

