-- ==== Sys2Proof/Machine/Wire.lean ====
section
/-! DEFINITION. The bytes of the frames the part sends (R198, R201, R207 to R211): what stands in the transmit queue as
it leaves the transmitter. Layouts that no table of section 11.6 gives are the model's (log 13). -/

namespace Sys2Proof.Machine

open Sys2Proof

/-! ## Fields (R208) -/

/-- A number in `w` bytes; where it does not fit, bytes that are free (log 13). -/
def numberBytes (w v : Nat) : List Byte :=
  if v < 256 ^ w then be w v else (List.range w).map (Config.wideByte v)

/-- A signed number in `w` bytes of two's complement. -/
def signedBytes (w : Nat) (v : Int) : List Byte := be w (v % (256 ^ w : Nat)).toNat

def Fld.bytes : Fld → List Byte
  | .n1 v => numberBytes 1 v
  | .n2 v => numberBytes 2 v
  | .n3 v => numberBytes 3 v
  | .n4 v => numberBytes 4 v
  | .i3 v => signedBytes 3 v
  | .i4 v => signedBytes 4 v

/-- The result byte (R208). -/
def Result.code : Result → Nat
  | .admitted => 0x00 | .approved => 0x01 | .done => 0x02
  | .installed => 0x03 | .updated => 0x04 | .passed => 0x05 | .notInstalled => 0x06 | .badRecord => 0x07
  | .notPending => 0x08 | .notPresent => 0x09 | .badValue => 0x0A | .notConfigured => 0x0B | .notDoor => 0x0C
  | .loaded => 0x0D | .notLoaded => 0x0E | .noneStaged => 0x0F | .listed => 0x10 | .notListed => 0x11
  | .noRecord => 0x20 | .offline => 0x21 | .fetchFull => 0x22 | .tableFull => 0x23 | .superseded => 0x24
  | .revoked => 0x25
  | .notYetValid => 0x28 | .expired => 0x29 | .noGrant => 0x2A | .notAboard => 0x2B
  | .emergency => 0x30 | .outOfService => 0x31 | .clockUnset => 0x32 | .starting => 0x33
  | .alreadyAshore => 0x38 | .alreadyAboard => 0x39 | .repeated => 0x3A | .capacity => 0x3B | .muster => 0x3C
  | .sailing => 0x3D
  | .storeBusy => 0x40 | .storeFault => 0x41
  | .chargeDisabled => 0x48 | .folioClosed => 0x49 | .folioFrozen => 0x4A | .limit => 0x4B | .dailyCap => 0x4C
  | .age => 0x4D | .pacing => 0x4E | .verify => 0x4F | .ceiling => 0x50 | .journalFull => 0x51 | .holdsFull => 0x52
  | .cardHolds => 0x53 | .badAmount => 0x54 | .unknownHold => 0x55 | .tooLate => 0x56 | .overHold => 0x57
  | .holdBusy => 0x58
  | .unknownKind => 0x60 | .badLength => 0x61 | .busy => 0x62

/-! ## Reply bodies (R201, R210) -/

/-- The fields of the decision reply after its outcome byte (R210). -/
def Decision.fields (d : Decision) : List Fld :=
  [.n1 d.detail, .n1 d.portal, .n1 d.portalState, .n2 (d.person.getD 65535), .n1 d.release, .n1 d.direction,
    .n1 d.personState, .n2 d.aboardTotal, .n2 d.mustered, .n2 (d.folio.getD 65535), .n1 (d.hold.getD 0),
    .n1 (flagsByte [d.sign, d.amounts, d.hold.isSome]), .n3 d.net, .n3 d.gratuity, .n3 d.total, .n1 d.tier, .n3 d.room]

def Body.bytes : Body → List Byte
  | .decision d => be 1 d.outcome.code ++ d.fields.flatMap Fld.bytes
  | .plain r fs => be 1 r.code ++ fs.flatMap Fld.bytes

/-- The body bytes of part `i` of a reply (R201). -/
def Body.part (b : Body) (i : Nat) : List Byte := (b.bytes.drop (240 * i)).take 240

/-! ## Notice bodies (R207) -/

/-- The KIND of a notice and its fields, in the order its rule lists them. RESTARTED of source LINE carries tag 0 (R205 gives it no
tag), and EMERGENCY-STATE each source as yes where it holds, the declaration ON too (R99 gives no code). DESIGN CHOICE (log 41),
unsafe. -/
def Notice.layout : Notice → Nat × List Fld
  | .restarted source c =>
    (0x80, (match source with
      | .line => [.n1 1, .n1 0, .n1 0]
      | .request tag => [.n1 1, .n1 1, .n1 tag]
      | .power => [.n1 0, .n1 2, .n1 0]) ++ checkFields c)
  | .cardWanted fetch card gen => (0x81, [.n1 fetch, .n4 card, .n1 gen])
  | .dayTally card day spend alcohol => (0x82, [.n4 card, .n2 day, .n3 spend, .n1 alcohol])
  | .dayRolled previous new time activated => (0x83, [.n2 previous, .n2 new, .n4 time, .n1 (yesCode activated)])
  | .doorAlarm portal kind state time =>
    (0x84, [.n1 portal, .n1 (enumCode doorAlarms kind), .n1 (enumCode portalStates state), .n4 time])
  | .portalDrive portal command =>
    (0x85, .n1 portal :: match command with
      | .release seconds => .n1 0 :: optional4 (some seconds)
      | .relock => .n1 1 :: optional4 none
      | .holdReleased => .n1 2 :: optional4 none)
  | .presenceConflict portal card person state =>
    (0x86, [.n1 portal, .n4 card, .n2 person, .n1 (enumCode personStates state)])
  | .laneAnomaly portal card person state direction time =>
    (0x87, [.n1 portal, .n4 card, .n2 person, .n1 (enumCode personStates state), .n1 (directionCode (some direction)), .n4 time])
  | .lateReturn portal card person kind time guests crew =>
    (0x88, [.n1 portal, .n4 card, .n2 person, .n1 (enumCode personKinds kind), .n4 time, .n2 guests, .n2 crew])
  | .capacityWarning aboard guests crew level limit time =>
    (0x89, [.n2 aboard, .n2 guests, .n2 crew, .n2 level, .n2 limit, .n4 time])
  | .allAboardMissing deadline time guests crew aboard => (0x8A, [.n4 deadline, .n4 time, .n2 guests, .n2 crew, .n2 aboard])
  | .emergencyState condition latch a b declared time =>
    (0x8B, [condition, latch, a, b, declared].map (fun x => .n1 (yesCode x)) ++ [.n4 time])
  | .musterState r cause mustered =>
    (0x8C, [.n1 (yesCode r.active), .n4 r.number, .n1 (enumCode? musterCauses cause), .n4 r.startedAt, .n2 mustered])
  | .holdExpired hold portal card person folio total alcohol time cause =>
    (0x8D, [.n1 hold, .n1 portal, .n4 card, .n2 person, .n2 folio, .n3 total, .n1 alcohol, .n4 time,
      .n1 (match cause with
        | .timeout => 0
        | .unbooked => 1)])
  | .storeInterrupted kind id => (0x8E, [.n1 (enumCode storeKinds kind), (Marker.mk kind id).idField])
  | .fault kind severity time fields count replaced =>
    (0x8F, [.n1 (enumCode faultKinds kind), .n1 (enumCode severities severity), .n4 time] ++ faultFields fields
      ++ [.n1 count, .n1 (yesCode replaced)])

/-! ## Frames (R198, R201) -/

/-- SYNC, then the frame (R198). -/
def wireFrame (kind tag : Nat) (body : List Byte) : List Byte := 0xC3 :: frameBytes kind tag body

/-- A reply's KIND: the request's, or 0x00 when that is no request kind (R201). -/
def replyKind (kind : Nat) : Nat := if isRequestKind kind then kind else 0

/-- The bytes of the next frame of an item of the transmit queue: the next part of a reply, with 0x80 added to its KIND
when another follows, a BUSY answer, or a notice (R201, R202). -/
def Frame.bytes : Frame → List Byte
  | .reply id b sent => wireFrame (replyKind id.kind + if sent + 1 < b.parts then 128 else 0) id.tag (b.part sent)
  | .busy id => wireFrame (replyKind id.kind) id.tag (be 1 Result.busy.code)
  | .notice n => wireFrame n.layout.1 0 (n.layout.2.flatMap Fld.bytes)

/-- The bytes leaving on TXD: those of the frame being sent, if one is (log 10 for a frame cut off). -/
def State.sendingBytes (s : State) : Option (List Byte) := if s.link.sending then s.link.tx.head?.map Frame.bytes else none

/-- A byte on the wire: a start bit, which is low, eight data bits least significant first, no parity, and a stop bit, which is high
(R198). True is high. -/
def byteBits (b : Byte) : List Bool := false :: (List.range 8).map b.getLsbD ++ [true]

/-- The level of TXD at bit time `t` of the frame being sent: it idles high, and is high during every reset and without a frame
(R198, R212). The gap R198 allows between two frames is timing, which the model leaves out. -/
def State.txd (s : State) (t : Nat) : Bool :=
  if s.supply && s.pins.resetHigh then (((s.sendingBytes.getD []).flatMap byteBits)[t]?).getD true else true

end Sys2Proof.Machine
end

