-- ==== Sys2Proof/Machine/Dispatch.lean ====
section
/-! DEFINITION. The dispatch of a command to its meaning: one arm per constructor, in the table's order. -/

namespace Sys2Proof.Machine

open Sys2Proof

def exec (i : Instr) (s : State) : Host.Outcome State Fault Refusal :=
  match i with
  | .powerLoss => Sys2Proof.Machine.execPowerLoss s
  | .coldReset check straps => Sys2Proof.Machine.execColdReset check straps s
  | .storeScan => Sys2Proof.Machine.execStoreScan s
  | .resetAsserted => Sys2Proof.Machine.execResetAsserted s
  | .warmReset straps => Sys2Proof.Machine.execWarmReset straps s
  | .holdLineChange high => Sys2Proof.Machine.execHoldLineChange high s
  | .frameSent => Sys2Proof.Machine.execFrameSent s
  | .byteGapTimeout bytes => Sys2Proof.Machine.execByteGapTimeout bytes s
  | .frameAbandoned bytes => Sys2Proof.Machine.execFrameAbandoned bytes s
  | .frameDiscarded => Sys2Proof.Machine.execFrameDiscarded s
  | .unknownKind h kind => Sys2Proof.Machine.execUnknownKind h kind s
  | .ping h => Sys2Proof.Machine.execPing h s
  | .status h => Sys2Proof.Machine.execStatus h s
  | .restart h => Sys2Proof.Machine.execRestart h s
  | .linkQuery h => Sys2Proof.Machine.execLinkQuery h s
  | .cardLoad h r => Sys2Proof.Machine.execCardLoad h r s
  | .cardUnknown h card => Sys2Proof.Machine.execCardUnknown h card s
  | .cardRevoke h card => Sys2Proof.Machine.execCardRevoke h card s
  | .cardResident h card value => Sys2Proof.Machine.execCardResident h card value s
  | .cardQuery h form key => Sys2Proof.Machine.execCardQuery h form key s
  | .flush h => Sys2Proof.Machine.execFlush h s
  | .wayDisable h way => Sys2Proof.Machine.execWayDisable h way s
  | .wayRestore h way => Sys2Proof.Machine.execWayRestore h way s
  | .wayQuery h => Sys2Proof.Machine.execWayQuery h s
  | .fetchWaitSet h ms => Sys2Proof.Machine.execFetchWaitSet h ms s
  | .fetchExpiry fetch => Sys2Proof.Machine.execFetchExpiry fetch s
  | .secondCount => Sys2Proof.Machine.execSecondCount s
  | .dayRollover => Sys2Proof.Machine.execDayRollover s
  | .dayWriteRetry => Sys2Proof.Machine.execDayWriteRetry s
  | .timeSet h time => Sys2Proof.Machine.execTimeSet h time s
  | .rolloverSet h offset => Sys2Proof.Machine.execRolloverSet h offset s
  | .clockQuery h => Sys2Proof.Machine.execClockQuery h s
  | .present h portal card gen => Sys2Proof.Machine.execPresent h portal card gen s
  | .portalSet h c => Sys2Proof.Machine.execPortalSet h c s
  | .portalDisable h portal => Sys2Proof.Machine.execPortalDisable h portal s
  | .portalEnable h portal => Sys2Proof.Machine.execPortalEnable h portal s
  | .portalQuery h portal => Sys2Proof.Machine.execPortalQuery h portal s
  | .portalScan h => Sys2Proof.Machine.execPortalScan h s
  | .contact h portal position => Sys2Proof.Machine.execContact h portal position s
  | .strikeAck h portal => Sys2Proof.Machine.execStrikeAck h portal s
  | .remoteRelease h portal => Sys2Proof.Machine.execRemoteRelease h portal s
  | .timingStage h set release heldOpen strike applyNow => Sys2Proof.Machine.execTimingStage h set release heldOpen strike applyNow s
  | .timingQuery h set => Sys2Proof.Machine.execTimingQuery h set s
  | .releaseTimerExpiry portal => Sys2Proof.Machine.execReleaseTimerExpiry portal s
  | .strikeConfirmExpiry portal => Sys2Proof.Machine.execStrikeConfirmExpiry portal s
  | .heldOpenExpiry portal => Sys2Proof.Machine.execHeldOpenExpiry portal s
  | .capacitySet h limit level hysteresis => Sys2Proof.Machine.execCapacitySet h limit level hysteresis s
  | .guardSet h seconds => Sys2Proof.Machine.execGuardSet h seconds s
  | .capacityAck h => Sys2Proof.Machine.execCapacityAck h s
  | .deadlineSet h deadline => Sys2Proof.Machine.execDeadlineSet h deadline s
  | .deadlineEvent => Sys2Proof.Machine.execDeadlineEvent s
  | .enrol h person kind state => Sys2Proof.Machine.execEnrol h person kind state s
  | .discharge h person => Sys2Proof.Machine.execDischarge h person s
  | .presenceSet h person state => Sys2Proof.Machine.execPresenceSet h person state s
  | .presenceCounts h => Sys2Proof.Machine.execPresenceCounts h s
  | .personQuery h person => Sys2Proof.Machine.execPersonQuery h person s
  | .rollRead h start state kind => Sys2Proof.Machine.execRollRead h start state kind s
  | .alarmLineChange line high => Sys2Proof.Machine.execAlarmLineChange line high s
  | .debounceExpiry line => Sys2Proof.Machine.execDebounceExpiry line s
  | .alarmSet h enableA enableB debounce startsMuster => Sys2Proof.Machine.execAlarmSet h enableA enableB debounce startsMuster s
  | .emergencyDeclare h value => Sys2Proof.Machine.execEmergencyDeclare h value s
  | .emergencyClear h => Sys2Proof.Machine.execEmergencyClear h s
  | .resume h scope portal => Sys2Proof.Machine.execResume h scope portal s
  | .musterStart h => Sys2Proof.Machine.execMusterStart h s
  | .musterEnd h => Sys2Proof.Machine.execMusterEnd h s
  | .musterWriteRetry => Sys2Proof.Machine.execMusterWriteRetry s
  | .musterQuery h => Sys2Proof.Machine.execMusterQuery h s
  | .musterRead h start => Sys2Proof.Machine.execMusterRead h start s
  | .emergencyQuery h => Sys2Proof.Machine.execEmergencyQuery h s
  | .authorize h portal card gen a => Sys2Proof.Machine.execAuthorize h portal card gen a s
  | .commit h hold subtotal alcohol => Sys2Proof.Machine.execCommit h hold subtotal alcohol s
  | .voidHold h hold => Sys2Proof.Machine.execVoidHold h hold s
  | .holdExpiry slot => Sys2Proof.Machine.execHoldExpiry slot s
  | .holdTimeSet h seconds => Sys2Proof.Machine.execHoldTimeSet h seconds s
  | .holdQuery h slot => Sys2Proof.Machine.execHoldQuery h slot s
  | .holdScan h => Sys2Proof.Machine.execHoldScan h s
  | .folioLoad h folio limit balance state => Sys2Proof.Machine.execFolioLoad h folio limit balance state s
  | .folioPost h folio balance => Sys2Proof.Machine.execFolioPost h folio balance s
  | .folioFreeze h folio => Sys2Proof.Machine.execFolioFreeze h folio s
  | .folioOpen h folio => Sys2Proof.Machine.execFolioOpen h folio s
  | .folioClose h folio => Sys2Proof.Machine.execFolioClose h folio s
  | .folioQuery h folio => Sys2Proof.Machine.execFolioQuery h folio s
  | .tariffStage h t applyNow => Sys2Proof.Machine.execTariffStage h t applyNow s
  | .tariffDiscard h => Sys2Proof.Machine.execTariffDiscard h s
  | .tariffQuery h which => Sys2Proof.Machine.execTariffQuery h which s
  | .journalRead h start count => Sys2Proof.Machine.execJournalRead h start count s
  | .settle h sequence => Sys2Proof.Machine.execSettle h sequence s
  | .storeQuery h => Sys2Proof.Machine.execStoreQuery h s
  | .storeWriteBegin => Sys2Proof.Machine.execStoreWriteBegin s
  | .storeAttemptEnd readBackMatches => Sys2Proof.Machine.execStoreAttemptEnd readBackMatches s
  | .severitySet h kind severity => Sys2Proof.Machine.execSeveritySet h kind severity s
  | .faultRead h => Sys2Proof.Machine.execFaultRead h s
  | .faultClear h => Sys2Proof.Machine.execFaultClear h s

end Sys2Proof.Machine
end

