-- ==== Sys2Proof/Machine/Step.lean ====
section
/-! DEFINITION. One step of the block: the command at the front of the queue, or a millisecond with none. -/

namespace Sys2Proof.Machine

open Sys2Proof

/-- A millisecond of elapsed crystal time passes, while the supply is up. DESIGN CHOICE (log 2), safe. -/
def tick (s : State) : State := if s.supply then s.withNow (s.now + 1) else s

/-- The rest of the queue. -/
def State.withPending (s : State) (q : List Instr) : State := { s with pending := q }

/-- The command at the front of the queue is taken with the rest of the queue; with none, a millisecond passes. -/
def step (s : State) : Host.Outcome State Fault Refusal :=
  match s.pending with
  | [] => .next (tick s)
  | c :: rest => exec c (s.withPending rest)

/-- The command a table word spells, put at the front of the queue; the table gives no row any bits (log 34). -/
def State.withFetchWord (s : State) (nbits w : Nat) : State :=
  match decodeTableWord nbits w with
  | some c => s.withPending (c :: s.pending)
  | none => s

end Sys2Proof.Machine
end

