-- ==== Sys2Proof/Safety.lean ====
section
/-! DEFINITION. What a safe run is: the bounds, the canonical form and the counts that every step keeps; and the words
the statements use for a request that reaches its owner, for frames that join the transmit queue, and for the records
a card or a fetch is found by. -/

namespace Sys2Proof.Machine

open Sys2Proof

/-! ## Invariants -/

/-- Every sparse table of the block stands in its canonical form (log 27). -/
structure State.Canonical (s : State) : Prop where
  entries : Table.wf none s.cards.entries
  pointers : Table.wf 0 s.cards.pointers
  ways : Table.wf defaultWay s.cards.ways
  fetches : Table.wf none s.cards.fetches
  portals : Table.wf defaultPortal s.ptu.portals
  timings : Table.wf defaultTiming s.ptu.timings
  slots : Table.wf defaultSlot s.roll.slots
  before : Table.wf none s.roll.before
  stations : Table.wf 0 s.emu.stations
  folios : Table.wf defaultFolio s.purse.folios
  holds : Table.wf defaultHoldSlot s.purse.holds
  imageEntries : Table.wf none s.image.entries
  imageSlots : Table.wf defaultSlotRecord s.image.slots

/-- The tags in use (R200 step 2). -/
def Link.tags (l : Link) : List Nat := (l.outstanding ++ l.busy).map (·.tag)

/-- The bounds of the link: at most 16 outstanding requests, 8 BUSY answers and 48 notices; the tags in use are 1 or
above and each is used once; the transmitter runs only with a frame to send (R200, R202, R203). -/
structure State.LinkBounded (s : State) : Prop where
  outstanding : s.link.outstanding.length ≤ 16
  busy : s.link.busy.length ≤ 8
  notices : noticesWaiting s.link.tx ≤ 48
  tags : s.link.tags.Nodup
  tagged : 0 ∉ s.link.tags
  sending : s.link.sending = true → s.link.tx ≠ []

/-- The store's queue holds at most 8 requests, the one being written among them (R178). -/
structure State.StoreBounded (s : State) : Prop where
  queue : s.store.queue.length ≤ 8
  writing : s.store.write.isSome = true → s.store.queue ≠ []

/-- The recorder holds one row for each of the sixteen kinds, each count at most 255, and its capture is no IGNORE
(R188, R189, R191). -/
structure State.RecorderSound (s : State) : Prop where
  rows : s.frc.rows.length = 16
  counts : ∀ row ∈ s.frc.rows, row.count ≤ 255
  capture : ∀ c ∈ s.frc.capture, c.severity ≠ .ignore

/-- How many listed person slots meet a condition. -/
def Roll.tally (r : Roll) (f : PersonSlot → Bool) : Nat := (r.slots.filter fun p => f p.2).length

/-- Each presence counter equals the number of person slots in that state and of that kind (R71). -/
structure State.RollCounted (s : State) : Prop where
  canonical : Table.wf defaultSlot s.roll.slots
  aboardGuests : s.roll.aboardGuests = s.roll.tally fun p => p.state = .aboard && p.kind = .guest
  aboardCrew : s.roll.aboardCrew = s.roll.tally fun p => p.state = .aboard && p.kind = .crew
  ashoreGuests : s.roll.ashoreGuests = s.roll.tally fun p => p.state = .ashore && p.kind = .guest
  ashoreCrew : s.roll.ashoreCrew = s.roll.tally fun p => p.state = .ashore && p.kind = .crew

/-- Each station counter equals the number of slots marked at that station, and the mustered count the number of marked
slots (R107). -/
structure State.MusterCounted (s : State) : Prop where
  canonical : Table.wf defaultSlot s.roll.slots
  counters : Table.wf 0 s.emu.stations
  stations : ∀ k, s.station k = s.roll.tally fun p => p.mark = some k
  mustered : s.emu.mustered = s.roll.tally fun p => p.mark.isSome

/-- Every slot with a mark is ABOARD, and so is every before image (R107). -/
structure State.MarkedAboard (s : State) : Prop where
  slots : ∀ n, (s.person n).mark.isSome = true → (s.person n).state = .aboard
  before : ∀ n p, s.beforeImage n = some p → p.mark.isSome = true → p.state = .aboard

/-- A portal's state is one its class may take; its timers run, and a strike confirmation is awaited, only in the states
that have them (R42, R43, R54, R57). -/
structure Portal.Sound (p : Portal) : Prop where
  unconfigured : p.cls = none → p.state = .outOfService ∧ p.disabled = false
  plain : p.cls ≠ none → p.isDoor = false → p.state = if p.disabled then .outOfService else .secure
  disabled : p.isDoor = true → p.disabled = true → p.state = .outOfService ∨ p.state = .emergency
  served : p.isDoor = true → p.disabled = false → p.state ≠ .outOfService
  release : p.releaseTimer.isSome = true → p.state = .released
  heldOpen : p.heldOpenTimer.isSome = true → p.state = .opened
  strike : p.strikeTimer.isSome = p.strikePending
  awaited : p.strikePending = true → p.state = .released

/-- Every portal is sound; the condition is that of its sources (R99); and while it is true every door whose preset is not
NORMAL is in EMERGENCY (R105). -/
structure State.PortalsSound (s : State) : Prop where
  portals : ∀ n, (s.portal n).Sound
  condition : s.emu.condition = conditionNow s.emu
  held : s.emu.condition = true → ∀ n, (s.portal n).isDoor = true → (s.portal n).preset ≠ .normal →
    (s.portal n).state = .emergency

/-! ## Cards, fetches, holds and money -/

/-- A set holds one valid entry of a card at most and three residents at most, and a card has one pending fetch at most
(R1, R15, R22). -/
structure State.TableBounded (s : State) : Prop where
  one : ∀ set, ∀ v < 4, ∀ w < 4, ∀ x y, s.entry set v = some x → s.entry set w = some y → x.card = y.card → v = w
  residents : ∀ set, ((List.range 4).filter fun w => (s.entry set w).any (·.resident)).length ≤ 3
  fetches : ∀ m < 16, ∀ n < 16, ∀ f g, s.fetch m = some f → s.fetch n = some g → f.card = g.card → m = n

/-- No entry fails its check, each stands in its card's set, and a card's hold count is the number of its open holds, at most 2
and not 0 in a disabled way; every open hold's card has its entry; and a fetch is waited for by its own card (R3, R4, R10,
R21, R22). -/
structure State.HoldsCounted (s : State) : Prop where
  sound : ∀ set, ∀ w < 4, ∀ e, s.entry set w = some e → e.suspect = true ∨ e.codeDiff = 0
  placed : ∀ set, ∀ w < 4, ∀ e, s.entry set w = some e → setIndex e.card = set
  counts : ∀ set, ∀ w < 4, ∀ e, s.entry set w = some e → e.holdCount = (holdsOfCard s e.card).length ∧ e.holdCount ≤ 2
  serving : ∀ set, ∀ w < 4, ∀ e, s.entry set w = some e → (s.way w).enabled = true ∨ 0 < e.holdCount
  covered : ∀ x ∈ openHolds s, ∃ w < 4, ∃ e, s.entry (setIndex x.2.card) w = some e ∧ e.card = x.2.card
  waiting : ∀ n < 16, ∀ f, s.fetch n = some f → ∀ p ∈ f.waiting, p.card = f.card

/-- The held totals of the open holds that name a folio. -/
def heldSum (s : State) (n : Nat) : Nat := (((openHolds s).filter (·.2.folio = n)).map (·.2.total)).sum

/-- The slot of an append, if the request is one. -/
def StoreReq.appendSlot : StoreReq → Option Nat
  | .entry n _ _ => some n
  | .slot _ _ _ _ | .settle _ _ | .muster | .day => none

/-- A loaded folio's exposure is the held totals of its open holds with the totals of its journal entries, and no amount is held
against a folio that is not loaded (R141). Each append in flight is that of one COMMITTING hold, under the same folio and
total (R152, R165, R167), and no write is under way where none is queued (R178). -/
structure State.MoneyKept (s : State) : Prop where
  exposure : ∀ n, (s.folio n).state ≠ .closed → (s.folio n).exposure = heldSum s n + journalSum s n
  unloaded : ∀ n, (s.folio n).state = .closed → heldSum s n = 0
  starting : s.starting = true → ∀ n, (s.folio n).state = .closed
  appends : ∀ r ∈ s.store.queue, ∀ slot a awaits, r = .entry slot a awaits →
    ∃ h c, (s.holdSlot slot).body = .committing h c ∧ a.folio = h.folio ∧ a.total = c.total
  single : (s.store.queue.filterMap StoreReq.appendSlot).Nodup
  idle : s.store.queue = [] → s.store.write = none
  written : ∀ slot a awaits rest place e next second, s.store.queue = .entry slot a awaits :: rest →
    s.store.write = some ⟨.entry place e next, second⟩ → e.folio = a.folio ∧ e.total = a.total

/-- The open holds and the journal entries are 512 at most (R167). -/
def State.RoomForAppends (s : State) : Prop := (openHolds s).length + s.journal.entries.length ≤ 512

/-! ## Checks made in order -/

/-- `x` is what the first of a list of checks that turns a request away answers. -/
def FirstOf {α : Type} : List (Prop × α) → α → Prop
  | [], _ => False
  | (c, y) :: rest, x => (c ∧ x = y) ∨ (¬ c ∧ FirstOf rest x)

/-- None of them turns it away. -/
def NoneOf {α : Type} (checks : List (Prop × α)) : Prop := ∀ p ∈ checks, ¬ p.1

/-! ## Frames joining the transmit queue (R202, R203, R205) -/

/-- Frames have joined the tail of the transmit queue: the transmitter runs then, unless HOLD# or RESET# is low. -/
def State.transmits (s : State) (fs : List Frame) : State :=
  s.withLink { s.link with
    tx := s.link.tx ++ fs, sending := s.link.sending || (s.pins.holdHigh && s.pins.resetHigh) }

/-- `k` notices find free slots among the 48. -/
def State.NoticeRoom (s : State) (k : Nat) : Prop := noticesWaiting s.link.tx + k ≤ 48

/-! ## A request that reaches its owner (R200) -/

/-- The part receives: the supply is up and RESET# is high. The tag is neither 0 nor in use, and fewer than sixteen
requests are outstanding: steps 1 to 3 of R200 let the request through. -/
structure State.Enlists (s : State) (h : Hdr) : Prop where
  supply : s.supply = true
  running : s.pins.resetHigh = true
  tag : h.tag ≠ 0
  fresh : h.tag ∉ s.link.tags
  room : s.link.outstanding.length < 16

/-- The steps 1 to 7 of R200 let the request through to the block that owns it. -/
structure State.Accepts (s : State) (h : Hdr) (need : Nat) : Prop where
  enlists : s.Enlists h
  length : h.len = need
  ready : s.starting = false

/-- The request is on the outstanding list, its frame done with. -/
def State.taken (s : State) (kind : Nat) (h : Hdr) : State :=
  s.withLink { s.link with rx := .hunting, outstanding := s.link.outstanding ++ [⟨kind, h.tag⟩] }

/-- The reply of a result and its fields joins the transmit queue. -/
def State.replied (s : State) (kind : Nat) (h : Hdr) (r : Result) (fs : List Fld) : State :=
  s.transmits [.reply ⟨kind, h.tag⟩ (.plain r fs) 0]

/-- The request is taken and answered, and nothing else changes. -/
def State.replies (s : State) (kind : Nat) (h : Hdr) (r : Result) (fs : List Fld) : State :=
  (s.taken kind h).replied kind h r fs

/-- The decision reply to a presentation. -/
def Presentation.frame (p : Presentation) (d : Decision) : Frame := .reply p.id (.decision d) 0

/-! ## A slot change that waits for its write (R72, R79, R88) -/

/-- `t` is `s` with person `n`'s slot changed to `new` in the working copy: the before image kept, a departure counted,
the warning evaluated, and the slot write queued for the request `id`, which has no reply yet. Nothing else of the roll,
and no other block but the link's notices and the write itself, has changed. -/
structure SlotChanged (s t : State) (n : Nat) (new : PersonSlot) (cause : SlotCause) (id : ReqId) : Prop where
  slot : t.person n = new
  others : ∀ m, m ≠ n → t.person m = s.person m
  before : t.beforeImage n = some (s.person n)
  othersBefore : ∀ m, m ≠ n → t.beforeImage m = s.beforeImage m
  departures : t.roll.departures =
    s.roll.departures + if (s.person n).state = .aboard ∧ new.state ≠ .aboard then 1 else 0
  standing : t.roll.standing =
    if aboardTotal t.roll = aboardTotal s.roll then s.roll.standing
    else if s.roll.standing then !(aboardTotal t.roll < s.roll.level && aboardTotal t.roll ≤ s.roll.level - s.roll.hysteresis)
    else s.roll.level ≤ aboardTotal t.roll
  settings : (t.roll.limit, t.roll.level, t.roll.hysteresis, t.roll.guard, t.roll.deadline, t.roll.passed) =
    (s.roll.limit, s.roll.level, s.roll.hysteresis, s.roll.guard, s.roll.deadline, s.roll.passed)
  queue : t.store.queue = s.store.queue ++ [.slot n ⟨new, s.emu.record.number⟩ cause (some id)]
  waits : t.link.outstanding = s.link.outstanding ++ [id]
  silent : ∃ ns : List Notice, t.link.tx = s.link.tx ++ ns.map Frame.notice
  emergency : { t.emu with stations := [], mustered := 0 } = { s.emu with stations := [], mustered := 0 }
  image : { t.image with marker := none } = { s.image with marker := none }
  rest : (t.now, t.pins, t.clock, t.ptu, t.purse, t.journal) = (s.now, s.pins, s.clock, s.ptu, s.purse, s.journal)

/-! ## The emergency condition (R99 to R104, R109) -/

/-- A portal with its timers stopped, placed in service or out of it (R43). -/
def Portal.inService (p : Portal) : Portal :=
  { p with
    state := if p.disabled then .outOfService else .secure
    releaseTimer := none, heldOpenTimer := none, strikeTimer := none, strikePending := false }

/-- What a door's entry into EMERGENCY tells: the cleared alarm of the state it leaves, then the drive of its preset (R55, R102). -/
def entryNotices (n : Nat) (p : Portal) (time : Nat) : List Notice :=
  (match p.state with
    | .forced => [.doorAlarm n .forcedCleared .emergency time]
    | .heldOpen => [.doorAlarm n .heldCleared .emergency time]
    | _ => []) ++ [.portalDrive n (if p.preset = .release then .holdReleased else .relock)]

/-- What the doors that a condition takes into EMERGENCY tell, in ascending portal number (R103). -/
def entering (s : State) : List Notice :=
  (s.ptu.portals.filter fun x => x.2.isDoor && x.2.preset != .normal && x.2.state != .emergency).flatMap
    fun x => entryNotices x.1 x.2 s.clock.shipTime

/-- `t` is `s`, in which a source has just come to hold, with the condition and the latch set: every door whose preset is not
NORMAL is in EMERGENCY, a muster is started if alarms start one and none is active, and EMERGENCY-STATE leads the notices, ahead of
those of the doors and of the muster's MUSTER-STATE; a record write that begins at once may put a STORE-FAULT of the marker before
the last. The frames `fs` follow them. -/
structure ConditionRose (s t : State) (fs : List Frame) : Prop where
  condition : t.emu.condition = true ∧ t.emu.latch = true
  settings : (t.emu.lineA, t.emu.lineB, t.emu.debounce, t.emu.startsMuster, t.emu.declared) =
    (s.emu.lineA, s.emu.lineB, s.emu.debounce, s.emu.startsMuster, s.emu.declared)
  doors : ∀ n, let p := s.portal n
    t.portal n = if p.isDoor = true ∧ p.preset ≠ .normal ∧ p.state ≠ .emergency then { p with
      state := .emergency, releaseTimer := none, heldOpenTimer := none, strikeTimer := none, strikePending := false,
      captured := if p.state = .secure then s.timing p.timingSet else p.captured } else p
  muster : s.emu.startsMuster = true ∧ s.emu.record.active = false →
    t.emu.record = ⟨true, if s.emu.record.number < 4294967295 then s.emu.record.number + 1 else 1, s.clock.shipTime⟩ ∧
    t.emu.cause = some .alarm ∧ t.emu.mustered = 0 ∧ (∀ k, t.station k = 0) ∧ (∀ m, t.person m = { s.person m with mark := none }) ∧
    (∀ m, t.beforeImage m = (s.beforeImage m).map fun p => { p with mark := none }) ∧ t.emu.outstanding = true ∧
    t.store.queue = if .muster ∈ s.store.queue ∨ 8 ≤ s.store.queue.length then s.store.queue else s.store.queue ++ [.muster]
  noMuster : ¬ (s.emu.startsMuster = true ∧ s.emu.record.active = false) →
    (t.roll, t.store, t.image, t.emu.record, t.emu.cause) = (s.roll, s.store, s.image, s.emu.record, s.emu.cause)
  told : s.NoticeRoom 1 → ∃ ns : List Notice, t.link.tx = s.link.tx ++ [.notice (.emergencyState true true s.emu.lineA.source
    s.emu.lineB.source s.emu.declared s.clock.shipTime)] ++ ns.map Frame.notice ++ fs
  notices : s.NoticeRoom ((entering s).length + 3) →
    let musters : Prop := s.emu.startsMuster = true ∧ s.emu.record.active = false
    ∃ faults rest : List Notice, t.link.tx = s.link.tx ++ (Notice.emergencyState true true s.emu.lineA.source s.emu.lineB.source
        s.emu.declared s.clock.shipTime :: entering s ++ faults ++ rest).map Frame.notice ++ fs ∧
      (musters → rest = [.musterState t.emu.record (some .alarm) 0]) ∧ (¬ musters → rest = []) ∧
      (¬ musters ∨ s.store.queue ≠ [] → faults = []) ∧ faults.length ≤ 1 ∧
      ∀ x ∈ faults, ∃ time count replaced, x = .fault .storeFault .alert time {} count replaced
  silent : ∃ ns : List Notice, t.link.tx = s.link.tx ++ ns.map Frame.notice ++ fs
  rest : (t.now, t.pins, t.clock, t.cards, t.ptu.timings, t.purse, t.journal) =
    (s.now, s.pins, s.clock, s.cards, s.ptu.timings, s.purse, s.journal)

/-- The RELOCK of each door in EMERGENCY that leaves it and held its lock released, in ascending portal number; `leaves` says which
of them leave (R104, R105). -/
def relocks (leaves : Portal → Bool) (s : State) : List Notice :=
  (s.ptu.portals.filter fun x => x.2.isDoor && x.2.state = .emergency && leaves x.2 && x.2.preset = .release).map
    fun x => .portalDrive x.1 .relock

/-- `t` is `s`, in which the last source has just ceased to hold, with the condition cleared and the latch kept: every door in
EMERGENCY with auto-resume is placed, with RELOCK for a RELEASE preset in ascending portal number after EMERGENCY-STATE. The
frames `fs` follow the notices. -/
structure ConditionFell (s t : State) (fs : List Frame) : Prop where
  emergency : t.emu = { s.emu with condition := false }
  doors : ∀ n, let p := s.portal n
    t.portal n = if p.isDoor = true ∧ p.state = .emergency ∧ p.autoResume = true then p.inService else p
  told : s.NoticeRoom (1 + (relocks (·.autoResume) s).length) → t.link.tx = s.link.tx ++ (.emergencyState false s.emu.latch
    s.emu.lineA.source s.emu.lineB.source s.emu.declared s.clock.shipTime :: relocks (·.autoResume) s).map Frame.notice ++ fs
  silent : ∃ ns : List Notice, t.link.tx = s.link.tx ++ ns.map Frame.notice ++ fs
  rest : (t.now, t.pins, t.clock, t.cards, t.ptu.timings, t.roll, t.purse, t.journal, t.store, t.image) =
    (s.now, s.pins, s.clock, s.cards, s.ptu.timings, s.roll, s.purse, s.journal, s.store, s.image)

/-! ## The warm reset (R28, R69, R133, R161, R186, R197, R205) -/

/-- The HELD holds of the 32 slots. -/
def heldNow (s : State) : List Hold := (List.range 32).filterMap fun n => match (s.holdSlot n).body with
  | .held h _ => some h
  | .free | .committing _ _ => none

/-- An entry after the release of the HELD holds that name its card: its hold count falls by their number and its counters by
those of the current day; at 0 a suspect entry, and one in a disabled way, leaves the table (R10, R28, R156). -/
def CardEntry.released (e : CardEntry) (s : State) (w : Nat) : Option CardEntry :=
  let hs := (heldNow s).filter (·.card = e.card)
  let today := hs.filter (·.day = s.clock.day)
  if hs = [] then some e
  else if e.holdCount ≤ hs.length ∧ (e.suspect = true ∨ (s.way w).enabled = false) then none
  else some { e with
    holdCount := e.holdCount - hs.length, dayStamp := s.clock.day
    daySpend := (if e.dayStamp = s.clock.day then e.daySpend else 0) - (today.map (·.total)).sum
    dayAlcohol := (if e.dayStamp = s.clock.day then e.dayAlcohol else 0) - (today.map (·.alcohol)).sum
    codeDiff := 0 }

/-- `t` is `s` after a warm reset: the link cleared and led by RESTARTED, no fetch, every portal placed with its contact
unknown, every HELD hold released and every COMMITTING one orphaned, the store's queue kept with no request awaiting it, and
all else that outlives the reset as it was: the portals' configuration and captured timing, the timing sets, the card entries but
for what the released holds take from them, the ways, the pointers and the fetch wait, the folios but for the exposure given
back, the tariff, the hold time and the recorder. What the released holds touch is said of a table with no entry that fails its
check and one entry a card, its counters in their ranges. -/
structure WarmReset (s t : State) (source : ResetSource) (straps : Straps) : Prop where
  running : t.supply = true ∧ t.starting = false ∧ t.pins = { s.pins with resetHigh := true, straps := straps }
  emptied : t.link.rx = .hunting ∧ t.link.outstanding = [] ∧ t.link.busy = []
  counts : t.link.busySent = 0 ∧ t.link.discarded = 0 ∧ t.link.framesSent = 0 ∧ t.link.straps = straps
  told : ∃ ns : List Notice, t.link.tx = .notice (.restarted source s.check) :: ns.map Frame.notice
  fetches : ∀ n, t.fetch n = none
  contacts : ∀ n, (t.portal n).contact = .unknown ∧ (t.portal n).cls = (s.portal n).cls ∧
    (t.portal n).disabled = (s.portal n).disabled
  placed : ∀ n, (s.portal n).cls ≠ none →
    (t.portal n).state = (if (s.portal n).isDoor = true ∧ (s.portal n).preset ≠ .normal ∧ s.emu.condition = true then .emergency
      else if (s.portal n).disabled = true then .outOfService else .secure) ∧
    (t.portal n).releaseTimer = none ∧ (t.portal n).heldOpenTimer = none ∧ (t.portal n).strikeTimer = none ∧
    (t.portal n).strikePending = false
  holds : ∀ n < 32, t.holdSlot n = match (s.holdSlot n).body with
    | .free => s.holdSlot n
    | .held _ _ => { s.holdSlot n with body := .free, lastEnd := .released }
    | .committing x c => { s.holdSlot n with body := .committing x { c with orphaned := true } }
  store : t.store = { s.store with queue := s.store.queue.map StoreReq.unawaited }
  portals : ∀ n, let mask (p : Portal) : Portal := { p with
      state := .secure, contact := .unknown, captured := defaultTiming, releaseTimer := none, heldOpenTimer := none,
      strikeTimer := none, strikePending := false }
    mask (t.portal n) = mask (s.portal n) ∧
    ((s.portal n).state ≠ .secure ∨ (t.portal n).state = .secure → (t.portal n).captured = (s.portal n).captured)
  timings : t.ptu.timings = s.ptu.timings
  settings : (t.cards.pointers, t.cards.fetchWait, t.purse.holdTime, t.purse.active, t.purse.staged) =
    (s.cards.pointers, s.cards.fetchWait, s.purse.holdTime, s.purse.active, s.purse.staged)
  folios : ∀ n, t.folio n = { s.folio n with
    exposure := (s.folio n).exposure - (((heldNow s).filter (·.folio = n)).map (·.total)).sum }
  entries : (∀ set, ∀ w < 4, ∀ e, s.entry set w = some e → (e.suspect = true ∨ e.codeDiff = 0) ∧ setIndex e.card = set ∧
      e.daySpend ≤ 16777215 ∧ e.dayAlcohol ≤ 255) → s.TableBounded →
    (∀ set, ∀ w < 4, t.entry set w = (s.entry set w).bind fun e => e.released s w) ∧ t.cards.ways = s.cards.ways ∧ t.frc = s.frc
  kept : (t.clock, t.roll, t.emu, t.journal, t.image) = (s.clock, s.roll, { s.emu with waiters := [] }, s.journal, s.image)

/-! ## Cards and fetches (R1, R4, R22) -/

/-- The read of an entry passes its check (R3). -/
def CardEntry.Sound (e : CardEntry) : Prop := e.suspect = true ∨ e.codeDiff = 0

/-- The entry of card `c` is found at way `w` of its set, and no other valid entry of the set is the card's (R1, R4). -/
structure State.Holds (s : State) (c w : Nat) (e : CardEntry) : Prop where
  way : w < 4
  entry : s.entry (setIndex c) w = some e
  card : e.card = c
  found : (s.way w).enabled = true ∨ 0 < e.holdCount
  only : ∀ v < 4, v ≠ w → ∀ x, s.entry (setIndex c) v = some x → x.card ≠ c

/-- The read of card number `card` at generation `gen` hits the entry at way `w` of its set (R4, R7). -/
structure State.Hits (s : State) (card gen w : Nat) (e : CardEntry) : Prop where
  number : card ≠ 0
  generation : gen ≤ 15
  found : s.Holds card w e
  suspect : e.suspect = false
  code : e.codeDiff = 0

/-- The table after the hit: the replacement pointer moves off the way it names (R13). -/
def State.afterHit (s : State) (card w : Nat) : State :=
  if s.pointer (setIndex card) = w then s.setPointer (setIndex card) ((w + 1) % 4) else s

/-- What a card grants at a door: its cabin, or its zone, which at a venue door of zone 0 every card has (R50). -/
def CardEntry.Grants (e : CardEntry) (cls : PortalClass) (p : Portal) : Prop :=
  (∃ g ∈ e.grants, match cls with
    | .cabin => g = .cabin p.cabin ∨ g = .allCabins
    | _ => g = .zone p.zone) ∨ (cls = .venueDoor ∧ p.zone = 0)

/-- Card `c` has no valid entry. -/
def State.Lacks (s : State) (c : Nat) : Prop := ∀ w < 4, ∀ e, s.entry (setIndex c) w = some e → e.card ≠ c

/-- A lookup of the card hands back no entry, so that the presentation needs a fetch, and leaves the state `u`: the card has no valid
entry, its entry is suspect, or the hit is stale and has moved the pointer (R4, R7, R8). -/
def State.Misses (s : State) (card gen : Nat) (u : State) : Prop :=
  (s.Lacks card ∧ u = s) ∨ (∃ w e, s.Holds card w e ∧ e.suspect = true ∧ u = s) ∨
  (∃ w e, s.Hits card gen w e ∧ e.gen < gen ∧ u = s.afterHit card w)

/-- `c` is a PRESENT or an AUTHORIZE of the card that passes its checks up to the lookup, and `p` its presentation (R48, R111,
R119, R120). -/
def State.Presents (s : State) (h : Hdr) (c : Instr) (p : Presentation) : Prop :=
  let door := s.portal p.portal
  p.tag = h.tag ∧ s.clock.isSet = true ∧ door.disabled = false ∧ p.gen ≤ 15 ∧ p.card ≠ 0 ∧
  ((s.Accepts h 6 ∧ c = .present h p.portal p.card p.gen ∧ ((door.isDoor = true ∧ p.job = .door) ∨
      (door.cls = some .gangway ∧ p.job = .gangway) ∨
      (door.cls = some .muster ∧ s.emu.record.active = true ∧ p.job = .muster))) ∨
    (∃ a, s.Accepts h 12 ∧ c = .authorize h p.portal p.card p.gen a ∧ door.cls = some .terminal ∧ s.emu.latch = false ∧
      p.job = .charge a))

/-- The checks of a card at a door after the hand-back, in order (R38, R49 to R51). -/
def doorChecks (s : State) (cls : PortalClass) (p : Portal) (e : CardEntry) : List (Prop × Result) := [
  (e.revoked = true, .revoked), (s.clock.shipTime < e.validFrom, .notYetValid), (e.validUntil < s.clock.shipTime, .expired),
  (¬ e.Grants cls p, .noGrant), ((s.person e.person).state ≠ .aboard ∧ p.strict = true, .notAboard)]

/-- The checks of a card at a gangway lane after the hand-back, in order (R38, R73 to R78, R83): each with the result, the
reply's direction code, and the state `hit` of the hit with the notice and the fault that the refusal brings. -/
def laneChecks (s hit : State) (lane card : Nat) (d : LaneDirection) (e : CardEntry) : List (Prop × Result × Nat × State) :=
  let n := e.person
  let q := s.person n
  let outbound : Prop := d = .outbound ∨ (d = .toggle ∧ q.state = .aboard)
  let inbound : Prop := d = .inbound ∨ (d = .toggle ∧ q.state = .ashore)
  let fields : FaultFields := { portal := some lane, card := some card, person := some n }
  let anomaly (way : Direction) : State :=
    report .laneAnomaly fields (notify (.laneAnomaly lane card n q.state way s.clock.shipTime) hit)
  [(e.revoked = true, .revoked, 0, hit), (s.clock.shipTime < e.validFrom, .notYetValid, 0, hit),
    (e.validUntil < s.clock.shipTime, .expired, 0, hit), (s.emu.record.active = true, .muster, 0, hit),
    (s.emu.latch = true, .emergency, 0, hit),
    (q.lastLane = some lane ∧ q.lastTime ≤ s.clock.shipTime ∧ s.clock.shipTime < q.lastTime + s.roll.guard, .repeated, 0, hit),
    (s.beforeImage n ≠ none, .storeBusy, 0, hit), (q.state = .unlisted, .notAboard, 0, hit),
    (outbound ∧ q.state = .ashore, .alreadyAshore, 2, anomaly .outbound), (outbound ∧ s.roll.passed = true, .sailing, 2, hit),
    (inbound ∧ q.state = .aboard, .alreadyAboard, 1, anomaly .inbound),
    (inbound ∧ s.roll.limit < s.roll.aboardGuests + s.roll.aboardCrew + s.roll.departures + 1, .capacity, 1,
      report .capacityRefused fields hit),
    (8 ≤ s.store.queue.length ∧ outbound, .storeBusy, 2, hit), (8 ≤ s.store.queue.length ∧ inbound, .storeBusy, 1, hit)]

/-- The checks of a card at a muster station after the hand-back, in order (R38, R111, R112). -/
def musterChecks (s : State) (e : CardEntry) : List (Prop × Result) :=
  let q := s.person e.person
  [(e.revoked = true, .revoked), (s.clock.shipTime < e.validFrom, .notYetValid), (e.validUntil < s.clock.shipTime, .expired),
    (q.state = .unlisted, .notAboard), (q.mark ≠ none, .repeated), (s.beforeImage e.person ≠ none, .storeBusy),
    (8 ≤ s.store.queue.length, .storeBusy)]

/-- A class's row of a tariff (R133). -/
def classRow (t : Tariff) : CardClass → ClassRates
  | .guest => t.guest
  | .youth => t.youth
  | .crew => t.crew
  | .officer => t.officer
  | .visitor => t.visitor

/-- The checks that ENROL, DISCHARGE and PRESENCE-SET share, around those of their own, in order (R83, R88). Each stands with the result
and the fields of the reply and the state it leaves, which is `u` but for the fault that CAPACITY brings. -/
def correctionChecks (s u : State) (kind : Nat) (h : Hdr) (n : Nat) (bad : Prop) (own : List (Prop × Result × List Fld × State))
    (comesAboard : Prop) : List (Prop × Result × List Fld × State) :=
  [(8191 < n ∨ bad, .badValue, [], u), (s.beforeImage n ≠ none, .storeBusy, [], u)] ++ own ++
  [(comesAboard ∧ s.roll.limit < s.roll.aboardGuests + s.roll.aboardCrew + s.roll.departures + 1, .capacity, [],
      report .capacityRefused { person := some n, req := some ⟨kind, h.tag⟩ } u),
    (8 ≤ s.store.queue.length, .storeBusy, [], u)]

/-- The checks of ENROL (R89). -/
def enrolChecks (s : State) (h : Hdr) (n kind state : Nat) (u : State) : List (Prop × Result × List Fld × State) :=
  correctionChecks s u Kind.enrol h n (1 < kind ∨ (state ≠ 1 ∧ state ≠ 2))
    [((s.person n).state ≠ .unlisted, .listed, [], u)] (state = 1)

/-- The checks of DISCHARGE (R90). -/
def dischargeChecks (s : State) (h : Hdr) (n : Nat) (u : State) : List (Prop × Result × List Fld × State) :=
  correctionChecks s u Kind.discharge h n False
    [((s.person n).state = .unlisted, .notListed, [], u), (∃ x ∈ openHolds s, x.2.person = n, .busy, [], u)] False

/-- The checks of PRESENCE-SET, with the DONE at once of a person who is in that state already (R91). -/
def presenceChecks (s : State) (h : Hdr) (n state : Nat) (u : State) : List (Prop × Result × List Fld × State) :=
  let p := s.person n
  correctionChecks s u Kind.presenceSet h n (state ≠ 1 ∧ state ≠ 2)
    [(p.state = .unlisted, .notListed, [], u),
      ((state = 1 ∧ p.state = .aboard) ∨ (state = 2 ∧ p.state = .ashore), .done,
        [.n2 n, .n1 state, .n1 (enumCode personKinds p.kind), .n2 (s.roll.aboardGuests + s.roll.aboardCrew)], u)] (state = 1)

/-- The checks of a charge after the hand-back, in order (R38, R120 to R126, R129 to R132, R149, R167): each with the reply and the
state `hit` of the hit, with the fault that JOURNAL-FULL brings. -/
def chargeChecks (s hit : State) (h : Hdr) (portal card : Nat) (a : ChargeAmounts) (e : CardEntry) :
    List (Prop × Decision × State) :=
  let f := s.folio e.folio
  let rates := classRow s.purse.active e.cls
  let c := chargeOf a.subtotal rates.discount (s.purse.active.gratuity.getD a.gratuityClass 0)
  let spend := if e.dayStamp = s.clock.day then e.daySpend else 0
  let alcohol := if e.dayStamp = s.clock.day then e.dayAlcohol else 0
  let tier := [rates.b1, rates.b2, rates.b3, rates.b4].countP (· ≤ spend + c.total)
  let room : Int := f.limit - f.balance - f.exposure
  let asked : ReqId := ⟨Kind.authorize, h.tag⟩
  let fields : FaultFields := { portal := some portal, card := some card, person := some e.person, req := some asked }
  let plain (r : Result) : Decision := { outcome := r, portal := portal, person := some e.person, folio := some e.folio }
  let sums (r : Result) : Decision := { plain r with amounts := true, net := c.net, gratuity := c.gratuity, total := c.total }
  [(e.revoked = true, plain .revoked, hit), (s.clock.shipTime < e.validFrom, plain .notYetValid, hit),
    (e.validUntil < s.clock.shipTime, plain .expired, hit), (e.chargeEnabled = false, plain .chargeDisabled, hit),
    ((s.person e.person).state ≠ .aboard, plain .notAboard, hit), (f.state = .closed, plain .folioClosed, hit),
    (f.state = .frozen, plain .folioFrozen, hit),
    (a.subtotal = 0 ∨ 999999 < a.subtotal ∨ 15 < a.alcohol ∨ 7 < a.gratuityClass, plain .badAmount, hit),
    (0 < a.alcohol ∧ e.drinkingAge = false, sums .age, hit), (rates.alcoholCap < alcohol + a.alcohol, sums .pacing, hit),
    (e.cap < spend + c.total, { sums .dailyCap with room := e.cap - spend }, hit),
    (room < c.total, { sums .limit with room := room.toNat }, hit),
    (tier = 2 ∧ a.pinVerified = false, { sums .verify with detail := 2, tier := 2 }, hit),
    (tier = 3 ∧ a.staffOverride = false, { sums .verify with detail := 3, tier := 3 }, hit),
    (tier = 4, { sums .ceiling with tier := 4 }, hit),
    (∀ n < 32, (s.holdSlot n).body ≠ .free, { sums .holdsFull with tier := tier }, hit),
    (2 ≤ e.holdCount, { sums .cardHolds with tier := tier }, hit),
    (512 ≤ (openHolds s).length + s.journal.entries.length, { sums .journalFull with tier := tier },
      report .journalFull fields hit)]

/-- Fetch `n` is the one pending fetch of card `c` (R22). -/
structure State.Fetches (s : State) (c n : Nat) (f : Fetch) : Prop where
  number : n < 16
  fetch : s.fetch n = some f
  card : f.card = c
  only : ∀ m < 16, ∀ g, s.fetch m = some g → g.card = c → m = n

/-- No fetch of card `c` is pending. -/
def State.NoFetch (s : State) (c : Nat) : Prop := ∀ m < 16, ∀ g, s.fetch m = some g → g.card ≠ c

/-- Every valid entry of the table passes its check (R3). -/
def State.TableSound (s : State) : Prop := ∀ set way e, way < 4 → s.entry set way = some e → e.Sound

/-- A grant's two bytes that make the record BAD-RECORD (R16, R209): a cabin not 1 to 9999, a zone not 1 to 63, or the
kind 3. -/
def BadGrant (g : Nat) : Prop :=
  (g < 16384 ∧ (g = 0 ∨ 9999 < g)) ∨ (16384 ≤ g ∧ g < 32768 ∧ (g = 16384 ∨ 16384 + 63 < g)) ∨ 49152 ≤ g

/-- A record that CARD-LOAD refuses (R16). -/
def BadRecord (r : CardRecord) : Prop :=
  r.card = 0 ∨ 15 < r.gen ∨ 8191 < r.person ∨ 4095 < r.folio ∨ 4 < r.cls ∨ 4 < r.grantCount ∨ ∃ g ∈ r.grants, BadGrant g

/-- A record that it takes, with the class and the grants it carries (R16, R209). -/
structure GoodRecord (r : CardRecord) (cls : CardClass) (grants : List Grant) : Prop where
  card : r.card ≠ 0
  gen : r.gen ≤ 15
  person : r.person ≤ 8191
  folio : r.folio ≤ 4095
  cls : cardClasses[r.cls]? = some cls
  count : r.grantCount ≤ 4
  grants : r.grants.mapM grantOf = some grants

/-- The entry a record gives when it is installed, its day counters those named (R18). -/
def recordEntry (r : CardRecord) (cls : CardClass) (grants : List Grant) (day spend alcohol : Nat) : CardEntry :=
  { card := r.card, gen := r.gen, person := r.person, folio := r.folio, cls := cls, drinkingAge := r.drinkingAge,
    chargeEnabled := r.chargeEnabled, cap := r.cap, grants := grants, validFrom := r.validFrom,
    validUntil := r.validUntil, revoked := r.revoked, resident := false, holdCount := 0, dayStamp := day,
    daySpend := spend, dayAlcohol := alcohol, suspect := false, codeDiff := 0 }

/-- `u` is `s` with a new entry installed at way `w` of its set: in the lowest enabled way with no valid entry, or else in the
first way of the walk whose entry may go, which leaves with its DAY-TALLY (R12 to R14, R18). -/
def State.Installs (s u : State) (fresh : CardEntry) (w : Nat) : Prop :=
  let set := setIndex fresh.card
  let free (v : Nat) : Prop := (s.way v).enabled = true ∧ s.entry set v = none
  let mayGo (v : Nat) : Prop := (s.way v).enabled = true ∧ ∃ e, s.entry set v = some e ∧ e.resident = false ∧ e.holdCount = 0
  let written (t : State) : State := (t.setEntry set w (some fresh)).setPointer set ((w + 1) % 4)
  (w < 4 ∧ free w ∧ (∀ v < w, ¬ free v) ∧ u = written s) ∨
  ((∀ v < 4, ¬ free v) ∧ s.pointer set < 4 ∧ ∃ k < 4, ∃ old, w = (s.pointer set + k) % 4 ∧ mayGo w ∧
    (∀ j < k, ¬ mayGo ((s.pointer set + j) % 4)) ∧ s.entry set w = some old ∧
    u = written (if old.dayStamp = s.clock.day ∧ (0 < old.daySpend ∨ 0 < old.dayAlcohol) then
      notify (.dayTally old.card old.dayStamp old.daySpend old.dayAlcohol) s else s))

/-- The entry's counters are for the day and not both zero: it leaves the table with a DAY-TALLY (R14). -/
def CardEntry.tallies (e : CardEntry) (day : Nat) : Bool := e.dayStamp = day && (0 < e.daySpend || 0 < e.dayAlcohol)

/-- Its DAY-TALLY (R14). -/
def CardEntry.tally (e : CardEntry) : Notice := .dayTally e.card e.dayStamp e.daySpend e.dayAlcohol

/-- The DAY-TALLY frames of the listed entries that leave the table (R14). -/
def tallyFrames (leaves : Nat → CardEntry → Bool) (s : State) : List Frame :=
  s.cards.entries.filterMap fun p => p.2.bind fun e =>
    if leaves p.1 e && e.tallies s.clock.day then some (.notice e.tally) else none

/-- The table without the listed entries that leave it. -/
def State.without (s : State) (leaves : Nat → CardEntry → Bool) : State :=
  s.withCards { s.cards with entries := s.cards.entries.filter fun p => !p.2.any (leaves p.1) }

end Sys2Proof.Machine
end

