-- ==== Sys2Proof/Certificates/Slice0/Obligations.lean ====
section
/-! DEFINITION. The statements for the provers. Each says what the block does, in the words of `Safety.lean`; what it
leaves out of the next state it gives is unchanged. Where a reply's fields are written out, their order and the codes of
their enumerations are the model's reading of R201 and R208 (log 13). -/

open Sys2Proof Sys2Proof.Machine

/-! ## The card table (chapter 1) -/

/-- R12, R13, R14, R16, R18. A valid record of a card with no entry and no fetch is installed: in the lowest enabled way with
no valid entry; otherwise in the first way of the walk whose entry may go, which leaves with its DAY-TALLY; and where
the walk finds none it is discarded. A record out of its ranges is BAD-RECORD and nothing changes. -/
def Obligations.CardLoadInstalls : Prop :=
  (∀ (s : State) (h : Hdr) (r : CardRecord) (cls : CardClass) (grants : List Grant),
    s.Accepts h (cardLoadLength r.grantCount) → GoodRecord r cls grants → s.NoFetch r.card → s.Lacks r.card →
    (∀ v < 4, ∀ e, s.entry (setIndex r.card) v = some e → e.Sound) → s.Canonical →
    let set := setIndex r.card
    let today : Bool := r.dayStamp = s.clock.day
    let fresh := recordEntry r cls grants s.clock.day (if today then r.daySpend else 0) (if today then r.dayAlcohol else 0)
    let mayGo (v : Nat) : Prop := (s.way v).enabled = true ∧ ∃ e, s.entry set v = some e ∧ e.resident = false ∧ e.holdCount = 0
    (∀ w < 4, (s.way w).enabled = true → s.entry set w = none →
      (∀ v < w, (s.way v).enabled = true → s.entry set v ≠ none) →
      exec (.cardLoad h r) s =
        .next (((s.setEntry set w (some fresh)).setPointer set ((w + 1) % 4)).replies Kind.cardLoad h .installed [])) ∧
    ((∀ v < 4, (s.way v).enabled = true → s.entry set v ≠ none) → s.pointer set < 4 → s.NoticeRoom 1 →
      (∀ k < 4, ∀ old, mayGo ((s.pointer set + k) % 4) → (∀ j < k, ¬ mayGo ((s.pointer set + j) % 4)) →
        s.entry set ((s.pointer set + k) % 4) = some old →
        let w := (s.pointer set + k) % 4
        exec (.cardLoad h r) s =
          .next ((((s.setEntry set w (some fresh)).setPointer set ((w + 1) % 4)).taken Kind.cardLoad h).transmits
            ((if old.tallies s.clock.day then [.notice old.tally] else []) ++
              [.reply ⟨Kind.cardLoad, h.tag⟩ (.plain .installed []) 0]))) ∧
      ((∀ v < 4, ¬ mayGo v) → exec (.cardLoad h r) s = .next (s.replies Kind.cardLoad h .notInstalled [])))) ∧
  (∀ (s : State) (h : Hdr) (r : CardRecord), s.Accepts h (cardLoadLength r.grantCount) → BadRecord r →
    exec (.cardLoad h r) s = .next (s.replies Kind.cardLoad h .badRecord []))

/-- R17. A load of a card whose entry is valid updates that entry in place: every field but the day counters from the
record, hold count and resident kept, the counters merged for the current voyage day. -/
def Obligations.CardLoadUpdates : Prop :=
  ∀ (s : State) (h : Hdr) (r : CardRecord) (cls : CardClass) (grants : List Grant) (w : Nat) (e : CardEntry),
    s.Accepts h (cardLoadLength r.grantCount) → GoodRecord r cls grants → s.NoFetch r.card → s.Holds r.card w e → e.Sound →
    let today : Bool := r.dayStamp = s.clock.day
    let spend := if e.dayStamp = s.clock.day then e.daySpend else 0
    let alcohol := if e.dayStamp = s.clock.day then e.dayAlcohol else 0
    let updated := recordEntry r cls grants s.clock.day (if today then max spend r.daySpend else spend)
      (if today then max alcohol r.dayAlcohol else alcohol)
    exec (.cardLoad h r) s =
      .next ((s.setEntry (setIndex r.card) w (some { updated with resident := e.resident, holdCount := e.holdCount })).replies
        Kind.cardLoad h .updated [])

/-- R4, R8, R17, R18, R22 to R24, R26, R48, R111, R120. A presentation at a door, a gangway lane, a muster station or a terminal
that finds no entry of its card, a suspect entry, or one of an older generation starts a fetch with the lowest free number, joins
the card's, or is refused FETCH-FULL; it has no reply while it waits. A fetch's expiry removes it, records FETCH-TIMEOUT,
and refuses each waiting presentation in joining order; a fetch that has ended has no expiry. A load of its card answers it: the
record, revoked if the fetch is, updates the card's entry or is installed or passed, the fetch is removed, and the presentations
are resumed in joining order, each compared by generation and handed back to its block; where the record is passed a charge is
TABLE-FULL. The load's own reply comes last. The replies of those that waited carry the portal's state by the class they were
routed by (log 24, DEDUCED). The model's choices in it: log 2, 24. -/
def Obligations.FetchesStartAndExpire : Prop :=
  (∀ (s u : State) (h : Hdr) (c : Instr) (p : Presentation), s.Presents h c p → s.Misses p.card p.gen u →
    let waits (n : Nat) (f : Fetch) : State := (u.setFetch n (some f)).taken p.id.kind h
    let full := (u.taken p.id.kind h).transmits [p.frame (decisionFor p .fetchFull none s)]
    (∀ n < 16, s.NoFetch p.card → s.fetch n = none → (∀ m < n, s.fetch m ≠ none) →
      exec c s = .next (notify (.cardWanted n p.card p.gen) (waits n ⟨p.card, p.gen, false, [p], s.now + s.cards.fetchWait⟩))) ∧
    (s.NoFetch p.card → (∀ n < 16, s.fetch n ≠ none) → exec c s = .next full) ∧
    (∀ n f, s.Fetches p.card n f → f.waiting.length < 4 →
      exec c s = .next (waits n { f with waiting := f.waiting ++ [p] })) ∧
    (∀ n f, s.Fetches p.card n f → 4 ≤ f.waiting.length → exec c s = .next full)) ∧
  (∀ (s : State) (n : Nat), s.supply = true →
    (∀ f, s.fetch n = some f → f.waiting ≠ [] →
      exec (.fetchExpiry n) s =
        .next (((report .fetchTimeout { card := some f.card } (s.withNow (max s.now f.expiry))).setFetch n none).transmits
          (f.waiting.map fun p => p.frame (decisionFor p (if f.revoked then .revoked else .offline) none s)))) ∧
    (s.fetch n = none → exec (.fetchExpiry n) s = .next s)) ∧
  (∀ (s : State) (h : Hdr) (r : CardRecord) (cls : CardClass) (grants : List Grant) (n : Nat) (f : Fetch),
    s.Accepts h (cardLoadLength r.grantCount) → GoodRecord r cls grants → s.Fetches r.card n f → s.Canonical →
    let set := setIndex r.card
    let today : Bool := r.dayStamp = s.clock.day
    let fresh := { recordEntry r cls grants s.clock.day (if today then r.daySpend else 0) (if today then r.dayAlcohol else 0) with
      revoked := r.revoked || f.revoked }
    let resume (x : CardEntry) (u : State) (p : Presentation) : State :=
      if p.gen < x.gen then refuse p .superseded u else if x.gen < p.gen then refuse p .noRecord u else handBack p x u
    let resumed (w : Nat) (u : State) : State :=
      f.waiting.foldl (fun u p => resume ((u.entry set w).getD fresh) u p) (u.setFetch n none)
    let asked := s.taken Kind.cardLoad h
    let answers (u : State) (res : Result) : Prop := exec (.cardLoad h r) s = .next (u.replied Kind.cardLoad h res [])
    (∀ w e, s.Holds r.card w e → e.Sound →
      let spend := if e.dayStamp = s.clock.day then e.daySpend else 0
      let alcohol := if e.dayStamp = s.clock.day then e.dayAlcohol else 0
      let updated := { fresh with
        daySpend := if today then max spend r.daySpend else spend
        dayAlcohol := if today then max alcohol r.dayAlcohol else alcohol, resident := e.resident, holdCount := e.holdCount }
      answers (resumed w (asked.setEntry set w (some updated))) .updated) ∧
    (s.Lacks r.card → (∀ v < 4, ∀ e, s.entry set v = some e → e.Sound) →
      (∀ w u, asked.Installs u fresh w → answers (resumed w u) .installed) ∧
      ((∀ v < 4, (s.way v).enabled = true → ∃ e, s.entry set v = some e ∧ (e.resident = true ∨ 0 < e.holdCount)) →
        answers (f.waiting.foldl (fun u p => match p.job with
          | .charge _ => refuse p .tableFull u
          | .door | .gangway | .muster => resume fresh u p) (asked.setFetch n none)) .passed)))

/-- R25, R210. CARD-UNKNOWN removes the card's fetch, refuses each waiting presentation in joining order, and answers DONE; with
no fetch pending it answers NOT-PENDING and nothing changes. Each refusal is the whole decision of R210, its portal state by the class
the presentation was routed by (log 24, DEDUCED). The model's choices in it: log 24. -/
def Obligations.CardUnknownEndsFetch : Prop :=
  ∀ (s : State) (h : Hdr) (card : Nat), s.Accepts h 4 →
    (∀ n f, s.Fetches card n f →
      exec (.cardUnknown h card) s =
        .next (((s.setFetch n none).taken Kind.cardUnknown h).transmits
          ((f.waiting.map fun p => p.frame (decisionFor p (if f.revoked then .revoked else .noRecord) none s)) ++
            [.reply ⟨Kind.cardUnknown, h.tag⟩ (.plain .done []) 0]))) ∧
    (s.NoFetch card → exec (.cardUnknown h card) s = .next (s.replies Kind.cardUnknown h .notPending []))

/-- R27. CARD-REVOKE writes the card's entry revoked, marks its fetch, or both, and says which; with neither it answers
NOT-PRESENT and nothing changes. -/
def Obligations.CardRevokeMarks : Prop :=
  ∀ (s : State) (h : Hdr) (card : Nat), s.Accepts h 4 →
    (∀ w e, s.Holds card w e → e.Sound →
      let written := s.setEntry (setIndex card) w (some { e.refresh s.clock.day with revoked := true, codeDiff := 0 })
      (s.NoFetch card → exec (.cardRevoke h card) s = .next (written.replies Kind.cardRevoke h .done [.n1 1, .n1 0])) ∧
      (∀ n f, s.Fetches card n f →
        exec (.cardRevoke h card) s =
          .next ((written.setFetch n (some { f with revoked := true })).replies Kind.cardRevoke h .done [.n1 1, .n1 1]))) ∧
    (s.Lacks card →
      (∀ n f, s.Fetches card n f →
        exec (.cardRevoke h card) s =
          .next ((s.setFetch n (some { f with revoked := true })).replies Kind.cardRevoke h .done [.n1 0, .n1 1])) ∧
      (s.NoFetch card → exec (.cardRevoke h card) s = .next (s.replies Kind.cardRevoke h .notPresent [])))

/-- R15. The rows of CARD-RESIDENT: ON is 0 and OFF 1. The model's choices in it: log 13. -/
def Obligations.CardResidentRows : Prop :=
  ∀ (s : State) (h : Hdr) (card value : Nat), s.Accepts h 5 →
    let answers (t : State) (r : Result) : Prop :=
      exec (.cardResident h card value) s = .next (t.replies Kind.cardResident h r [])
    (1 < value → answers s .badValue) ∧
    (value ≤ 1 → s.Lacks card → answers s .notPresent) ∧
    (∀ w e, value ≤ 1 → s.Holds card w e → e.suspect = true → answers s .notPresent) ∧
    (∀ w e, s.Holds card w e → e.suspect = false → e.codeDiff = 0 →
      let written (on : Bool) := s.setEntry (setIndex card) w (some { e.refresh s.clock.day with resident := on, codeDiff := 0 })
      let pinned := ((List.range 4).filter fun v => (s.entry (setIndex card) v).any (·.resident)).length
      (value = 0 → e.resident = true → answers s .done) ∧
      (value = 0 → e.resident = false → pinned < 3 → answers (written true) .done) ∧
      (value = 0 → e.resident = false → 3 ≤ pinned → answers s .tableFull) ∧
      (value = 1 → answers (written false) .done))

/-- R20. CARD-QUERY reads the card's entry or the entry at a place, and changes nothing when the check passes.
That an entry is reported with DONE is the model's choice (log 46). The model's choices in it: log 13, 46. -/
def Obligations.CardQueryReads : Prop :=
  ∀ (s : State) (h : Hdr) (form key : Nat), s.Accepts h 5 →
    let answers (r : Result) (fs : List Fld) : Prop :=
      exec (.cardQuery h form key) s = .next (s.replies Kind.cardQuery h r fs)
    (∀ w e, form = 0 → s.Holds key w e → e.Sound →
      answers .done (entryFields (setIndex key) w e s ++ fetchFields (fetchOf s key))) ∧
    (form = 0 → s.Lacks key → answers .notPresent (fetchFields (fetchOf s key))) ∧
    (∀ set way low, form = 1 → key = set * 16777216 + way * 65536 + low → way < 256 → low < 65536 →
      (3 < way → answers .badValue []) ∧
      (way ≤ 3 → s.entry set way = none → answers .notPresent (fetchFields none)) ∧
      (∀ e, way ≤ 3 → s.entry set way = some e → e.Sound → answers .done (entryFields set way e s ++ fetchFields none))) ∧
    (1 < form → answers .badValue [])

/-- R5, R6, R9, R14. A read whose check fails counts a fault of the way and records CARD-CHECK with the number the entry held:
with no open hold to answer for, the entry is invalidated; where open holds name its card, it is rebuilt from them and
suspect. The fourth fault retires the way: it is disabled with WAY-RETIRED, and its entries with hold count 0 leave with their
DAY-TALLYs. In a way already disabled the fourth records WAY-RETIRED and no more, and the count stays at 4.
The model's choices in it: log 13, 17, 18, 46. -/
def Obligations.FailedCheckHandled : Prop :=
  (∀ (s : State) (h : Hdr) (set way low : Nat) (e : CardEntry), s.Accepts h 5 → set < 256 → way < 4 → low < 65536 →
    s.entry set way = some e → e.suspect = false → e.codeDiff ≠ 0 → (s.way way).faults < 3 →
    let query := Instr.cardQuery h 1 (set * 16777216 + way * 65536 + low)
    let failed (left : Option CardEntry) :=
      report .cardCheck { card := some e.card }
        (((s.setEntry set way left).setWay way { s.way way with faults := (s.way way).faults + 1 }).taken Kind.cardQuery h)
    (openHolds s = [] → exec query s = .next ((failed none).replied Kind.cardQuery h .notPresent (fetchFields none))) ∧
    (∀ x xs, holdsOfCard s e.card = x :: xs → setIndex e.card = set →
      (∀ v < 4, v ≠ way → ∀ o, s.entry set v = some o → o.card ≠ e.card) →
      let today := (x :: xs).filter (·.day = s.clock.day)
      let rebuilt := { e with
        person := x.person, folio := x.folio, holdCount := xs.length + 1, dayStamp := s.clock.day,
        daySpend := min maxAmount (today.map (·.total)).sum, dayAlcohol := min 255 (today.map (·.alcohol)).sum,
        resident := false, suspect := true, codeDiff := 0 }
      exec query s = .next ((failed (some rebuilt)).replied Kind.cardQuery h .done
        (entryFields set way rebuilt s ++ fetchFields none)))) ∧
  (∀ (s : State) (h : Hdr) (set way low : Nat) (e : CardEntry), s.Accepts h 5 → set < 256 → way < 4 → low < 65536 →
    s.entry set way = some e → e.suspect = false → e.codeDiff ≠ 0 → openHolds s = [] → s.Canonical →
    let query := Instr.cardQuery h 1 (set * 16777216 + way * 65536 + low)
    let failed := report .cardCheck { card := some e.card }
      (((s.setEntry set way none).setWay way { s.way way with faults := 4 }).taken Kind.cardQuery h)
    let answers (u : State) : Prop := exec query s = .next (u.replied Kind.cardQuery h .notPresent (fetchFields none))
    ((s.way way).enabled = false → (s.way way).faults = 4 → answers failed) ∧
    ((s.way way).enabled = false → (s.way way).faults = 3 → answers (report .wayRetired { way := some way } failed)) ∧
    ((s.way way).enabled = true → (s.way way).faults = 3 →
      (∀ set' v x, v < 4 → s.entry set' v = some x → ¬ (set' = set ∧ v = way) → x.Sound) →
      let leaves (n : Nat) (x : CardEntry) : Bool := n % 4 = way && x.holdCount = 0
      let retired := report .wayRetired { way := some way } (failed.setWay way ⟨4, false⟩)
      s.NoticeRoom (2 + (tallyFrames leaves retired).length) →
      answers ((retired.without leaves).transmits (tallyFrames leaves retired))))

/-- R9, R11, R14, R19. FLUSH of a sound table invalidates every entry that is neither resident nor hold-locked, with their
DAY-TALLYs, and answers with their number. WAY-DISABLE retires an enabled way, its fault count kept and no fault recorded;
WAY-RESTORE zeroes the count and enables the way; WAY-QUERY changes nothing; a way outside 0 to 3 is BAD-VALUE.
That the way state
in the other two's DONE is the enable and the fault count is the model's choice (log 41). The model's choices in it: log 13, 16, 17,
39, 41. -/
def Obligations.FlushAndWays : Prop :=
  (∀ (s : State) (h : Hdr), s.Accepts h 0 → s.TableSound → Table.wf none s.cards.entries = true →
    let leaves (_ : Nat) (e : CardEntry) : Bool := !e.resident && e.holdCount = 0
    s.NoticeRoom (tallyFrames leaves s).length →
    exec (.flush h) s =
      .next (((s.without leaves).taken Kind.flush h).transmits (tallyFrames leaves s ++
        [.reply ⟨Kind.flush, h.tag⟩ (.plain .done [.n2 (s.cards.entries.filter fun p => p.2.any (leaves p.1)).length]) 0]))) ∧
  (∀ (s : State) (h : Hdr) (w : Nat), s.Accepts h 1 →
    (3 < w → exec (.wayDisable h w) s = .next (s.replies Kind.wayDisable h .badValue []) ∧
      exec (.wayRestore h w) s = .next (s.replies Kind.wayRestore h .badValue [])) ∧
    (w ≤ 3 → exec (.wayRestore h w) s = .next ((s.setWay w ⟨0, true⟩).replies Kind.wayRestore h .done [.n1 1, .n1 0])) ∧
    (w ≤ 3 → (s.way w).enabled = false →
      exec (.wayDisable h w) s = .next (s.replies Kind.wayDisable h .done [.n1 0, .n1 (s.way w).faults])) ∧
    (w ≤ 3 → (s.way w).enabled = true → s.TableSound → Table.wf none s.cards.entries = true →
      let leaves (n : Nat) (e : CardEntry) : Bool := n % 4 = w && e.holdCount = 0
      s.NoticeRoom (tallyFrames leaves s).length →
      exec (.wayDisable h w) s =
        .next (((((s.without leaves).setWay w ⟨(s.way w).faults, false⟩)).taken Kind.wayDisable h).transmits
          (tallyFrames leaves s ++
            [.reply ⟨Kind.wayDisable, h.tag⟩ (.plain .done [.n1 0, .n1 (s.way w).faults]) 0]))) ∧
    (∀ g : WayRequest, s.Accepts g.toHdr 1 →
      (3 < g.way → exec (.wayQuery g) s = .next (s.replies Kind.wayQuery g.toHdr .badValue [])) ∧
      (g.way ≤ 3 → s.TableSound →
        exec (.wayQuery g) s = .next (s.replies Kind.wayQuery g.toHdr .done ((List.range 4).flatMap (wayReport s))))))

/-! ## Ship time and the voyage day (chapter 2) -/

/-- R29, R31, R32. A second count adds one to a ship time that is SET and below its maximum; where the day does not roll
over and nothing falls due, nothing else changes but the crystal's second. NOT-SET, ship time stands.
The model's choices in it: log 2, 3. -/
def Obligations.SecondCounts : Prop :=
  ∀ (s : State), s.supply = true →
    let start := s.clock.secondStart + 1000
    let ticked := (s.withClock { s.clock with secondStart := start }).withNow (max s.now start)
    (s.clock.isSet = false → exec .secondCount s = .next ticked) ∧
    (s.clock.isSet = true →
      let time := min maxTime (s.clock.shipTime + 1)
      let counted := ticked.withClock { ticked.clock with shipTime := time }
      (time - s.clock.offset) / 86400 ≤ s.clock.day → dueNow counted = [] →
      exec .secondCount s = .next counted)

/-- R31, R87, R150, R158. What falls due at a second count is taken in that event, whatever the order: every hold that is HELD with
an expiry at or below the new ship time is free with last end EXPIRED, the other slots stand, and a deadline at or below it
passes. Nothing is left due. The model's choices in it: log 5. -/
def Obligations.DueEventsTaken : Prop :=
  ∀ (s : State), s.supply = true → s.clock.isSet = true →
    let time := min maxTime (s.clock.shipTime + 1)
    ∃ t, exec .secondCount s = .next t ∧
      (∀ slot < 32, holdDue t slot = false) ∧ deadlineDue t = false ∧
      t.clock.shipTime = time ∧ t.clock.isSet = true ∧
      (∀ slot < 32,
        (∀ x expiry, (s.holdSlot slot).body = .held x expiry → expiry ≤ time →
          t.holdSlot slot = { s.holdSlot slot with body := .free, lastEnd := .expired }) ∧
        ((∀ x expiry, (s.holdSlot slot).body = .held x expiry → time < expiry) → t.holdSlot slot = s.holdSlot slot)) ∧
      (∀ d, s.roll.deadline = some d → d ≤ time → t.roll = { s.roll with passed := true }) ∧
      ((∀ d, s.roll.deadline = some d → time < d) → t.roll = s.roll)

/-- R32 to R34. The computed day passing the current one is one event: the day, the staged tariff made active, DAY-ROLLED, and the
day write: one that stands in the store's queue already serves; it is queued where the queue has room, beginning at once in an empty
one; and a full queue leaves it to a retry a second later. Otherwise nothing changes. The model's choices in it: log 2. -/
def Obligations.DayRollsOver : Prop :=
  ∀ (s : State), s.supply = true →
    let new := (s.clock.shipTime - s.clock.offset) / 86400
    (s.clock.isSet = false ∨ new ≤ s.clock.day → exec .dayRollover s = .next s) ∧
    (s.clock.isSet = true → s.clock.day < new → s.NoticeRoom 1 → (∀ r ∈ s.store.queue, r ≠ .day) →
      0 < s.store.queue.length → s.store.queue.length < 8 →
      exec .dayRollover s = .next
        ((((s.withClock { s.clock with day := new, dayOutstanding := true, dayRetry := none }).withPurse
          { s.purse with active := s.purse.staged.getD s.purse.active, staged := none }).withStore
          { s.store with queue := s.store.queue ++ [.day] }).transmits
            [.notice (.dayRolled s.clock.day new s.clock.shipTime s.purse.staged.isSome)])) ∧
    (s.clock.isSet = true → s.clock.day < new →
      let rolled (retry : Option Nat) : State := notify (.dayRolled s.clock.day new s.clock.shipTime s.purse.staged.isSome)
        ((s.withClock { s.clock with day := new, dayOutstanding := true, dayRetry := retry }).withPurse
          { s.purse with active := s.purse.staged.getD s.purse.active, staged := none })
      (.day ∈ s.store.queue → exec .dayRollover s = .next (rolled s.clock.dayRetry)) ∧
      (.day ∉ s.store.queue → s.store.queue.length < 8 → exec .dayRollover s = .next (enqueue .day (rolled none))) ∧
      (.day ∉ s.store.queue → 8 ≤ s.store.queue.length → exec .dayRollover s = .next (rolled (some (s.now + 1000)))))

/-- R34, R108. The retry of the day write and that of the record write queue it when the queue has room, where it begins at once if
the queue is empty, and try again a second later when it has none; a write of the kind that is queued already serves; with no
retry waiting nothing happens.
The model's choices in it: log 2, 21. -/
def Obligations.WritesRetried : Prop :=
  (∀ (s : State), s.supply = true →
    (s.clock.dayRetry = none → exec .dayWriteRetry s = .next s) ∧
    (∀ due, s.clock.dayRetry = some due → (∀ r ∈ s.store.queue, r ≠ .day) →
      (0 < s.store.queue.length → s.store.queue.length < 8 →
        exec .dayWriteRetry s = .next
          (((s.withNow (max s.now due)).withClock { s.clock with dayRetry := none }).withStore
            { s.store with queue := s.store.queue ++ [.day] })) ∧
      (8 ≤ s.store.queue.length →
        exec .dayWriteRetry s = .next
          ((s.withNow (max s.now due)).withClock { s.clock with dayRetry := some (max s.now due + 1000) }))) ∧
    (∀ due, s.clock.dayRetry = some due →
      let t := (s.withNow (max s.now due)).withClock { s.clock with dayRetry := none }
      (.day ∈ s.store.queue → exec .dayWriteRetry s = .next t) ∧
      (.day ∉ s.store.queue → s.store.queue.length < 8 → exec .dayWriteRetry s = .next (enqueue .day t)))) ∧
  (∀ (s : State), s.supply = true →
    (s.emu.retry = none → exec .musterWriteRetry s = .next s) ∧
    (∀ due, s.emu.retry = some due →
      let t := s.withNow (max s.now due)
      (.muster ∈ s.store.queue → exec .musterWriteRetry s = .next (t.withEmu { s.emu with retry := none, outstanding := true })) ∧
      (.muster ∉ s.store.queue → 0 < s.store.queue.length → s.store.queue.length < 8 →
        exec .musterWriteRetry s = .next ((t.withEmu { s.emu with retry := none, outstanding := true }).withStore
          { s.store with queue := s.store.queue ++ [.muster] })) ∧
      (.muster ∉ s.store.queue → s.store.queue.length < 8 → exec .musterWriteRetry s =
        .next (enqueue .muster (t.withEmu { s.emu with retry := none, outstanding := true }))) ∧
      (.muster ∉ s.store.queue → 8 ≤ s.store.queue.length →
        exec .musterWriteRetry s = .next
          (t.withEmu { s.emu with retry := some (max s.now due + 1000), outstanding := true }))))

/-- R30. TIME-SET makes ship time `t` and the clock SET, and reports the step; a step back records CLOCK-STEP with the
request. Where the day does not roll over and nothing falls due, nothing else changes.
The model's choices in it: log 3, 13, 30. -/
def Obligations.TimeSetSteps : Prop :=
  ∀ (s : State) (h : Hdr) (time : Nat), s.Accepts h 4 → (time - s.clock.offset) / 86400 ≤ s.clock.day →
    let now (x : State) := x.withClock { x.clock with shipTime := time, isSet := true, secondStart := x.now }
    dueNow (now s) = [] →
    let answers (x : State) (step : Nat) : Prop :=
      exec (.timeSet h time) s = .next ((now x).replied Kind.timeSet h .done [.n1 step, .n4 time, .n2 s.clock.day])
    (s.clock.isSet = false → answers (s.taken Kind.timeSet h) 0) ∧
    (s.clock.isSet = true → s.clock.shipTime < time → answers (s.taken Kind.timeSet h) 1) ∧
    (s.clock.isSet = true → s.clock.shipTime = time → answers (s.taken Kind.timeSet h) 2) ∧
    (s.clock.isSet = true → time < s.clock.shipTime →
      answers (report .clockStep { req := some ⟨Kind.timeSet, h.tag⟩ } (s.taken Kind.timeSet h)) 3)

/-- R32. No command but a cold start's scan, a loss of power and a cold reset lowers the voyage day. -/
def Obligations.DayNeverFalls : Prop :=
  ∀ (c : Instr) (s t : State), (c ≠ .powerLoss ∧ (∀ check straps, c ≠ .coldReset check straps) ∧ c ≠ .storeScan) →
    exec c s = .next t → s.clock.day ≤ t.clock.day

/-! ## Portals (chapter 3) -/

/-- R8, R37, R41, R48, R111, R119, R120, R210. The checks up to the card lookup: with the clock NOT-SET a PRESENT or an AUTHORIZE is refused
CLOCK-UNSET; an AUTHORIZE under the latch EMERGENCY; at a portal of no class, disabled, or of the wrong kind, and at a muster
station with no muster active, OUT-OF-SERVICE; a generation above 15 and card number 0 are NO-RECORD; and a card that hits with a
newer generation is SUPERSEDED. At a portal of no class or a TERMINAL the reply carries no portal state. Nothing else changes but
the hit's pointer, and no fetch starts.
The model's choices in it: log 24. -/
def Obligations.PresentationsRefusedAtOnce : Prop :=
  (∀ (s : State) (h : Hdr) (portal card gen : Nat), s.Accepts h 6 →
    let p := s.portal portal
    let refused (d : Decision) : Prop := exec (.present h portal card gen) s =
      .next ((s.taken Kind.present h).transmits [.reply ⟨Kind.present, h.tag⟩ (.decision d) 0])
    (p.cls = none ∨ p.cls = some .terminal →
      (s.clock.isSet = false → refused { outcome := .clockUnset, portal := portal }) ∧
      (s.clock.isSet = true → refused { outcome := .outOfService, portal := portal })) ∧
    (∀ job, (p.isDoor = true ∧ job = .door) ∨ (p.cls = some .gangway ∧ job = .gangway) ∨ (p.cls = some .muster ∧ job = .muster) →
      (s.clock.isSet = false → refused (decisionFor ⟨h.tag, portal, card, gen, job⟩ .clockUnset none s)) ∧
      (s.clock.isSet = true → p.disabled = true →
        refused (decisionFor ⟨h.tag, portal, card, gen, job⟩ .outOfService none s)))) ∧
  (∀ (s : State) (h : Hdr) (portal card gen : Nat) (a : ChargeAmounts), s.Accepts h 12 →
    let refused (r : Result) : Prop :=
      exec (.authorize h portal card gen a) s = .next ((s.taken Kind.authorize h).transmits
        [.reply ⟨Kind.authorize, h.tag⟩ (.decision { outcome := r, portal := portal }) 0])
    (s.clock.isSet = false → refused .clockUnset) ∧
    (s.clock.isSet = true → s.emu.latch = true → refused .emergency) ∧
    (s.clock.isSet = true → s.emu.latch = false →
      (s.portal portal).cls ≠ some .terminal ∨ (s.portal portal).disabled = true → refused .outOfService)) ∧
  (∀ (s : State) (h : Hdr) (portal card gen : Nat) (job : Job), s.Accepts h 6 → s.clock.isSet = true →
    let p := s.portal portal
    p.disabled = false → (p.isDoor = true ∧ job = .door) ∨ (p.cls = some .gangway ∧ job = .gangway) ∨
      (p.cls = some .muster ∧ job = .muster) →
    let pr : Presentation := ⟨h.tag, portal, card, gen, job⟩
    let refused (u : State) (r : Result) : Prop :=
      exec (.present h portal card gen) s = .next ((u.taken Kind.present h).transmits [pr.frame (decisionFor pr r none s)])
    (job = .muster → s.emu.record.active = false → refused s .outOfService) ∧
    (job ≠ .muster ∨ s.emu.record.active = true →
      (15 < gen ∨ card = 0 → refused s .noRecord) ∧
      (∀ w e, s.Hits card gen w e → gen < e.gen → refused (s.afterHit card w) .superseded))) ∧
  (∀ (s : State) (h : Hdr) (portal card gen : Nat) (a : ChargeAmounts), s.Accepts h 12 → s.clock.isSet = true →
    s.emu.latch = false → (s.portal portal).cls = some .terminal → (s.portal portal).disabled = false →
    let refused (u : State) (r : Result) : Prop :=
      exec (.authorize h portal card gen a) s = .next ((u.taken Kind.authorize h).transmits
        [.reply ⟨Kind.authorize, h.tag⟩ (.decision { outcome := r, portal := portal }) 0])
    (15 < gen ∨ card = 0 → refused s .noRecord) ∧
    (∀ w e, s.Hits card gen w e → gen < e.gen → refused (s.afterHit card w) .superseded))

/-- R13, R38, R49 to R53, R66. A card that hits, passes every check and is presented at a SECURE door is admitted: the door is
RELEASED with its timing captured, the release timer started and the strike confirmation awaited if required. The checks are
made in order, the first that fails naming the refusal; then the door's state decides: a release running is restarted, an open
door is admitted as it stands, and a door held in EMERGENCY admits or refuses by its preset. A person who is not ABOARD is refused
at a strict door and is a PRESENCE-CONFLICT at a lenient one that admits. The model's choices in it: log 2, 24. -/
def Obligations.DoorAdmits : Prop :=
  (∀ (s : State) (h : Hdr) (portal card gen w : Nat) (e : CardEntry) (cls : PortalClass), s.Accepts h 6 →
    let p := s.portal portal
    s.clock.isSet = true → p.cls = some cls → cls.isDoor = true → p.disabled = false → p.state = .secure →
    gen ≤ 15 → card ≠ 0 → s.Holds card w e → e.suspect = false → e.codeDiff = 0 → e.gen = gen → e.revoked = false →
    e.validFrom ≤ s.clock.shipTime → s.clock.shipTime ≤ e.validUntil →
    (∃ g ∈ e.grants, match cls with
      | .cabin => g = .cabin p.cabin ∨ g = .allCabins
      | _ => g = .zone p.zone) ∨ (cls = .venueDoor ∧ p.zone = 0) →
    (s.person e.person).state = .aboard →
    let t := s.timing p.timingSet
    let set := setIndex card
    let hit := if s.pointer set = w then s.setPointer set ((w + 1) % 4) else s
    exec (.present h portal card gen) s =
      .next (((hit.setPortal portal { p with
        state := .released, captured := t, releaseTimer := some ⟨s.now, 1000 * t.release⟩,
        strikePending := p.strikeRequired,
        strikeTimer := if p.strikeRequired then some ⟨s.now, t.strike⟩ else none }).taken Kind.present h).transmits
          [.reply ⟨Kind.present, h.tag⟩ (.decision
            { outcome := .admitted, portal := portal, portalState := 1, person := some e.person, release := t.release }) 0])) ∧
  (∀ (s : State) (h : Hdr) (portal card gen w : Nat) (e : CardEntry) (cls : PortalClass), s.Accepts h 6 → s.Canonical →
    let p := s.portal portal
    let person := s.person e.person
    let hit := s.afterHit card w
    let pr : Presentation := ⟨h.tag, portal, card, gen, .door⟩
    s.clock.isSet = true → p.cls = some cls → cls.isDoor = true → p.disabled = false → s.Hits card gen w e → e.gen = gen →
    (∀ r, FirstOf (doorChecks s cls p e) r → exec (.present h portal card gen) s =
      .next ((hit.taken Kind.present h).transmits [pr.frame (decisionFor pr r (some e.person) s)])) ∧
    (∀ (q : Portal) (r : Result) (release : Nat), NoneOf (doorChecks s cls p e) →
      (p.state = .secure ∧ r = .admitted ∧ release = (s.timing p.timingSet).release ∧ q = { p with
        state := .released, captured := s.timing p.timingSet,
        releaseTimer := some ⟨s.now, 1000 * (s.timing p.timingSet).release⟩, strikePending := p.strikeRequired,
        strikeTimer := if p.strikeRequired then some ⟨s.now, (s.timing p.timingSet).strike⟩ else none }) ∨
      (p.state = .released ∧ r = .admitted ∧ release = p.captured.release ∧
        q = { p with releaseTimer := some ⟨s.now, 1000 * p.captured.release⟩ }) ∨
      ((p.state = .opened ∨ p.state = .heldOpen ∨ p.state = .forced) ∧ r = .admitted ∧ release = p.captured.release ∧ q = p) ∨
      (p.state = .emergency ∧ r = (if p.preset = .release then .admitted else .emergency) ∧ release = 0 ∧ q = p) →
      let door := (hit.setPortal portal q).taken Kind.present h
      let told := if r = .admitted ∧ person.state ≠ .aboard then
          report .presenceConflict { portal := some portal, card := some card, person := some e.person }
            (notify (.presenceConflict portal card e.person person.state) door)
        else door
      exec (.present h portal card gen) s = .next (told.transmits [.reply ⟨Kind.present, h.tag⟩ (.decision
        { outcome := r, portal := portal, portalState := enumCode portalStates q.state, person := some e.person,
          release := release }) 0])))

/-- R43, R44, R102. PORTAL-SET at a portal in SECURE or OUT-OF-SERVICE replaces its class fields, keeps its disabled mark and
contact, and places it: a door whose preset is not NORMAL enters EMERGENCY while the condition is true, disabled or not, with the
drive of its preset; at any other state it is refused BUSY; fields out of range are BAD-VALUE.
The model's choices in it: log 13. -/
def Obligations.PortalConfigured : Prop :=
  ∀ (s : State) (h : Hdr) (c : PortalConfig), s.Accepts h 12 → s.Canonical →
    let p := s.portal c.portal
    let bad : Prop := 5 < c.cls ∨ (c.cls = 0 ∧ (c.cabin = 0 ∨ 9999 < c.cabin)) ∨ (c.cls = 1 ∧ (c.zone = 0 ∨ 63 < c.zone)) ∨
      (c.cls = 2 ∧ 63 < c.zone) ∨ (c.cls = 3 ∧ 2 < c.direction) ∨ (c.cls = 4 ∧ (c.station = 0 ∨ 32 < c.station)) ∨
      (c.cls ≤ 2 ∧ (7 < c.timingSet ∨ 2 < c.preset))
    let code : Nat := if p.disabled then 6 else 0
    let placed (q : Portal) : State := s.setPortal c.portal { q with
      disabled := p.disabled, state := if p.disabled then .outOfService else .secure, contact := p.contact }
    (bad → exec (.portalSet h c) s = .next (s.replies Kind.portalSet h .badValue [])) ∧
    (¬ bad → p.state ≠ .secure → p.state ≠ .outOfService →
      exec (.portalSet h c) s = .next (s.replies Kind.portalSet h .busy [])) ∧
    (p.state = .secure ∨ p.state = .outOfService → ¬ bad →
      (c.cls = 3 → ∀ d, laneDirections[c.direction]? = some d →
        exec (.portalSet h c) s = .next ((placed { defaultPortal with cls := some .gangway, direction := some d }).replies
          Kind.portalSet h .done [.n1 code])) ∧
      (c.cls = 4 → exec (.portalSet h c) s =
        .next ((placed { defaultPortal with cls := some .muster, station := c.station }).replies Kind.portalSet h .done [.n1 code])) ∧
      (c.cls = 5 → exec (.portalSet h c) s =
        .next ((placed { defaultPortal with cls := some .terminal }).replies Kind.portalSet h .done [.n1 code])) ∧
      (∀ cls preset, c.cls ≤ 2 → portalClasses[c.cls]? = some cls → presets[c.preset]? = some preset →
        let door (captured : Timing) : Portal := { defaultPortal with
          cls := some cls, cabin := if c.cls = 0 then c.cabin else 0, zone := if c.cls = 0 then 0 else c.zone,
          timingSet := c.timingSet, strikeRequired := c.strikeRequired, strict := c.strict, preset := preset,
          autoResume := c.autoResume, captured := captured }
        let captures : Timing := if p.state = .secure then s.timing c.timingSet else p.captured
        (preset = .normal ∨ s.emu.condition = false → exec (.portalSet h c) s =
          .next ((placed (door (if p.disabled then captures else p.captured))).replies Kind.portalSet h .done [.n1 code])) ∧
        (preset ≠ .normal → s.emu.condition = true →
          let held := s.setPortal c.portal { door captures with disabled := p.disabled, state := .emergency, contact := p.contact }
          exec (.portalSet h c) s =
            .next ((notify (.portalDrive c.portal (if preset = .release then .holdReleased else .relock))
              (held.taken Kind.portalSet h)).replied Kind.portalSet h .done [.n1 5]))))

/-- R43, R45, R46, R55, R66, R102. PORTAL-DISABLE takes a portal out of service, with RELOCK from RELEASED and the cleared alarm from
an alarm state; PORTAL-ENABLE places it again, a door whose preset is not NORMAL in EMERGENCY while the condition is true, with the
drive of its preset; neither moves a door held in EMERGENCY; an unconfigured portal is NOT-CONFIGURED. The model's choices in it: log 13, 41. -/
def Obligations.PortalServiceChanges : Prop :=
  ∀ (s : State) (h : Hdr) (n : Nat), s.Accepts h 1 → s.Canonical →
    let p := s.portal n
    let disables (t : State) (fs : List Fld) : Prop :=
      exec (.portalDisable h n) s = .next (t.replied Kind.portalDisable h .done fs)
    let out := (s.setPortal n { p with
      disabled := true, state := .outOfService, releaseTimer := none, heldOpenTimer := none, strikeTimer := none,
      strikePending := false,
      captured := if p.state = .secure ∧ p.isDoor = true then s.timing p.timingSet else p.captured }).taken Kind.portalDisable h
    (p.cls = none →
      exec (.portalDisable h n) s = .next (s.replies Kind.portalDisable h .notConfigured []) ∧
      exec (.portalEnable h n) s = .next (s.replies Kind.portalEnable h .notConfigured [])) ∧
    (p.cls ≠ none → p.disabled = true → disables (s.taken Kind.portalDisable h) [.n1 255]) ∧
    (p.cls ≠ none → p.disabled = false →
      (p.state = .emergency → disables ((s.setPortal n { p with disabled := true }).taken Kind.portalDisable h) [.n1 5]) ∧
      (p.state = .secure ∨ p.state = .opened ∨ p.state = .outOfService → disables out [.n1 6]) ∧
      (p.state = .released → disables (notify (.portalDrive n .relock) out) [.n1 6]) ∧
      (p.state = .forced →
        disables (notify (.doorAlarm n .forcedCleared .outOfService s.clock.shipTime) out) [.n1 6]) ∧
      (p.state = .heldOpen →
        disables (notify (.doorAlarm n .heldCleared .outOfService s.clock.shipTime) out) [.n1 6]) ∧
      exec (.portalEnable h n) s = .next (s.replies Kind.portalEnable h .done [.n1 (enumCode portalStates p.state)])) ∧
    (p.cls ≠ none → p.disabled = true →
      (p.state = .emergency →
        exec (.portalEnable h n) s =
          .next ((s.setPortal n { p with disabled := false }).replies Kind.portalEnable h .done [.n1 5])) ∧
      (p.state = .outOfService → p.isDoor = false ∨ p.preset = .normal ∨ s.emu.condition = false →
        exec (.portalEnable h n) s =
          .next ((s.setPortal n { p with
            disabled := false, state := .secure, releaseTimer := none, heldOpenTimer := none, strikeTimer := none,
            strikePending := false }).replies Kind.portalEnable h .done [.n1 0])) ∧
      (p.state = .outOfService → p.isDoor = true → p.preset ≠ .normal → s.emu.condition = true →
        let held := s.setPortal n { p with
          disabled := false, state := .emergency, releaseTimer := none, heldOpenTimer := none, strikeTimer := none,
          strikePending := false }
        exec (.portalEnable h n) s =
          .next ((notify (.portalDrive n (if p.preset = .release then .holdReleased else .relock))
            (held.taken Kind.portalEnable h)).replied Kind.portalEnable h .done [.n1 5])))

/-- R56, R60, R61, R64. CONTACT keeps the position on every portal, and is applied to a door's state.
The model's choices in it: log 13. -/
def Obligations.ContactApplied : Prop :=
  ∀ (s : State) (h : Hdr) (n : Nat), s.Accepts h 2 → s.Canonical →
    let p := s.portal n
    let seen (c : Contact) := { p with contact := c }
    let put (q : Portal) : State := (s.setPortal n q).taken Kind.contact h
    let opens (t : State) (state : Nat) : Prop := exec (.contact h n 0) s = .next (t.replied Kind.contact h .done [.n1 state])
    let closes (t : State) (state : Nat) : Prop := exec (.contact h n 1) s = .next (t.replied Kind.contact h .done [.n1 state])
    let alarmed (k : DoorAlarm) (st : PortalState) (t : State) : State := notify (.doorAlarm n k st s.clock.shipTime) t
    let forced (st : PortalState) (t : State) : State := report .doorForced { portal := some n } (alarmed .forced st t)
    let ended (c : Contact) (st : PortalState) : Portal := { seen c with
      state := st, releaseTimer := none, heldOpenTimer := none, strikeTimer := none, strikePending := false }
    (∀ position, 1 < position → exec (.contact h n position) s = .next (s.replies Kind.contact h .badValue [])) ∧
    (p.isDoor = false →
      exec (.contact h n 0) s = .next ((put (seen .opened)).replied Kind.contact h .notDoor []) ∧
      exec (.contact h n 1) s = .next ((put (seen .closed)).replied Kind.contact h .notDoor [])) ∧
    (p.isDoor = true →
      (p.state = .secure →
        opens (forced .forced (put { seen .opened with state := .forced, captured := s.timing p.timingSet })) 4 ∧
        closes (put (seen .closed)) 0) ∧
      (p.state = .released →
        opens (put { ended .opened .opened with heldOpenTimer := some ⟨s.now, 1000 * p.captured.heldOpen⟩ }) 2 ∧
        closes (put (seen .closed)) 1) ∧
      (p.state = .opened → opens (put (seen .opened)) 2 ∧ closes (put (ended .closed .secure)) 0) ∧
      (p.state = .heldOpen →
        opens (put (seen .opened)) 3 ∧ closes (alarmed .heldCleared .secure (put (ended .closed .secure))) 0) ∧
      (p.state = .forced →
        opens (put (seen .opened)) 4 ∧ closes (alarmed .forcedCleared .secure (put (ended .closed .secure))) 0) ∧
      (p.state = .outOfService → opens (put (seen .opened)) 6 ∧ closes (put (seen .closed)) 6) ∧
      (p.state = .emergency →
        (p.preset = .lockdown → opens (forced .emergency (put (seen .opened))) 5) ∧
        (p.preset = .release → opens (put (seen .opened)) 5) ∧ closes (put (seen .closed)) 5))

/-- R57, R63. STRIKE-ACK ends the confirmation a RELEASED door awaits (TAKEN, 0) and is otherwise ignored (1);
REMOTE-RELEASE acts on a door in service as an ADMIT does and answers with the release; a disabled door is OUT-OF-SERVICE,
and a portal that is no door NOT-DOOR to both. The model's choices in it: log 2, 13. -/
def Obligations.LockRequestsAnswered : Prop :=
  (∀ (s : State) (h : Hdr) (n : Nat), s.Accepts h 1 →
    let p := s.portal n
    (p.isDoor = false → exec (.strikeAck h n) s = .next (s.replies Kind.strikeAck h .notDoor [])) ∧
    (p.isDoor = true → p.state = .released → p.strikePending = true →
      exec (.strikeAck h n) s =
        .next ((s.setPortal n { p with strikePending := false, strikeTimer := none }).replies Kind.strikeAck h .done [.n1 0])) ∧
    (p.isDoor = true → ¬ (p.state = .released ∧ p.strikePending = true) →
      exec (.strikeAck h n) s = .next (s.replies Kind.strikeAck h .done [.n1 1]))) ∧
  (∀ (s : State) (h : Hdr) (n : Nat), s.Accepts h 1 →
    let p := s.portal n
    let answers (t : State) (r : Result) (fs : List Fld) : Prop :=
      exec (.remoteRelease h n) s = .next (t.replies Kind.remoteRelease h r fs)
    let t := s.timing p.timingSet
    (p.isDoor = false → answers s .notDoor []) ∧
    (p.isDoor = true → p.disabled = true → answers s .outOfService []) ∧
    (p.isDoor = true → p.disabled = false →
      (p.state = .secure → answers (s.setPortal n { p with
        state := .released, captured := t, releaseTimer := some ⟨s.now, 1000 * t.release⟩,
        strikePending := p.strikeRequired,
        strikeTimer := if p.strikeRequired then some ⟨s.now, t.strike⟩ else none }) .done [.n4 t.release]) ∧
      (p.state = .released → answers (s.setPortal n { p with
        releaseTimer := some ⟨s.now, 1000 * p.captured.release⟩ }) .done [.n4 p.captured.release]) ∧
      (p.state = .opened ∨ p.state = .heldOpen ∨ p.state = .forced → answers s .done [.n4 p.captured.release]) ∧
      (p.state = .emergency → p.preset = .release → answers s .done [.n4 0]) ∧
      (p.state = .emergency → p.preset = .lockdown → answers s .emergency [])))

/-- R58, R62, R65, R67. TIMING-STAGE rounds and clamps the three values and replaces the set's; with apply-now, a RELEASED door on
the set whose new window still runs keeps its start and is sent the seconds left, rounded up. So for every door on the set that
is not SECURE, in ascending number: the copy is replaced and the timers keep their starts; a release at or beyond its new window
ends, a strike failure if the confirmation is awaited and SECURE with RELOCK if not; a strike confirmation or a held-open limit at
or beyond its new limit expires at once; an unchanged window is left to run. The model's choices in it: log 2, 13, 40. -/
def Obligations.TimingStaged : Prop :=
  (∀ (s : State) (h : Hdr) (set release heldOpen strike applyNow : Nat), s.Accepts h 12 →
    let t : Timing := ⟨max 1 (min 30 release), max 5 (min 900 heldOpen), max 100 (min 5000 (strike / 100 * 100))⟩
    let values := [Fld.n4 t.release, .n4 t.heldOpen, .n2 t.strike]
    (7 < set ∨ 1 < applyNow →
      exec (.timingStage h set release heldOpen strike applyNow) s = .next (s.replies Kind.timingStage h .badValue [])) ∧
    (set ≤ 7 → applyNow = 0 →
      exec (.timingStage h set release heldOpen strike applyNow) s =
        .next ((s.setTiming set t).replies Kind.timingStage h .done (values ++ [.n2 65535]))) ∧
    (set ≤ 7 → applyNow = 1 → ∀ n p timer, s.ptu.portals = [(n, p)] → p.isDoor = true → p.timingSet = set →
      p.state = .released → p.releaseTimer = some timer → p.strikeTimer = none → p.heldOpenTimer = none →
      p.captured.release ≠ t.release → s.now < timer.start + 1000 * t.release →
      s.NoticeRoom 1 →
      exec (.timingStage h set release heldOpen strike applyNow) s =
        .next ((((s.setTiming set t).setPortal n { p with
          captured := t, releaseTimer := some ⟨timer.start, 1000 * t.release⟩ }).taken Kind.timingStage h).transmits
            [.notice (.portalDrive n (.release ((timer.start + 1000 * t.release - s.now + 999) / 1000))),
              .reply ⟨Kind.timingStage, h.tag⟩ (.plain .done (values ++ [.n2 1])) 0]))) ∧
  (∀ (s : State) (h : Hdr) (set release heldOpen strike : Nat), s.Accepts h 12 → s.Canonical → s.PortalsSound → set ≤ 7 →
    let t : Timing := ⟨max 1 (min 30 release), max 5 (min 900 heldOpen), max 100 (min 5000 (strike / 100 * 100))⟩
    let touched (p : Portal) : Bool := p.isDoor && p.timingSet = set && p.state != .secure
    let ended (p : Portal) : Bool :=
      p.captured.release != t.release && p.releaseTimer.any fun r => r.start + 1000 * t.release ≤ s.now
    let failed (p : Portal) : Bool :=
      if ended p then p.strikePending else p.strikeTimer.any fun r => r.start + t.strike ≤ s.now
    let held (p : Portal) : Bool := p.heldOpenTimer.any fun r => r.start + 1000 * t.heldOpen ≤ s.now
    let stopped (p : Portal) (st : PortalState) : Portal := { p with
      captured := t, state := st, releaseTimer := none, heldOpenTimer := none, strikeTimer := none, strikePending := false }
    let told (n : Nat) (p : Portal) : List Notice :=
      (p.releaseTimer.toList.flatMap fun r => if p.captured.release = t.release ∨ ended p = true then [] else
        [.portalDrive n (.release ((r.start + 1000 * t.release - s.now + 999) / 1000))]) ++
      (if failed p then [.doorAlarm n .strike .secure s.clock.shipTime, .portalDrive n .relock]
        else if ended p then [.portalDrive n .relock]
        else if held p then [.doorAlarm n .held .heldOpen s.clock.shipTime] else [])
    let doors := s.ptu.portals.filter fun x => touched x.2
    ∃ u, exec (.timingStage h set release heldOpen strike 1) s = .next u ∧
      u.timing set = t ∧ (∀ m, m ≠ set → u.timing m = s.timing m) ∧
      (∀ n, let p := s.portal n
        u.portal n = if touched p = false then p else if ended p || failed p then stopped p .secure
          else if held p then stopped p .heldOpen else { p with
            captured := t, releaseTimer := p.releaseTimer.map fun r => ⟨r.start, 1000 * t.release⟩,
            heldOpenTimer := p.heldOpenTimer.map fun r => ⟨r.start, 1000 * t.heldOpen⟩,
            strikeTimer := p.strikeTimer.map fun r => ⟨r.start, t.strike⟩ }) ∧
      (∃ ns : List Notice, u.link.tx = s.link.tx ++ ns.map Frame.notice ++ [.reply ⟨Kind.timingStage, h.tag⟩ (.plain .done
          [.n4 t.release, .n4 t.heldOpen, .n2 t.strike, .n2 doors.length]) 0] ∧
        (s.NoticeRoom (4 * doors.length) → ns.filter (fun x => match x with
          | .fault _ _ _ _ _ _ => false
          | _ => true) = doors.flatMap fun x => told x.1 x.2)) ∧
      (u.now, u.pins, u.clock, u.cards, u.roll, u.emu, u.purse, u.journal, u.store, u.image) =
        (s.now, s.pins, s.clock, s.cards, s.roll, s.emu, s.purse, s.journal, s.store, s.image))

/-- R58, R59, R62. The three door timers: a release that ends unconfirmed and a strike confirmation that runs out are one
strike failure; a release with no confirmation awaited ends SECURE; a held-open limit makes HELD-OPEN with its alarm. A
timer that is stopped does not expire. The model's choices in it: log 2. -/
def Obligations.DoorTimersExpire : Prop :=
  ∀ (s : State) (n : Nat), s.supply = true →
    let p := s.portal n
    let at' (timer : Timer) : State := s.withNow (max s.now (timer.start + timer.limit))
    let stopped (st : PortalState) : Portal := { p with
      state := st, releaseTimer := none, heldOpenTimer := none, strikeTimer := none, strikePending := false }
    let alarmed (k : DoorAlarm) (f : FaultKind) (st : PortalState) (t : State) : State :=
      report f { portal := some n } (notify (.doorAlarm n k st s.clock.shipTime) t)
    let failed (timer : Timer) : State :=
      notify (.portalDrive n .relock) (alarmed .strike .strikeFault .secure ((at' timer).setPortal n (stopped .secure)))
    (∀ timer, p.releaseTimer = some timer →
      (p.strikePending = true → exec (.releaseTimerExpiry n) s = .next (failed timer)) ∧
      (p.strikePending = false → exec (.releaseTimerExpiry n) s = .next ((at' timer).setPortal n (stopped .secure)))) ∧
    (∀ timer, p.strikeTimer = some timer → exec (.strikeConfirmExpiry n) s = .next (failed timer)) ∧
    (∀ timer, p.heldOpenTimer = some timer →
      exec (.heldOpenExpiry n) s =
        .next (alarmed .held .doorHeld .heldOpen ((at' timer).setPortal n (stopped .heldOpen)))) ∧
    (p.releaseTimer = none → exec (.releaseTimerExpiry n) s = .next s) ∧
    (p.strikeTimer = none → exec (.strikeConfirmExpiry n) s = .next s) ∧
    (p.heldOpenTimer = none → exec (.heldOpenExpiry n) s = .next s)

/-! ## The presence roll (chapter 4) -/

/-- R22, R35, R82, R150. The settings that a request clamps, the fetch wait in steps of 50 ms, the repeat guard and the hold
time, with the value in force in the reply; and ROLLOVER-SET, which refuses an offset above 86,399, and where the computed
day does not pass the current one changes nothing else. The model's choices in it: log 13. -/
def Obligations.SettingsTaken : Prop :=
  (∀ (s : State) (h : Hdr) (v : Nat),
    (s.Accepts h 2 → exec (.fetchWaitSet h v) s = .next
      ((s.withCards { s.cards with fetchWait := max 50 (min 2000 (50 * (v / 50))) }).replies Kind.fetchWaitSet h .done
        [.n2 (max 50 (min 2000 (50 * (v / 50))))])) ∧
    (s.Accepts h 4 → exec (.guardSet h v) s = .next
      ((s.withRoll { s.roll with guard := max 1 (min 60 v) }).replies Kind.guardSet h .done [.n4 (max 1 (min 60 v))])) ∧
    (s.Accepts h 4 → exec (.holdTimeSet h v) s = .next
      ((s.withPurse { s.purse with holdTime := max 30 (min 900 v) }).replies Kind.holdTimeSet h .done
        [.n4 (max 30 (min 900 v))]))) ∧
  (∀ (s : State) (h : Hdr) (offset : Nat), s.Accepts h 4 →
    (86399 < offset → exec (.rolloverSet h offset) s = .next (s.replies Kind.rolloverSet h .badValue [])) ∧
    (offset ≤ 86399 → s.clock.isSet = false ∨ (s.clock.shipTime - offset) / 86400 ≤ s.clock.day →
      exec (.rolloverSet h offset) s =
        .next ((s.withClock { s.clock with offset := offset }).replies Kind.rolloverSet h .done
          [.n4 offset, .n2 s.clock.day])))

/-- R82, R84 to R87. CAPACITY-SET replaces the three settings and evaluates the warning, CAPACITY-ACK arms it. DEADLINE-SET
replaces the deadline and clears the passed mark; a deadline already reached is taken before the reply; DEADLINE_EVENT
takes a deadline that is due, once, with ALL-ABOARD-MISSING. The model's choices in it: log 13. -/
def Obligations.CapacityAndDeadline : Prop :=
  (∀ (s : State) (h : Hdr),
    (s.Accepts h 0 → exec (.capacityAck h) s = .next
      ((s.withRoll { s.roll with armed := true }).replies Kind.capacityAck h .done [.n1 (yesCode s.roll.standing)])) ∧
    (∀ limit level hysteresis : Nat, s.Accepts h 5 →
      let r := { s.roll with limit := limit, level := level, hysteresis := hysteresis }
      let total := s.roll.aboardGuests + s.roll.aboardCrew
      let t (standing armed : Bool) : State := (s.withRoll { r with standing := standing, armed := armed }).taken Kind.capacitySet h
      let answers (u : State) (standing armed : Bool) : Prop :=
        exec (.capacitySet h limit level hysteresis) s = .next (u.replied Kind.capacitySet h .done
          [.n2 limit, .n2 level, .n1 hysteresis, .n2 total, .n2 s.roll.departures, .n1 (yesCode standing), .n1 (yesCode armed)])
      let ok : Prop := limit ≤ 8191 ∧ level ≤ 8191 ∧ hysteresis ≤ 255
      (¬ ok → exec (.capacitySet h limit level hysteresis) s = .next (s.replies Kind.capacitySet h .badValue [])) ∧
      (ok → s.roll.standing = false → total < level → answers (t false s.roll.armed) false s.roll.armed) ∧
      (ok → s.roll.standing = false → level ≤ total → s.roll.armed = false → answers (t true false) true false) ∧
      (ok → s.roll.standing = false → level ≤ total → s.roll.armed = true →
        answers (notify (.capacityWarning total s.roll.aboardGuests s.roll.aboardCrew level limit s.clock.shipTime) (t true false))
          true false) ∧
      (ok → s.roll.standing = true → total < level → total + hysteresis ≤ level →
        answers (t false s.roll.armed) false s.roll.armed) ∧
      (ok → s.roll.standing = true → level ≤ total ∨ (0 < total ∧ level < total + hysteresis) →
        answers (t true s.roll.armed) true s.roll.armed))) ∧
  (∀ (s : State),
    let total := s.roll.aboardGuests + s.roll.aboardCrew
    let missing (time : Nat) (t : State) : State :=
      notify (.allAboardMissing time s.clock.shipTime s.roll.ashoreGuests s.roll.ashoreCrew total) t
    (∀ (h : Hdr) (deadline : Option Nat), s.Accepts h 5 →
      let moved (passed : Bool) := s.withRoll { s.roll with deadline := deadline, passed := passed }
      (∀ time, deadline = some time → s.clock.isSet = true → time ≤ s.clock.shipTime →
        exec (.deadlineSet h deadline) s = .next ((missing time ((moved true).taken Kind.deadlineSet h)).replied
          Kind.deadlineSet h .done [.n1 1, .n4 time, .n1 1])) ∧
      (deadline = none → exec (.deadlineSet h deadline) s = .next
        ((moved false).replies Kind.deadlineSet h .done [.n1 0, .n4 0, .n1 0])) ∧
      (∀ time, deadline = some time → s.clock.isSet = false ∨ s.clock.shipTime < time →
        exec (.deadlineSet h deadline) s = .next
          ((moved false).replies Kind.deadlineSet h .done [.n1 1, .n4 time, .n1 0]))) ∧
    (s.supply = true →
      (∀ time, s.roll.deadline = some time → s.clock.isSet = true → s.roll.passed = false → time ≤ s.clock.shipTime →
        exec .deadlineEvent s = .next (missing time (s.withRoll { s.roll with passed := true }))) ∧
      ((s.clock.isSet = false ∨ s.roll.passed = true ∨ ∀ time, s.roll.deadline = some time → s.clock.shipTime < time) →
        exec .deadlineEvent s = .next s)))

/-- R72, R83, R88 to R91. ENROL, DISCHARGE and PRESENCE-SET make their checks in order, the first that fails naming the refusal,
with CAPACITY-REFUSED at CAPACITY; a PRESENCE-SET to the state the person has is DONE at once. One that passes them changes
the slot and waits for its write. That the DONE at once carries the fields of R88's other DONE is the model's choice (log 41). The
model's choices in it: log 13, 41. -/
def Obligations.RollCorrected : Prop :=
  ∀ (s : State) (h : Hdr) (n : Nat),
    let p := s.person n
    let changes (kind : Nat) (c : Instr) (new : PersonSlot) : Prop :=
      ∃ t, exec c s = .next t ∧ SlotChanged s t n new .correction ⟨kind, h.tag⟩ ∧ t.cards = s.cards
    let turned (kind : Nat) (c : Instr) (checks : State → List (Prop × Result × List Fld × State)) : Prop :=
      ∀ r fs u, FirstOf (checks (s.taken kind h)) (r, fs, u) → exec c s = .next (u.replied kind h r fs)
    (∀ kind state, s.Accepts h 4 →
      turned Kind.enrol (.enrol h n kind state) (enrolChecks s h n kind state) ∧
      (NoneOf (enrolChecks s h n kind state s) → ∀ k st, personKinds[kind]? = some k →
        (state = 1 ∧ st = .aboard) ∨ (state = 2 ∧ st = .ashore) →
        changes Kind.enrol (.enrol h n kind state) ⟨st, k, none, 0, none⟩)) ∧
    (s.Accepts h 2 →
      turned Kind.discharge (.discharge h n) (dischargeChecks s h n) ∧
      (NoneOf (dischargeChecks s h n s) →
        changes Kind.discharge (.discharge h n) { p with state := .unlisted, lastLane := none, mark := none })) ∧
    (∀ state, s.Accepts h 3 →
      turned Kind.presenceSet (.presenceSet h n state) (presenceChecks s h n state) ∧
      (NoneOf (presenceChecks s h n state s) →
        (state = 1 → changes Kind.presenceSet (.presenceSet h n 1) { p with state := .aboard, lastLane := none }) ∧
        (state = 2 → changes Kind.presenceSet (.presenceSet h n 2) { p with state := .ashore, lastLane := none, mark := none })))

/-- R38, R73 to R79, R83, R111, R112. A card that hits and passes every check at a gangway lane makes its crossing: the slot moves,
the lane and ship time are kept, and the reply waits for the slot's write. The checks are made in order, the first that fails
naming the refusal, with LANE-ANOMALY at ALREADY-ASHORE and ALREADY-ABOARD and CAPACITY-REFUSED at CAPACITY. At a muster station
with a muster active a card that passes its checks marks the person, who comes aboard if found ashore, and the reply waits for the
write too; a person marked already is REPEAT. The model's choices in it: log 24. -/
def Obligations.CrossingAccepted : Prop :=
  (∀ (s : State) (h : Hdr) (lane card gen w : Nat) (e : CardEntry) (d : LaneDirection), s.Accepts h 6 →
    let p := s.portal lane
    let q := s.person e.person
    s.clock.isSet = true → p.cls = some .gangway → p.disabled = false → p.direction = some d → gen ≤ 15 → card ≠ 0 →
    s.Holds card w e → e.suspect = false → e.codeDiff = 0 → e.gen = gen → e.revoked = false →
    e.validFrom ≤ s.clock.shipTime → s.clock.shipTime ≤ e.validUntil → s.emu.record.active = false → s.emu.latch = false →
    ¬ (q.lastLane = some lane ∧ q.lastTime ≤ s.clock.shipTime ∧ s.clock.shipTime < q.lastTime + s.roll.guard) →
    s.beforeImage e.person = none → s.store.queue.length < 8 →
    let set := setIndex card
    let hit := if s.pointer set = w then s.setPointer set ((w + 1) % 4) else s
    let crosses (new : PersonSlot) (way : Direction) (late : Bool) : Prop :=
      ∃ t, exec (.present h lane card gen) s = .next t ∧ t.cards = hit.cards ∧
        SlotChanged s t e.person { new with lastTime := s.clock.shipTime, lastLane := some lane }
          (.crossing lane card way late) ⟨Kind.present, h.tag⟩
    (q.state = .aboard → d ≠ .inbound → s.roll.passed = false →
      crosses { q with state := .ashore, mark := none } .outbound false) ∧
    (q.state = .ashore → d ≠ .outbound →
      s.roll.aboardGuests + s.roll.aboardCrew + s.roll.departures + 1 ≤ s.roll.limit →
      crosses { q with state := .aboard } .inbound s.roll.passed)) ∧
  (∀ (s : State) (h : Hdr) (lane card gen w : Nat) (e : CardEntry) (d : LaneDirection), s.Accepts h 6 →
    let p := s.portal lane
    let n := e.person
    let hit := (s.afterHit card w).taken Kind.present h
    let pr : Presentation := ⟨h.tag, lane, card, gen, .gangway⟩
    s.clock.isSet = true → p.cls = some .gangway → p.disabled = false → p.direction = some d → s.Hits card gen w e → e.gen = gen →
    ∀ r way u, FirstOf (laneChecks s hit lane card d e) (r, way, u) → exec (.present h lane card gen) s =
      .next (u.transmits [pr.frame { decisionFor pr r (some n) s with direction := way }])) ∧
  (∀ (s : State) (h : Hdr) (portal card gen w : Nat) (e : CardEntry), s.Accepts h 6 →
    let p := s.portal portal
    let n := e.person
    let q := s.person n
    let pr : Presentation := ⟨h.tag, portal, card, gen, .muster⟩
    s.clock.isSet = true → p.cls = some .muster → p.disabled = false → s.emu.record.active = true → s.Hits card gen w e →
    e.gen = gen →
    (∀ r, FirstOf (musterChecks s e) r → exec (.present h portal card gen) s =
      .next (((s.afterHit card w).taken Kind.present h).transmits [pr.frame (decisionFor pr r (some n) s)])) ∧
    (NoneOf (musterChecks s e) → ∃ t, exec (.present h portal card gen) s = .next t ∧ t.cards = (s.afterHit card w).cards ∧
      t.emu.mustered = s.emu.mustered + 1 ∧ t.station p.station = s.station p.station + 1 ∧
      SlotChanged s t n { q with
        state := .aboard, lastLane := if q.state = .ashore then none else q.lastLane, mark := some p.station }
        (.mark portal card (q.state = .ashore)) ⟨Kind.present, h.tag⟩))

/-- R80, R81, R88, R113, R177, R180, R182. The write of a slot ends: completed, the change stands, the image holds the record the
write carried, LATE-RETURN tells a late return and PRESENCE-CONFLICT a mark of a person found ashore, and its request is answered
ADMIT or DONE; failed after its repeat, the slot takes back its before image, the image keeps the old record, and the request is
answered STORE-FAULT. The image's other records stand. That the marker's own writes move no count of the store is the model's choice
(log 45). The model's choices in it: log 4, 45. -/
def Obligations.SlotWriteEnds : Prop :=
  ∀ (s t : State) (n : Nat) (x : SlotRecord) (cause : SlotCause) (awaits : Option ReqId) (rest : List StoreReq) (c : WriteContent)
    (second ok : Bool) (old : PersonSlot), s.supply = true → s.store.queue = .slot n x cause awaits :: rest →
    s.store.write = some ⟨c, second⟩ → s.beforeImage n = some old → ok = true ∨ second = true →
    exec (.storeAttemptEnd ok) s = .next t →
    t.person n = (if ok then s.person n else old) ∧ (∀ m, m ≠ n → t.person m = s.person m) ∧ t.beforeImage n = none ∧
    t.roll.departures = s.roll.departures - (if old.state = .aboard ∧ (s.person n).state ≠ .aboard then 1 else 0) ∧
    t.store.queue = rest ∧ t.store.write = none ∧
    t.store.faults = (if ok then s.store.faults else min 65535 (s.store.faults + 1)) ∧
    (∀ id, awaits = some id → ∃ (ns : List Notice) (b : Body), t.link.tx = s.link.tx ++ ns.map Frame.notice ++ [.reply id b 0] ∧
      match cause with
      | .correction => ∃ fs, b = .plain (if ok then .done else .storeFault) fs
      | _ => ∃ d, b = .decision d ∧ d.outcome = (if ok then .admitted else .storeFault) ∧ d.person = some n) ∧
    (ok = true → s.NoticeRoom 3 → ∃ (before after : List Notice) (answers : List Frame),
      let told : List Notice := match cause with
        | .crossing lane card .inbound true =>
          [.lateReturn lane card n (s.person n).kind (s.person n).lastTime s.roll.ashoreGuests s.roll.ashoreCrew]
        | .mark portal card true => [.presenceConflict portal card n .ashore]
        | _ => []
      t.link.tx = s.link.tx ++ (before ++ told ++ after).map Frame.notice ++ answers ∧
      (∀ x ∈ before ++ after, ∃ k time fields count replaced, x = .fault k .alert time fields count replaced) ∧
      (∀ x ∈ answers, ∃ id b, x = .reply id b 0)) ∧
    (∀ m y, c = .slot m y →
      Table.read defaultSlotRecord t.image.slots m = (if ok then y else Table.read defaultSlotRecord s.image.slots m) ∧
      (∀ k, k ≠ m → Table.read defaultSlotRecord t.image.slots k = Table.read defaultSlotRecord s.image.slots k) ∧
      { t.image with slots := [], marker := none } = { s.image with slots := [], marker := none })

/-! ## Emergency and muster (chapter 5) -/

/-- R96, R97, R99, R103, R104. A change of a line's raw level starts, keeps or discards the pending change, and DEBOUNCE_EXPIRY
gives the debounced level the raw one; a condition that becomes true is one event, and so is one that becomes false. Before READY
the raw level alone is followed. ALARM-SET refuses what is no yes or no, clamps the debounce, and is in force at once: a pending change
that has held for the new debounce ends, and the condition may rise or fall. The source states of EMERGENCY-STATE are the model's
choice (log 41). The model's choices in it: log 2, 13, 23, 26, 41. -/
def Obligations.AlarmLinesFiltered : Prop :=
  (∀ (s : State) (l : AlarmLine),
    let f := s.emu.line l
    let put (t : State) (f : LineFilter) : State := t.withEmu (t.emu.setLine l f)
    let same (t : State) : Prop := conditionNow t.emu = t.emu.condition
    (∀ high, s.supply = false ∨ s.starting = true →
      exec (.alarmLineChange l high) s = .next (put s { f with rawActive := !high })) ∧
    (∀ high, s.supply = true → s.starting = false → (∀ t, f.since = some t → s.now < t + s.emu.debounce) →
      ((!high) = f.active → exec (.alarmLineChange l high) s = .next (put s { f with rawActive := !high, since := none })) ∧
      ((!high) ≠ f.active → 0 < s.emu.debounce →
        exec (.alarmLineChange l high) s = .next (put s { f with rawActive := !high, since := some (f.since.getD s.now) })) ∧
      ((!high) ≠ f.active → s.emu.debounce = 0 → f.since = none →
        let moved := put s { f with rawActive := !high, active := !high, since := none }
        (same moved → exec (.alarmLineChange l high) s = .next moved) ∧
        (s.Canonical → s.emu.condition = false → conditionNow moved.emu = true →
          ∃ t, exec (.alarmLineChange l high) s = .next t ∧ ConditionRose moved t []) ∧
        (s.Canonical → s.emu.condition = true → conditionNow moved.emu = false →
          ∃ t, exec (.alarmLineChange l high) s = .next t ∧ ConditionFell moved t []))) ∧
    (s.supply = true → f.since = none → exec (.debounceExpiry l) s = .next s) ∧
    (∀ t, s.supply = true → f.since = some t →
      let moved := put (s.withNow (max s.now (t + s.emu.debounce))) { f with active := f.rawActive, since := none }
      (same moved → exec (.debounceExpiry l) s = .next moved) ∧
      (conditionNow moved.emu = true → s.emu.condition = false → (∀ n, (s.portal n).preset = .normal) →
        Table.wf defaultPortal s.ptu.portals = true → s.emu.startsMuster = false ∨ s.emu.record.active = true →
        let risen := moved.withEmu { moved.emu with condition := true, latch := true }
        exec (.debounceExpiry l) s = .next (notify (.emergencyState true true risen.emu.lineA.source risen.emu.lineB.source
          risen.emu.declared s.clock.shipTime) risen)))) ∧
  (∀ (s : State) (h : Hdr) (enableA enableB debounce starts : Nat), s.Accepts h 5 →
    let c := Instr.alarmSet h enableA enableB debounce starts
    let ms := min 1000 debounce
    (1 < enableA ∨ 1 < enableB ∨ 1 < starts → exec c s = .next (s.replies Kind.alarmSet h .badValue [])) ∧
    (∀ a b m : Bool, enableA = yesCode a → enableB = yesCode b → starts = yesCode m →
      let settled (f : LineFilter) : LineFilter :=
        if f.since.any fun t => t + ms ≤ s.now then { f with active := f.rawActive, since := none } else f
      let lineA := { settled s.emu.lineA with enabled := a }
      let lineB := { settled s.emu.lineB with enabled := b }
      let set := s.withEmu { s.emu with lineA := lineA, lineB := lineB, debounce := ms, startsMuster := m }
      let fields (condition : Bool) : List Fld := [.n1 enableA, .n1 enableB, .n2 ms, .n1 starts,
        .n1 (if lineA.rawActive then 0 else 1), .n1 (if lineA.active then 0 else 1),
        .n1 (if lineB.rawActive then 0 else 1), .n1 (if lineB.active then 0 else 1), .n1 (yesCode condition)]
      let told (condition : Bool) : List Frame := [.reply ⟨Kind.alarmSet, h.tag⟩ (.plain .done (fields condition)) 0]
      (conditionNow set.emu = s.emu.condition → exec c s = .next (set.replies Kind.alarmSet h .done (fields s.emu.condition))) ∧
      (s.Canonical → s.emu.condition = false → conditionNow set.emu = true →
        ∃ t, exec c s = .next t ∧ ConditionRose (set.taken Kind.alarmSet h) t (told true)) ∧
      (s.Canonical → s.emu.condition = true → conditionNow set.emu = false →
        ∃ t, exec c s = .next t ∧ ConditionFell (set.taken Kind.alarmSet h) t (told false)))) ∧
  (∀ (s : State) (l : AlarmLine) (since : Nat), s.supply = true → (s.emu.line l).since = some since → s.Canonical →
    let f := s.emu.line l
    let moved := s.withNow (max s.now (since + s.emu.debounce))
    let moved := moved.withEmu (moved.emu.setLine l { f with active := f.rawActive, since := none })
    (s.emu.condition = false → conditionNow moved.emu = true →
      ∃ t, exec (.debounceExpiry l) s = .next t ∧ ConditionRose moved t []) ∧
    (s.emu.condition = true → conditionNow moved.emu = false →
      ∃ t, exec (.debounceExpiry l) s = .next t ∧ ConditionFell moved t []))

/-- R98 to R100, R102 to R104, R109. EMERGENCY-DECLARE ON with the condition false: the condition and the latch hold, every
door whose preset is not NORMAL is in EMERGENCY with its timers stopped, a muster starts if alarms start one, and
EMERGENCY-STATE leads the notices ahead of the reply: the cleared alarm and the drive of each such door, ascending, and MUSTER-STATE. OFF with no line's source holding ends a condition that is true: the latch
stays, EMERGENCY-STATE is sent, and every door in EMERGENCY with auto-resume is placed, with RELOCK for a RELEASE preset; with a
line's source holding, or the condition false already, the declaration alone changes. The source states of EMERGENCY-STATE are the
model's choice (log 41). The model's choices in it: log 13, 23, 41. -/
def Obligations.EmergencyDeclared : Prop :=
  (∀ (s : State) (h : Hdr), s.Accepts h 1 →
    (∀ value, 1 < value → exec (.emergencyDeclare h value) s = .next (s.replies Kind.emergencyDeclare h .badValue [])) ∧
    (s.emu.condition = true → exec (.emergencyDeclare h 0) s = .next
      ((s.withEmu { s.emu with declared := true }).replies Kind.emergencyDeclare h .done [.n1 1, .n1 (yesCode s.emu.latch)])) ∧
    (s.emu.condition = false → s.Canonical →
      let musters : Prop := s.emu.startsMuster = true ∧ s.emu.record.active = false
      ∃ t, exec (.emergencyDeclare h 0) s = .next t ∧
        t.emu.declared = true ∧ t.emu.condition = true ∧ t.emu.latch = true ∧
        (∀ n, let p := s.portal n
          t.portal n = if p.isDoor = true ∧ p.preset ≠ .normal ∧ p.state ≠ .emergency then { p with
            state := .emergency, releaseTimer := none, heldOpenTimer := none, strikeTimer := none, strikePending := false,
            captured := if p.state = .secure then s.timing p.timingSet else p.captured } else p) ∧
        (musters → t.emu.record.active = true ∧ t.emu.record.startedAt = s.clock.shipTime ∧ t.emu.cause = some .alarm ∧
          t.emu.mustered = 0 ∧ ∀ m, t.person m = { s.person m with mark := none }) ∧
        (¬ musters → t.roll = s.roll ∧ t.store = s.store ∧ t.emu.record = s.emu.record) ∧
        (s.NoticeRoom 1 → ∃ ns : List Notice, t.link.tx = s.link.tx ++ [.notice (.emergencyState true true
          (s.emu.lineA.enabled && s.emu.lineA.active) (s.emu.lineB.enabled && s.emu.lineB.active) true s.clock.shipTime)] ++
            ns.map Frame.notice ++ [.reply ⟨Kind.emergencyDeclare, h.tag⟩ (.plain .done [.n1 1, .n1 1]) 0]) ∧
        t.cards = s.cards ∧ t.purse = s.purse ∧ t.journal = s.journal ∧ t.clock = s.clock ∧
        ConditionRose ((s.withEmu { s.emu with declared := true }).taken Kind.emergencyDeclare h) t
          [.reply ⟨Kind.emergencyDeclare, h.tag⟩ (.plain .done [.n1 1, .n1 1]) 0])) ∧
  (∀ (s : State) (h : Hdr), s.Accepts h 1 →
    let lines : Bool := (s.emu.lineA.enabled && s.emu.lineA.active) || (s.emu.lineB.enabled && s.emu.lineB.active)
    let off := s.withEmu { s.emu with declared := false }
    (s.emu.condition = lines → exec (.emergencyDeclare h 1) s = .next (off.replies Kind.emergencyDeclare h .done
      [.n1 (yesCode s.emu.condition), .n1 (yesCode s.emu.latch)])) ∧
    (s.emu.condition = true → lines = false → s.Canonical → ∃ t, exec (.emergencyDeclare h 1) s = .next t ∧
      ConditionFell (off.taken Kind.emergencyDeclare h) t
        [.reply ⟨Kind.emergencyDeclare, h.tag⟩ (.plain .done [.n1 0, .n1 (yesCode s.emu.latch)]) 0]))

/-- R99, R101. EMERGENCY-CLEAR: refused BUSY while the condition is true; otherwise a set latch is cleared with EMERGENCY-STATE,
and the reply is DONE. It moves no door and ends no muster. The source states of EMERGENCY-STATE are the model's choice (log 41). The
model's choices in it: log 41. -/
def Obligations.LatchCleared : Prop :=
  ∀ (s : State) (h : Hdr), s.Accepts h 0 →
    let e := s.emu
    (e.condition = true → exec (.emergencyClear h) s = .next (s.replies Kind.emergencyClear h .busy [])) ∧
    (e.condition = false → e.latch = true → exec (.emergencyClear h) s = .next
      ((notify (.emergencyState false false (e.lineA.enabled && e.lineA.active) (e.lineB.enabled && e.lineB.active) e.declared
        s.clock.shipTime) ((s.withEmu { e with latch := false }).taken Kind.emergencyClear h)).replied
          Kind.emergencyClear h .done [])) ∧
    (e.condition = false → e.latch = false → exec (.emergencyClear h) s = .next (s.replies Kind.emergencyClear h .done []))

/-- R105. RESUME while the condition is true is BUSY. Otherwise it places the named door in EMERGENCY, or every one in
ascending portal number, with RELOCK for each RELEASE preset, and answers with the number resumed; a named portal that is no door is NOT-DOOR.
That a scope byte above 1 is BAD-VALUE even then, ahead of BUSY, is the model's choice (log 44). The model's choices in it: log 13,
44. -/
def Obligations.DoorsResumed : Prop :=
  ∀ (s : State) (h : Hdr) (n : Nat), s.Accepts h 2 →
    let p := s.portal n
    let answers (scope : Nat) (r : Result) (fs : List Fld) : Prop :=
      exec (.resume h scope n) s = .next (s.replies Kind.resume h r fs)
    let placed (p : Portal) : Portal := { p with
      state := if p.disabled then .outOfService else .secure, releaseTimer := none, heldOpenTimer := none, strikeTimer := none,
      strikePending := false }
    (∀ scope, 1 < scope → answers scope .badValue []) ∧
    (∀ scope, scope ≤ 1 → s.emu.condition = true → answers scope .busy []) ∧
    (s.emu.condition = false →
      (p.isDoor = false → answers 0 .notDoor []) ∧
      (p.isDoor = true → p.state ≠ .emergency → answers 0 .done [.n2 0, .n1 255]) ∧
      (p.isDoor = true → p.state = .emergency →
        let back := (s.setPortal n (placed p)).taken Kind.resume h
        exec (.resume h 0 n) s = .next ((if p.preset = .release then notify (.portalDrive n .relock) back else back).replied
          Kind.resume h .done [.n2 1, .n1 (if p.disabled then 6 else 0)])) ∧
      (s.Canonical → ∃ t, exec (.resume h 1 n) s = .next t ∧
        (∀ m, let q := s.portal m
          t.portal m = if q.isDoor = true ∧ q.state = .emergency then placed q else q) ∧
        (∃ ns : List Notice, t.link.tx = s.link.tx ++ ns.map Frame.notice ++ [.reply ⟨Kind.resume, h.tag⟩ (.plain .done
          [.n2 (s.ptu.portals.filter fun x => x.2.isDoor && x.2.state = .emergency).length, .n1 255]) 0] ∧
          (s.NoticeRoom (relocks (fun _ => true) s).length → ns = relocks (fun _ => true) s)) ∧
        t.emu = s.emu ∧ t.roll = s.roll ∧ t.cards = s.cards ∧ t.purse = s.purse ∧ t.store = s.store))

/-- R106 to R110. MUSTER-START raises the muster number and MUSTER-END ends an active muster: each clears every mark and
count, queues one record write and waits for it. An end with no muster active is answered at once, and a full queue with no
record write in it is STORE-BUSY. The model's choices in it: log 13, 32, 42. -/
def Obligations.MusterStartsAndEnds : Prop :=
  ∀ (s : State) (h : Hdr), s.Accepts h 0 →
    let r := s.emu.record
    let waiting : Prop := .muster ∈ s.store.queue
    let cleared (t : State) : Prop :=
      (∀ m, t.person m = { s.person m with mark := none }) ∧
      (∀ m, t.beforeImage m = (s.beforeImage m).map fun p => { p with mark := none }) ∧
      (∀ k, t.station k = 0) ∧ t.emu.mustered = 0 ∧ t.emu.outstanding = true
    let queues (k number : Nat) (t : State) : Prop :=
      t.store.queue = (if .muster ∈ s.store.queue then s.store.queue else s.store.queue ++ [.muster]) ∧
      t.emu.waiters.map (fun w => (w.id, w.number)) = s.emu.waiters.map (fun w => (w.id, w.number)) ++ [(⟨k, h.tag⟩, number)] ∧
      (∃ ns : List Notice, t.link.tx = s.link.tx ++ ns.map Frame.notice) ∧
      t.cards = s.cards ∧ t.ptu = s.ptu ∧ t.purse = s.purse ∧ t.journal = s.journal ∧ t.clock = s.clock
    (¬ waiting → 8 ≤ s.store.queue.length → exec (.musterStart h) s = .next (s.replies Kind.musterStart h .storeBusy [])) ∧
    (waiting ∨ s.store.queue.length < 8 → s.Canonical →
      let number := if r.number < 4294967295 then r.number + 1 else 1
      ∃ t, exec (.musterStart h) s = .next t ∧ t.emu.record = ⟨true, number, s.clock.shipTime⟩ ∧ t.emu.cause = some .host ∧
        cleared t ∧ queues Kind.musterStart number t) ∧
    (r.active = false → exec (.musterEnd h) s = .next
      (s.replies Kind.musterEnd h .done [.n4 r.number, .n1 (if s.emu.outstanding then 0 else 1)])) ∧
    (r.active = true → ¬ waiting → 8 ≤ s.store.queue.length →
      exec (.musterEnd h) s = .next (s.replies Kind.musterEnd h .storeBusy [])) ∧
    (r.active = true → waiting ∨ s.store.queue.length < 8 → s.Canonical →
      ∃ t, exec (.musterEnd h) s = .next t ∧ t.emu.record = ⟨false, r.number, r.startedAt⟩ ∧ cleared t ∧
        queues Kind.musterEnd r.number t)

/-! ## Charges, folios and holds (chapters 6 and 7) -/

/-- R127, R128, R152. The net is the subtotal less the discount rounded down, the gratuity the nearest minor unit with a half
up, the total their sum; and a final subtotal no larger than the held one gives a total no larger. -/
def Obligations.ChargeComputed : Prop :=
  ∀ subtotal discount gratuity : Nat, discount ≤ 5000 →
    let c := chargeOf subtotal discount gratuity
    c.net ≤ subtotal ∧ 10000 * (subtotal - c.net) ≤ subtotal * discount ∧ subtotal * discount < 10000 * (subtotal - c.net + 1) ∧
    subtotal ≤ 2 * c.net ∧ (0 < subtotal → 0 < c.net) ∧
    2 * (c.net * gratuity) < 10000 * (2 * c.gratuity + 1) ∧ 10000 * (2 * c.gratuity) ≤ 2 * (c.net * gratuity) + 10000 ∧
    c.total = c.net + c.gratuity ∧
    (subtotal ≤ 999999 → gratuity ≤ 2500 → c.total ≤ (chargeOf 999999 0 2500).total) ∧ (chargeOf 999999 0 2500).total = 1249999 ∧
    (∀ final, final ≤ subtotal → (chargeOf final discount gratuity).total ≤ c.total)

/-- R38, R118 to R132, R149, R210. An AUTHORIZE that passes every check creates a hold in the lowest free slot: the folio's
exposure and the card's counters and hold count rise, and the reply is APPROVED with the hold number, SIGN at tier 1, the
amounts and the tier. The checks at the hand-back are made in order and the first that fails names the refusal, which carries the
person and the folio, from the arithmetic on its sums, and the tier or the room its rule names; JOURNAL-FULL is recorded as a
fault. The model's choices in it: log 24. -/
def Obligations.ChargeApproved : Prop :=
  (∀ (s : State) (h : Hdr) (portal card gen w slot : Nat) (a : ChargeAmounts) (e : CardEntry), s.Accepts h 12 →
    let f := s.folio e.folio
    let rates := classRow s.purse.active e.cls
    let gratuity := s.purse.active.gratuity.getD a.gratuityClass 0
    let c := chargeOf a.subtotal rates.discount gratuity
    let today : Bool := e.dayStamp = s.clock.day
    let spend := if today then e.daySpend else 0
    let alcohol := if today then e.dayAlcohol else 0
    let tier := [rates.b1, rates.b2, rates.b3, rates.b4].countP (· ≤ spend + c.total)
    -- the checks before the charge
    s.clock.isSet = true → s.emu.latch = false → (s.portal portal).cls = some .terminal → (s.portal portal).disabled = false →
    gen ≤ 15 → card ≠ 0 → s.Holds card w e → e.suspect = false → e.codeDiff = 0 → e.gen = gen → e.revoked = false →
    e.validFrom ≤ s.clock.shipTime → s.clock.shipTime ≤ e.validUntil → e.chargeEnabled = true →
    (s.person e.person).state = .aboard → f.state = .opened →
    -- the amounts and the five judgements
    1 ≤ a.subtotal → a.subtotal ≤ 999999 → a.alcohol ≤ 15 → a.gratuityClass ≤ 7 →
    (a.alcohol = 0 ∨ e.drinkingAge = true) → alcohol + a.alcohol ≤ rates.alcoholCap → spend + c.total ≤ e.cap →
    (c.total : Int) ≤ f.limit - f.balance - f.exposure →
    (tier ≤ 1 ∨ (tier = 2 ∧ a.pinVerified = true) ∨ (tier = 3 ∧ a.staffOverride = true)) →
    -- the room for a hold
    slot < 32 → (s.holdSlot slot).body = .free → (∀ n < slot, (s.holdSlot n).body ≠ .free) → e.holdCount < 2 →
    (openHolds s).length + s.journal.entries.length < 512 →
    s.clock.shipTime < 4294967295 → 0 < s.purse.holdTime →
    let reuse := ((s.holdSlot slot).reuse + 1) % 8
    let set := setIndex card
    let hit := if s.pointer set = w then s.setPointer set ((w + 1) % 4) else s
    let hold : Hold := ⟨portal, card, e.person, e.folio, a.subtotal, c.total, a.alcohol, rates.discount, gratuity, s.clock.day⟩
    let held := ((hit.setHoldSlot slot { s.holdSlot slot with
        body := .held hold (min 4294967295 (s.clock.shipTime + s.purse.holdTime)), reuse := reuse }).setFolio e.folio
      { f with exposure := f.exposure + c.total }).setEntry set w (some { e with
        dayStamp := s.clock.day, daySpend := min 16777215 (spend + c.total), dayAlcohol := min 255 (alcohol + a.alcohol),
        holdCount := e.holdCount + 1, codeDiff := 0 })
    exec (.authorize h portal card gen a) s = .next ((held.taken Kind.authorize h).transmits
      [.reply ⟨Kind.authorize, h.tag⟩ (.decision
        { outcome := .approved, portal := portal, person := some e.person, folio := some e.folio, hold := some (32 * reuse + slot),
          sign := tier = 1, amounts := true, net := c.net, gratuity := c.gratuity, total := c.total, tier := tier }) 0])) ∧
  (∀ (s : State) (h : Hdr) (portal card gen w : Nat) (a : ChargeAmounts) (e : CardEntry), s.Accepts h 12 →
    let hit := (s.afterHit card w).taken Kind.authorize h
    s.clock.isSet = true → s.emu.latch = false → (s.portal portal).cls = some .terminal → (s.portal portal).disabled = false →
    s.Hits card gen w e → e.gen = gen →
    ∀ d u, FirstOf (chargeChecks s hit h portal card a e) (d, u) → exec (.authorize h portal card gen a) s =
      .next (u.transmits [.reply ⟨Kind.authorize, h.tag⟩ (.decision d) 0]))

/-- R151, R152, R165. COMMIT names its hold by slot and reuse counter, refuses what it cannot take with nothing changed, and
otherwise queues the append and makes the hold COMMITTING with the recomputed charge. Whether a number is left for the append once
those queued before it have taken theirs is the model's reading of R165 (log 19, DEDUCED): 4,294,967,295 is still a number, and
where the appends that have no number yet take the last ones the commit is JOURNAL-FULL. The model's choices in it: log 13, 19. -/
def Obligations.HoldCommits : Prop :=
  ∀ (s : State) (h : Hdr) (number subtotal alcohol : Nat), s.Accepts h 5 →
    let c := Instr.commit h number subtotal alcohol
    let x := s.holdSlot (number % 32)
    let refused (r : Result) : Prop := exec c s = .next (s.replies Kind.commit h r [.n1 number])
    (x.body = .free → x.reuse = number / 32 → x.lastEnd = .expired → refused .tooLate) ∧
    (x.body = .free → x.reuse ≠ number / 32 ∨ x.lastEnd ≠ .expired → refused .unknownHold) ∧
    (x.body ≠ .free → x.reuse ≠ number / 32 → refused .unknownHold) ∧
    (∀ hold part, x.body = .committing hold part → x.reuse = number / 32 → refused .holdBusy) ∧
    (∀ hold expiry, x.body = .held hold expiry → x.reuse = number / 32 →
      let inRange : Prop := 0 < subtotal ∧ subtotal ≤ 999999 ∧ alcohol ≤ 15
      let within : Prop := subtotal ≤ hold.subtotal ∧ alcohol ≤ hold.alcohol
      (¬ inRange → refused .badAmount) ∧ (inRange → ¬ within → refused .overHold) ∧
      (∀ next, inRange → within → s.journal.next = some next →
        next + (s.store.queue.countP fun r => match r with | .entry _ _ _ => true | _ => false) ≤ 4294967295 →
        (8 ≤ s.store.queue.length → refused .storeBusy) ∧
        (s.store.queue.length < 8 →
          let p := chargeOf subtotal hold.discount hold.gratuity
          exec c s = .next (enqueue (.entry (number % 32)
              ⟨hold.folio, hold.card, hold.person, hold.portal, p.net, p.gratuity, p.total, alcohol⟩ (some ⟨Kind.commit, h.tag⟩))
            ((s.setHoldSlot (number % 32) { x with
              body := .committing hold ⟨subtotal, p.net, p.gratuity, p.total, alcohol, expiry - s.clock.shipTime, false⟩
              }).taken Kind.commit h)))) ∧
      (inRange → within → s.journal.next = none ∨ (∃ next, s.journal.next = some next ∧
          4294967295 < next + ((s.store.queue.drop (if s.store.write.isSome then 1 else 0)).countP fun r => match r with
            | .entry _ _ _ => true
            | _ => false)) →
        exec c s = .next ((report .journalFull
          { portal := some hold.portal, card := some hold.card, person := some hold.person, req := some ⟨Kind.commit, h.tag⟩ }
          (s.taken Kind.commit h)).replied Kind.commit h .journalFull [.n1 number])))

/-- R156 to R158. VOID and HOLD_EXPIRY release a HELD hold: the slot is free with its last end, the folio's exposure falls,
and so do the card's counters of the hold's day and its hold count; an expiry sends HOLD-EXPIRED first and is taken only when
it is due. The model's choices in it: log 13. -/
def Obligations.HoldReleased : Prop :=
  ∀ (s : State) (slot : Nat) (x : Hold) (expiry : Nat), slot < 32 → (s.holdSlot slot).body = .held x expiry →
    (s.holdSlot slot).reuse < 8 → s.Canonical →
    let number := 32 * (s.holdSlot slot).reuse + slot
    let f := s.folio x.folio
    let freed (last : LastEnd) : State :=
      (s.setFolio x.folio { f with exposure := f.exposure - x.total }).setHoldSlot slot
        { s.holdSlot slot with body := .free, lastEnd := last }
    let voids (t : State) : Prop := ∀ h, s.Accepts h 1 →
      exec (.voidHold h number) s = .next (t.replies Kind.voidHold h .done [.n1 number, .n3 x.total, .n1 x.alcohol])
    let expires (t : State) : Prop := s.supply = true → s.clock.isSet = true → expiry ≤ s.clock.shipTime →
      exec (.holdExpiry slot) s = .next (notify (.holdExpired number x.portal x.card x.person x.folio x.total x.alcohol
        s.clock.shipTime .timeout) t)
    (s.Lacks x.card → voids (freed .voided) ∧ expires (freed .expired)) ∧
    (∀ w e, s.Holds x.card w e → e.suspect = false → e.codeDiff = 0 → (s.way w).enabled = true →
      let today : Bool := e.dayStamp = s.clock.day
      let spend := if today then e.daySpend else 0
      let alcohol := if today then e.dayAlcohol else 0
      let counted : Bool := x.day = e.dayStamp
      let card (t : State) : State := t.setEntry (setIndex x.card) w (some { e with
        dayStamp := s.clock.day, daySpend := if counted then min 16777215 (spend - x.total) else spend,
        dayAlcohol := if counted then min 255 (alcohol - x.alcohol) else alcohol, holdCount := e.holdCount - 1, codeDiff := 0 })
      voids (card (freed .voided)) ∧ expires (card (freed .expired))) ∧
    (s.supply = true → s.clock.isSet = false ∨ s.clock.shipTime < expiry → exec (.holdExpiry slot) s = .next s)

/-- R142 to R145. The folio requests, each refusal with nothing changed: a load takes a CLOSED folio's exposure from the
journal and keeps a loaded one's; a post replaces the balance; a freeze and an open move the state; a close unloads a folio
with no exposure. That a post's reply carries the folio's state among its figures is the model's choice (log 41): R143 says only
'the figures and available amount in force'. The model's choices in it: log 13, 41. -/
def Obligations.FoliosManaged : Prop :=
  ∀ (s : State) (h : Hdr) (n : Nat),
    let f := s.folio n
    let figures (code limit : Nat) (balance : Int) (exposure : Nat) : List Fld :=
      [.n1 code, .n3 limit, .i3 balance, .n3 exposure, .i4 ((limit : Int) - balance - exposure)]
    let sum := ((s.journal.entries.filter (·.folio = n)).map (·.total)).sum
    let within (limit : Nat) (balance : Int) : Prop :=
      -8388608 ≤ balance ∧ balance ≤ 8388607 ∧ (limit : Int) - balance ≤ 16777215
    let closed : Prop := f.state = .closed
    let answers (k : Nat) (i : Instr) (t : State) (r : Result) (fs : List Fld) : Prop := exec i s = .next (t.replies k h r fs)
    (∀ (limit : Nat) (balance : Int) (state : Nat), s.Accepts h 9 →
      let loads := answers Kind.folioLoad (.folioLoad h n limit balance state)
      (4095 < n ∨ (state ≠ 1 ∧ state ≠ 2) → loads s .badValue []) ∧
      (∀ st code, n ≤ 4095 → (state = 1 ∧ st = .opened ∧ code = 1) ∨ (state = 2 ∧ st = .frozen ∧ code = 2) →
        (¬ (limit ≤ 16777215 ∧ within limit balance) → loads s .badAmount []) ∧
        (limit ≤ 16777215 → within limit balance →
          (closed → 16777215 < sum → loads s .badAmount []) ∧
          (closed → sum ≤ 16777215 → loads (s.setFolio n ⟨st, limit, balance, sum⟩) .loaded (figures code limit balance sum)) ∧
          (¬ closed → loads (s.setFolio n ⟨st, limit, balance, f.exposure⟩) .updated
            (figures code limit balance f.exposure))))) ∧
    (∀ (balance : Int), s.Accepts h 5 →
      let posts := answers Kind.folioPost (.folioPost h n balance)
      (4095 < n → posts s .badValue []) ∧
      (n ≤ 4095 → closed → posts s .notLoaded []) ∧
      (n ≤ 4095 → ¬ closed → ¬ within f.limit balance → posts s .badAmount []) ∧
      (n ≤ 4095 → ¬ closed → within f.limit balance →
        posts (s.setFolio n { f with balance := balance }) .done
          (figures (if f.state = .opened then 1 else 2) f.limit balance f.exposure))) ∧
    (s.Accepts h 2 →
      (4095 < n → answers Kind.folioFreeze (.folioFreeze h n) s .badValue [] ∧ answers Kind.folioOpen (.folioOpen h n) s .badValue [] ∧
        answers Kind.folioClose (.folioClose h n) s .badValue []) ∧
      (n ≤ 4095 → closed → answers Kind.folioFreeze (.folioFreeze h n) s .notLoaded [] ∧
        answers Kind.folioOpen (.folioOpen h n) s .notLoaded [] ∧ answers Kind.folioClose (.folioClose h n) s .done [.i3 0]) ∧
      (n ≤ 4095 → ¬ closed →
        answers Kind.folioFreeze (.folioFreeze h n) (s.setFolio n { f with state := .frozen }) .done [.n1 2] ∧
        answers Kind.folioOpen (.folioOpen h n) (s.setFolio n { f with state := .opened }) .done [.n1 1] ∧
        (0 < f.exposure → answers Kind.folioClose (.folioClose h n) s .busy []) ∧
        (f.exposure = 0 → answers Kind.folioClose (.folioClose h n) (s.setFolio n ⟨.closed, 0, 0, 0⟩) .done [.i3 f.balance])))

/-- R134 to R136. TARIFF-STAGE validates the tariff as a whole, clamps each rate, counts what it clamped, and makes it the
staged copy or, with apply-now, the active one with no staged copy left. TARIFF-DISCARD empties the staged copy.
The model's choices in it: log 13. -/
def Obligations.TariffStaged : Prop :=
  ∀ (s : State) (h : Hdr),
    let was := yesCode s.purse.staged.isSome
    (s.Accepts h 0 → exec (.tariffDiscard h) s = .next
      ((s.withPurse { s.purse with staged := none }).replies Kind.tariffDiscard h .done [.n1 was])) ∧
    (∀ (t : Tariff) (applyNow : Nat), s.Accepts h 92 →
      let answers (u : State) (r : Result) (fs : List Fld) : Prop :=
        exec (.tariffStage h t applyNow) s = .next (u.replies Kind.tariffStage h r fs)
      let rows := [t.guest, t.youth, t.crew, t.officer, t.visitor]
      let ascends (r : ClassRates) : Prop := r.b1 < r.b2 ∧ r.b2 < r.b3 ∧ r.b3 < r.b4
      let cut (r : ClassRates) : ClassRates := { r with discount := min 5000 r.discount, alcoholCap := min 31 r.alcoholCap }
      let kept : Tariff := ⟨t.gratuity.map (min 2500), cut t.guest, cut t.youth, cut t.crew, cut t.officer, cut t.visitor⟩
      let clamped := t.gratuity.countP (2500 < ·) + rows.countP (5000 < ·.discount) + rows.countP (31 < ·.alcoholCap)
      (1 < applyNow → answers s .badValue []) ∧
      (∀ i r, applyNow ≤ 1 → rows[i]? = some r → ¬ ascends r → (∀ j < i, ∀ x, rows[j]? = some x → ascends x) →
        answers s .badAmount [.n1 i]) ∧
      ((∀ r ∈ rows, ascends r) →
        (applyNow = 0 → answers (s.withPurse { s.purse with staged := some kept }) .done [.n1 1, .n1 was, .n1 clamped]) ∧
        (applyNow = 1 → answers (s.withPurse { s.purse with active := kept, staged := none }) .done
          [.n1 0, .n1 was, .n1 clamped])))

/-! ## The journal and the store (chapters 8 and 9) -/

/-- R170 to R172. SETTLE fixes the head entries at or below its number and queues the settle write, or is BUSY, STORE-BUSY, or
DONE at once with count 0. When the write completes the entries leave the head and their totals move from each loaded
folio's exposure to its balance, which stops at its maximum; when it fails nothing is removed.
The model's choices in it: log 13, 33. -/
def Obligations.JournalSettles : Prop :=
  (∀ (s : State) (h : Hdr) (seq : Nat), s.Accepts h 4 →
    let answers (r : Result) (fs : List Fld) : Prop := exec (.settle h seq) s = .next (s.replies Kind.settle h r fs)
    (s.journal.settle ≠ none → answers .busy []) ∧
    (s.journal.settle = none → (∀ e, s.journal.entries.head? = some e → seq < e.seq) →
      answers .done [.n2 0, .n4 s.image.settledThrough, .n3 0, .n3 0, .n2 0, .n3 0, .n2 s.journal.entries.length]) ∧
    (∀ run last rest, s.journal.settle = none → s.journal.entries = run ++ last :: rest →
      (∀ e ∈ run ++ [last], e.seq ≤ seq) → (∀ e, rest.head? = some e → seq < e.seq) →
      (8 ≤ s.store.queue.length → answers .storeBusy []) ∧
      (s.store.queue.length < 8 →
        exec (.settle h seq) s = .next (enqueue (.settle last.seq (some ⟨Kind.settle, h.tag⟩))
          ((s.withJournal { s.journal with settle := some ⟨run.length + 1, last.seq⟩ }).taken Kind.settle h))))) ∧
  (∀ (s t : State) (x : Settlement) (last : Nat) (awaits : Option ReqId) (rest : List StoreReq) (second ok : Bool), s.supply = true →
    s.store.queue = .settle last awaits :: rest → s.store.write = some ⟨.settle last, second⟩ → s.journal.settle = some x →
    ok = true ∨ second = true → exec (.storeAttemptEnd ok) s = .next t →
    t.journal.settle = none ∧ t.store.queue = rest ∧ t.store.write = none ∧ t.journal.next = s.journal.next ∧
    (ok = false → t.journal.entries = s.journal.entries ∧ t.purse = s.purse ∧ t.image.settledThrough = s.image.settledThrough) ∧
    (ok = true → t.journal.entries = s.journal.entries.drop x.count ∧ t.image.settledThrough = last ∧ t.purse.holds = s.purse.holds ∧
      ∀ n, let f := s.folio n
        let moved : Nat := (((s.journal.entries.take x.count).filter (·.folio = n)).map (·.total)).sum
        t.folio n = if f.state = .closed ∨ (∀ e ∈ s.journal.entries.take x.count, e.folio ≠ n) then f else { f with
          exposure := f.exposure - moved, balance := min 8388607 (f.balance + moved) }))

/-- R164, R165, R179, R180. The request at the head begins its write when no write is under way: its content is fixed from the
working state, the marker names its record, an append takes the next number, and a record write carries every waiter. With a
write under way or an empty queue nothing begins. A request that joins an empty queue begins at once.
The model's choices in it: log 4. -/
def Obligations.WritesBegin : Prop :=
  ∀ (s : State), s.supply = true →
    (s.store.queue = [] ∨ s.store.write ≠ none → exec .storeWriteBegin s = .next s) ∧
    (∀ r rest choice choices, s.store.queue = r :: rest → s.store.write = none → s.choices = choice :: choices → choice % 2 = 0 →
      let begun (t : State) (content : WriteContent) (marker : Marker) : Prop :=
        exec .storeWriteBegin s = .next ((({ t with choices := choices } : State).withStore { s.store with write := some ⟨content, false⟩ }).withImage
          { s.image with marker := some marker })
      (∀ p x cause awaits, r = .slot p x cause awaits → begun s (.slot p x) ⟨.slot, p⟩) ∧
      (∀ last awaits, r = .settle last awaits → begun s (.settle last) ⟨.settle, last⟩) ∧
      (r = .day → begun s (.day s.clock.day) ⟨.day, s.clock.day⟩) ∧
      (r = .muster → begun (s.withEmu { s.emu with waiters := s.emu.waiters.map fun w => { w with carried := true } })
        (.muster s.emu.record) ⟨.muster, s.emu.record.number⟩) ∧
      (∀ slot a awaits n place, r = .entry slot a awaits → s.journal.next = some n → place < 512 →
        placeFree s.image place = true → (∀ q < place, placeFree s.image q = false) →
        let next := if n < 4294967295 then some (n + 1) else none
        begun (s.withJournal { s.journal with next := next })
          (.entry place ⟨n, a.folio, a.card, a.person, a.portal, a.net, a.gratuity, a.total, a.alcohol, s.clock.shipTime,
            s.clock.day⟩ next) ⟨.entry, n⟩)) ∧
    (∀ r, s.store.queue ≠ [] → enqueue r s = s.withStore { s.store with queue := s.store.queue ++ [r] }) ∧
    (∀ r, s.store.queue = [] →
      .next (enqueue r s) = exec .storeWriteBegin (s.withStore { s.store with queue := [r] }))

/-- R34, R108, R153, R154, R161, R166, R180, R181. The attempt of a write ends: a first read-back that disagrees begins the second
attempt of the same content, for which the marker is written again and a choice drawn (log 36, DEDUCED from R180); a day write
that completes stores the day, and one that fails twice is recorded and tried again 60 s later. An append that completes stores
its entry, joins it to the journal's tail and closes the hold, with APPROVED unless the hold is orphaned; one that fails returns the
hold to HELD with the time it had left, or releases an orphaned one as UNBOOKED. A record write answers the requests whose changes
it carried, and is queued again where the record has changed since, or retried after 60 s where it failed. With no write under way
nothing happens. The model's choices in it: log 2, 4, 13, 21, 36, 42. -/
def Obligations.AttemptsEnd : Prop :=
  (∀ (s : State) (ok : Bool), s.supply = true →
    (s.store.queue = [] ∨ s.store.write = none → exec (.storeAttemptEnd ok) s = .next s) ∧
    (∀ r rest content second choice choices, s.store.queue = r :: rest → s.store.write = some ⟨content, second⟩ →
      s.choices = choice :: choices → choice % 2 = 0 →
      let drawn : State := { s with choices := choices }
      (second = false → exec (.storeAttemptEnd false) s = .next
        ((drawn.withStore { s.store with write := some ⟨content, true⟩ }).withImage { s.image with marker := some content.marker })) ∧
      (∀ d, r = .day → content = .day d → d = s.clock.day →
        exec (.storeAttemptEnd true) s = .next (((drawn.withStore { s.store with
            queue := rest, write := none,
            secondAttempts := if second then min 65535 (s.store.secondAttempts + 1) else s.store.secondAttempts }).withImage
          { s.image with day := some d, marker := none }).withClock { s.clock with dayOutstanding := false }) ∧
        (second = true → s.clock.lastFailedDay ≠ some d →
          exec (.storeAttemptEnd false) s = .next
            ((report .storeFault {} ((drawn.withStore { s.store with
                queue := rest, write := none, faults := min 65535 (s.store.faults + 1) }).withImage
              { s.image with marker := none })).withClock
                { s.clock with lastFailedDay := some d, dayRetry := some (s.now + 60000) }))))) ∧
  (∀ (s : State) (slot place : Nat) (a : Append) (awaits : Option ReqId) (rest : List StoreReq) (e : JournalEntry)
    (next : Option Nat) (second : Bool) (x : Hold) (c : CommitPart), s.supply = true → s.Canonical → slot < 32 →
    s.store.queue = .entry slot a awaits :: rest → s.store.write = some ⟨.entry place e next, second⟩ →
    (s.holdSlot slot).body = .committing x c →
    let f := s.folio x.folio
    let number := 32 * (s.holdSlot slot).reuse + slot
    let ended (last : LastEnd) : HoldSlot := { s.holdSlot slot with body := .free, lastEnd := last }
    let kept (t : State) : Prop :=
      t.store.queue = rest ∧ t.store.write = none ∧ t.journal.next = s.journal.next ∧ t.journal.settle = s.journal.settle ∧
      (∀ m, m ≠ slot → t.holdSlot m = s.holdSlot m) ∧ (∀ n, n ≠ x.folio → t.folio n = s.folio n) ∧
      { t.image with entries := [], marker := none } = { s.image with entries := [], marker := none } ∧
      t.clock = s.clock ∧ t.roll = s.roll ∧ t.emu = s.emu ∧ t.ptu = s.ptu
    let unbooked (t : State) : Prop := t.journal.entries = s.journal.entries ∧ t.image.entries = s.image.entries
    let called (spend alcohol : Int) (t : State) : Prop :=
      (s.Lacks x.card → t.cards = s.cards) ∧
      (∀ w y, s.Holds x.card w y → y.suspect = false → y.codeDiff = 0 → (s.way w).enabled = true →
        let p := if y.dayStamp = s.clock.day then y.daySpend else 0
        let q := if y.dayStamp = s.clock.day then y.dayAlcohol else 0
        t.entry (setIndex x.card) w = some { y with
          dayStamp := s.clock.day, daySpend := if x.day = y.dayStamp then min 16777215 (p + spend).toNat else p,
          dayAlcohol := if x.day = y.dayStamp then min 255 (q + alcohol).toNat else q, holdCount := y.holdCount - 1,
          codeDiff := 0 })
    let answers (r : Result) (fs : List Fld) (t : State) : Prop := ∃ ns : List Notice, t.link.tx = s.link.tx ++
      ns.map Frame.notice ++ if c.orphaned then [] else awaits.toList.map fun id => .reply id (.plain r fs) 0
    (∃ t, exec (.storeAttemptEnd true) s = .next t ∧ kept t ∧ t.journal.entries = s.journal.entries ++ [e] ∧
      Table.read none t.image.entries place = some ⟨e, next⟩ ∧
      (∀ q, q ≠ place → Table.read none t.image.entries q = Table.read none s.image.entries q) ∧
      t.holdSlot slot = ended .committed ∧ t.folio x.folio = { f with exposure := f.exposure + c.total - x.total } ∧
      called ((c.total : Int) - x.total) ((c.alcohol : Int) - x.alcohol) t ∧
      answers .approved [.n1 number, .n4 e.seq, .n3 c.net, .n3 c.gratuity, .n3 c.total, .n1 c.alcohol, .n3 (x.total - c.total)] t) ∧
    (second = true → c.orphaned = false → s.clock.isSet = false ∨ (0 < c.remaining ∧ s.clock.shipTime < 4294967295) →
      ∃ t, exec (.storeAttemptEnd false) s = .next t ∧ kept t ∧ unbooked t ∧ t.folio x.folio = f ∧ t.cards = s.cards ∧
        t.holdSlot slot = { s.holdSlot slot with body := .held x (min 4294967295 (s.clock.shipTime + c.remaining)) } ∧
        answers .storeFault [.n1 number] t) ∧
    (second = true → c.orphaned = true →
      ∃ t, exec (.storeAttemptEnd false) s = .next t ∧ kept t ∧ unbooked t ∧ t.holdSlot slot = ended .released ∧
        t.folio x.folio = { f with exposure := f.exposure - x.total } ∧ called (-(x.total : Int)) (-(x.alcohol : Int)) t ∧
        answers .done [] t ∧ (s.NoticeRoom 3 → .notice (.holdExpired number x.portal x.card x.person x.folio x.total x.alcohol
          s.clock.shipTime .unbooked) ∈ t.link.tx))) ∧
  (∀ (s : State) (rest : List StoreReq) (r : MusterRecord) (second ok : Bool), s.supply = true →
    s.store.queue = .muster :: rest → s.store.queue.length ≤ 8 → s.store.write = some ⟨.muster r, second⟩ →
    ok = true ∨ second = true →
    let left := s.emu.waiters.filter fun w => !w.carried
    ∃ t, exec (.storeAttemptEnd ok) s = .next t ∧
      t.image.muster = (if ok then some r else s.image.muster) ∧
      { t.image with muster := none, marker := none } = { s.image with muster := none, marker := none } ∧
      t.emu.record = s.emu.record ∧ t.emu.waiters.map (fun w => (w.id, w.number)) = left.map (fun w => (w.id, w.number)) ∧
      (∃ ns ms : List Notice, t.link.tx = s.link.tx ++ ns.map Frame.notice ++ ((s.emu.waiters.filter (·.carried)).map fun w =>
        .reply w.id (.plain .done [.n4 w.number, .n1 (if ok then 1 else 0)]) 0) ++ ms.map Frame.notice) ∧
      (s.emu.record = r → t.store.queue = rest ∧ t.store.write = none ∧ t.emu.outstanding = (s.emu.outstanding && !ok) ∧
        t.emu.retry = if ok then s.emu.retry else some (s.now + 60000)) ∧
      (s.emu.record ≠ r → t.emu.outstanding = true ∧
        t.store.queue = if .muster ∈ rest then rest else rest ++ [.muster]) ∧
      (t.now, t.pins, t.clock, t.cards, t.ptu, t.roll, t.purse, t.journal) =
        (s.now, s.pins, s.clock, s.cards, s.ptu, s.roll, s.purse, s.journal))

/-! ## The fault recorder (chapter 10) -/

/-- R187 to R193. A report of any kind: its count rises, saturating; at NOTE or ALERT the summary holds it and the capture
takes it if it was empty or lower; at ALERT one FAULT notice is sent, or dropped with the notices-lost flag. Nothing else
changes. A notice with no free slot is dropped with the flag set and NOTICE-LOST reported. -/
def Obligations.FaultsRecorded : Prop :=
  ∀ (s : State) (k : FaultKind) (f : FaultFields), s.RecorderSound →
    let row := s.frc.rowOf k
    let count := min 255 (row.count + 1)
    let higher : Bool := match s.frc.capture, row.severity with
      | _, .ignore => false
      | none, _ => true
      | some c, .note => c.severity = .ignore
      | some c, .alert => c.severity ≠ .alert
    let t := report k f s
    (t.frc.rowOf k = ⟨row.severity, count, row.inSummary || row.severity ≠ .ignore⟩ ∧
      (∀ j, j ≠ k → t.frc.rowOf j = s.frc.rowOf j) ∧
      t.frc.capture = (if higher then some ⟨k, row.severity, s.clock.shipTime, f, count⟩ else s.frc.capture)) ∧
    (row.severity ≠ .alert → t = s.withFrc t.frc) ∧
    (row.severity = .alert → s.NoticeRoom 1 →
      t = (s.withFrc t.frc).transmits [.notice (.fault k .alert s.clock.shipTime f count higher)]) ∧
    (row.severity = .alert → ¬ s.NoticeRoom 1 → t = (s.withFrc t.frc).withLink { s.link with noticesLost := true }) ∧
    (∀ n, (s.NoticeRoom 1 → notify n s = s.transmits [.notice n]) ∧
      (¬ s.NoticeRoom 1 → notify n s = report .noticeLost {} (s.withLink { s.link with noticesLost := true })))

/-- R188, R195. SEVERITY-SET changes one kind's severity alone, or is BAD-VALUE. FAULT-CLEAR answers with the summary, the
capture and the counts as they stood, and clears them; the severities and the ALERT line are left.
The model's choices in it: log 13. -/
def Obligations.RecorderManaged : Prop :=
  (∀ (s : State) (h : Hdr) (kind severity : Nat), s.Accepts h 2 →
    let c := Instr.severitySet h kind severity
    (15 < kind ∨ 2 < severity → exec c s = .next (s.replies Kind.severitySet h .badValue [])) ∧
    (∀ v row, s.frc.rows[kind]? = some row → s.frc.rows.length = 16 →
      (severity = 0 ∧ v = .ignore) ∨ (severity = 1 ∧ v = .note) ∨ (severity = 2 ∧ v = .alert) →
      exec c s = .next ((s.withFrc { s.frc with rows := s.frc.rows.set kind { row with severity := v } }).replies
        Kind.severitySet h .done [.n1 kind, .n1 severity]))) ∧
  (∀ (s t : State) (h : Hdr), s.Accepts h 0 → s.RecorderSound →
    exec (.faultClear h) s = .next ((s.withFrc ⟨s.frc.rows.map fun row => ⟨row.severity, 0, false⟩, none⟩).replies
      Kind.faultClear h .done (summaryList s.frc ++ captureFields s.frc.capture ++ countFields s.frc)) ∧
    (exec (.faultClear h) s = .next t → alertLine t = alertLine s))

/-! ## The link (chapter 11) -/

/-- The command at the front of the queue is taken with the rest of the queue; with none waiting, a millisecond of elapsed
crystal time passes while the supply is up (log 2). The model's choices in it: log 1. -/
def Obligations.StepTakesFront : Prop :=
  ∀ (c : Instr) (q : List Instr) (s : State),
    step (s.withPending (c :: q)) = exec c (s.withPending q) ∧
    (s.pending = [] → step s = .next (if s.supply then s.withNow (s.now + 1) else s))

/-- The model's own (log 1): exec never stops, neither in a fault nor in a refusal, and it leaves the queue of waiting commands
alone: a command sends the block none. What each command changes is said by the other statements. -/
def Obligations.EveryCommandCompletes : Prop :=
  ∀ (c : Instr) (s : State), ∃ t, exec c s = .next t ∧ t.pending = s.pending

/-- R200, R204. Every request meets the same steps before its owner: tag 0 and a tag in use are discarded with LINK-FORM; with
sixteen outstanding it is answered BUSY, or counted when eight answers wait; then an unknown kind, a wrong LENGTH, and
STARTING for all but PING and STATUS, which are answered in every service state; STATUS clears the notices-lost flag.
The model's choices in it: log 7, 10, 13, 15. -/
def Obligations.RequestsJudged : Prop :=
  (∀ (c : Instr) (kind : Nat) (h : Hdr) (s : State), c.request? = some (kind, h) →
    let id : ReqId := ⟨kind, h.tag⟩
    let hunts := s.withLink { s.link with rx := .hunting }
    let hears : Prop := s.supply = true ∧ s.pins.resetHigh = true
    (¬ hears → exec c s = .next s) ∧
    (hears → h.tag = 0 ∨ h.tag ∈ s.link.tags → exec c s = .next (report .linkForm { req := some id } hunts)) ∧
    (hears → h.tag ≠ 0 → h.tag ∉ s.link.tags → 16 ≤ s.link.outstanding.length →
      (s.link.busy.length < 8 →
        exec c s = .next ((hunts.withLink { hunts.link with busy := s.link.busy ++ [id] }).transmits [.busy id])) ∧
      (8 ≤ s.link.busy.length →
        exec c s = .next (hunts.withLink { hunts.link with discarded := min 65535 (s.link.discarded + 1) }))) ∧
    (s.Enlists h → (∀ g k, c ≠ .unknownKind g k) → h.len ≠ c.required → exec c s = .next (s.replies kind h .badLength [])) ∧
    (s.Enlists h → (∀ g k, c ≠ .unknownKind g k) → h.len = c.required → s.starting = true →
      (∀ g, c ≠ .ping g) → (∀ g, c ≠ .status g) → exec c s = .next (s.replies kind h .starting []))) ∧
  (∀ (s : State) (h : Hdr), s.Enlists h →
    (∀ kind, exec (.unknownKind h kind) s = .next (s.replies kind h .unknownKind [.n1 kind])) ∧
    (h.len = 0 →
      exec (.ping h) s = .next (s.replies Kind.ping h .done
        [.n2 6120, .n1 1, .n1 (yesCode s.check.storageFailed), .n1 (yesCode s.check.crystalFailed)]) ∧
      exec (.status h) s = .next ((s.withLink { s.link with noticesLost := false }).replies Kind.status h .done
        [.n1 (if s.starting then 0 else 1), .n1 (yesCode s.emu.condition), .n1 (yesCode s.emu.latch),
          .n1 (yesCode s.emu.record.active), .n1 (yesCode s.clock.isSet), .n1 (yesCode s.link.noticesLost),
          .n1 (if s.frc.summary = [] then 0 else 1), .n2 s.journal.entries.length, .n1 (openHolds s).length,
          .n2 s.roll.aboardGuests, .n2 s.roll.aboardCrew, .n2 s.roll.ashoreGuests, .n2 s.roll.ashoreCrew])))

/-- The requests that only read (R40, R47, R65, R92, R93, R114, R115, R139, R146, R160, R168, R182, R194, R204): each is
answered DONE with its fields, a number out of range BAD-VALUE, and nothing else changes. That TIMING-QUERY of a set above 7 is
BAD-VALUE is the model's choice (log 31): R65 is silent there. That the result is DONE
where the rule names none is the model's choice too (log 46). The model's choices in it: log 13, 31, 41, 46. -/
def Obligations.QueriesOnlyRead : Prop :=
  ∀ (s : State) (h : Hdr) (n m k : Nat),
    let done (kind : Nat) (c : Instr) (fs : List Fld) : Prop := exec c s = .next (s.replies kind h .done fs)
    let bad (kind : Nat) (c : Instr) : Prop := exec c s = .next (s.replies kind h .badValue [])
    (s.Accepts h 0 →
      done Kind.linkQuery (.linkQuery h) [
        Fld.n4 (if s.link.straps.baud1 then (if s.link.straps.baud0 then 2000000 else 921600)
          else if s.link.straps.baud0 then 460800 else 115200),
        Fld.n1 (s.link.outstanding.length + 1), Fld.n1 s.link.busy.length, Fld.n1 (noticesWaiting s.link.tx), Fld.n1 (framesWaiting s.link.tx),
        Fld.n1 (yesCode s.pins.holdHigh), Fld.n2 s.link.busySent, Fld.n2 s.link.discarded, Fld.n2 s.link.framesSent] ∧
      done Kind.clockQuery (.clockQuery h) [Fld.n4 s.clock.shipTime, Fld.n1 (yesCode s.clock.isSet), Fld.n4 s.clock.offset,
        Fld.n2 s.clock.day, Fld.n2 (s.image.day.getD 0), Fld.n1 (yesCode s.clock.dayOutstanding), Fld.n4 (untilRollover s.clock)] ∧
      done Kind.portalScan (.portalScan h) (portalStates.map (fun st => Fld.n2 (portalsIn s st).length) ++
        portalList (portalsIn s .forced) ++ portalList (portalsIn s .heldOpen) ++ portalList (portalsIn s .emergency)) ∧
      done Kind.presenceCounts (.presenceCounts h) ([Fld.n2 s.roll.aboardGuests, Fld.n2 s.roll.aboardCrew, Fld.n2 s.roll.ashoreGuests,
        Fld.n2 s.roll.ashoreCrew, Fld.n2 (s.roll.aboardGuests + s.roll.aboardCrew), Fld.n2 s.roll.departures, Fld.n2 s.roll.before.length,
        Fld.n2 s.roll.limit, Fld.n2 s.roll.level, Fld.n1 s.roll.hysteresis, Fld.n2 (s.roll.level - s.roll.hysteresis),
        Fld.n1 (yesCode s.roll.standing), Fld.n1 (yesCode s.roll.armed), Fld.n4 s.roll.guard] ++ optional4 s.roll.deadline ++
          [Fld.n1 (yesCode s.roll.passed)]) ∧
      done Kind.musterQuery (.musterQuery h) ([Fld.n1 (yesCode s.emu.record.active), Fld.n4 s.emu.record.number,
        Fld.n1 (enumCode? musterCauses s.emu.cause), Fld.n4 s.emu.record.startedAt, Fld.n2 s.emu.mustered,
        Fld.n2 (s.roll.aboardGuests + s.roll.aboardCrew - s.emu.mustered)] ++
          (List.range 32).map (fun i => Fld.n2 (s.station (i + 1))) ++ [Fld.n1 (yesCode s.emu.outstanding)]) ∧
      done Kind.emergencyQuery (.emergencyQuery h) (lineFields s.emu.lineA ++ lineFields s.emu.lineB ++
        [Fld.n2 s.emu.debounce, Fld.n1 (yesCode s.emu.startsMuster), Fld.n1 (yesCode s.emu.declared), Fld.n1 (yesCode s.emu.condition),
          Fld.n1 (yesCode s.emu.latch), Fld.n2 (heldDoors s).length] ++ (heldDoors s).flatMap (fun d =>
            [Fld.n1 d, Fld.n1 (enumCode presets (s.portal d).preset), Fld.n1 (yesCode (s.portal d).autoResume)])) ∧
      done Kind.holdScan (.holdScan h) (Fld.n1 (openHolds s).length :: (List.range 32).flatMap (scanSlot s)) ∧
      done Kind.storeQuery (.storeQuery h) (Fld.n1 s.store.queue.length ::
        s.store.queue.map (fun r => Fld.n1 (enumCode storeKinds r.kind)) ++ writeFields s.store.write ++
          [Fld.n2 s.store.secondAttempts, Fld.n2 s.store.faults, Fld.n2 (freePlaces s.image)]) ∧
      done Kind.faultRead (.faultRead h) (summaryList s.frc ++ captureFields s.frc.capture ++ countFields s.frc ++
        faultKinds.map (fun x => Fld.n1 (enumCode severities (s.frc.rowOf x).severity)) ++
          [Fld.n1 (yesCode (s.emu.latch || s.roll.standing || alertPtu s)), Fld.n1 (yesCode s.emu.latch),
            Fld.n1 (yesCode s.roll.standing), Fld.n1 (yesCode (alertPtu s))])) ∧
    (s.Accepts h 1 →
      done Kind.portalQuery (.portalQuery h n) (portalFields (s.portal n) ++ runningFields (s.portal n) s.now) ∧
      (n ≤ 7 → done Kind.timingQuery (.timingQuery h n)
        [Fld.n4 (s.timing n).release, Fld.n4 (s.timing n).heldOpen, Fld.n2 (s.timing n).strike]) ∧
      (7 < n → bad Kind.timingQuery (.timingQuery h n)) ∧
      (n ≤ 31 → done Kind.holdQuery (.holdQuery h n) (slotReport n (s.holdSlot n) s.clock.shipTime)) ∧
      (31 < n → bad Kind.holdQuery (.holdQuery h n)) ∧
      done Kind.tariffQuery (.tariffQuery h 0) (tariffFields s.purse.active ++ [Fld.n1 (yesCode s.purse.staged.isSome)]) ∧
      (∀ t, s.purse.staged = some t → done Kind.tariffQuery (.tariffQuery h 1) (tariffFields t ++ [Fld.n1 1])) ∧
      (s.purse.staged = none →
        exec (.tariffQuery h 1) s = .next (s.replies Kind.tariffQuery h .noneStaged [Fld.n1 0])) ∧
      (1 < n → bad Kind.tariffQuery (.tariffQuery h n))) ∧
    (s.Accepts h 2 →
      (n ≤ 8191 → done Kind.personQuery (.personQuery h n) (personFields (s.person n) ++
        [Fld.n1 (yesCode (s.beforeImage n).isSome), Fld.n1 (enumCode? personStates ((s.beforeImage n).map (·.state)))])) ∧
      (8191 < n → bad Kind.personQuery (.personQuery h n)) ∧
      (n ≤ 8191 → done Kind.musterRead (.musterRead h n) (listPersons (fun p => p.state = .aboard && p.mark.isNone) n s)) ∧
      (8191 < n → bad Kind.musterRead (.musterRead h n)) ∧
      (n ≤ 4095 → done Kind.folioQuery (.folioQuery h n) (folioFields (s.folio n) ++
        [Fld.n1 (holdsOfFolio s n).length, Fld.n3 ((holdsOfFolio s n).map (·.total)).sum,
          Fld.n2 (s.journal.entries.filter (·.folio = n)).length,
          Fld.n3 ((s.journal.entries.filter (·.folio = n)).map (·.total)).sum])) ∧
      (4095 < n → bad Kind.folioQuery (.folioQuery h n))) ∧
    (s.Accepts h 4 →
      (8191 < n ∨ 2 < m ∨ (1 < k ∧ k ≠ 255) → bad Kind.rollRead (.rollRead h n m k)) ∧
      (∀ st, n ≤ 8191 → personStates[m]? = some st →
        (k = 255 → done Kind.rollRead (.rollRead h n m k) (listPersons (fun p => p.state = st) n s)) ∧
        (∀ kind, personKinds[k]? = some kind →
          done Kind.rollRead (.rollRead h n m k) (listPersons (fun p => p.state = st && p.kind = kind) n s)))) ∧
    (s.Accepts h 5 →
      (m = 0 ∨ 8 < m → bad Kind.journalRead (.journalRead h n m)) ∧
      (0 < m → m ≤ 8 →
        let returned := (s.journal.entries.filter (n ≤ ·.seq)).take m
        done Kind.journalRead (.journalRead h n m) (summaryFields (nextRead returned s.journal.entries) s ++
          Fld.n1 returned.length :: returned.flatMap journalFields)))

/-- R199. A frame that the receiver abandons is LINK-FORM, with its KIND and TAG when both had been delivered; one whose CRC
disagrees is LINK-CHECK; neither is answered, and the assembler hunts. A part that does not receive takes none of them.
The model's choices in it: log 10, 11. -/
def Obligations.BadFramesReported : Prop :=
  ∀ (s : State),
    let hunts := s.withLink { s.link with rx := .hunting }
    let hears : Prop := s.supply = true ∧ s.pins.resetHigh = true
    (hears → exec .frameDiscarded s = .next (report .linkCheck {} hunts)) ∧
    (¬ hears → exec .frameDiscarded s = .next s) ∧
    (∀ bytes, hears → s.link.rx = .hunting →
      (∀ len kind tag rest, bytes = len :: kind :: tag :: rest →
        let lost := Host.Outcome.next (report .linkForm { req := some ⟨kind.toNat, tag.toNat⟩ } hunts)
        exec (.byteGapTimeout bytes) s = lost ∧ exec (.frameAbandoned bytes) s = lost) ∧
      (bytes.length < 3 →
        exec (.byteGapTimeout bytes) s = .next (report .linkForm {} hunts) ∧
        exec (.frameAbandoned bytes) s = .next (report .linkForm {} hunts))) ∧
    (∀ bytes, ¬ hears → exec (.byteGapTimeout bytes) s = .next s ∧ exec (.frameAbandoned bytes) s = .next s)

/-- R201 to R203. The last byte of a frame leaves: a part of a longer reply makes way for the next; a whole reply frees its
request, a BUSY answer its entry, a notice its slot; the counts rise, and the next frame begins while HOLD# is high. HOLD#
going high lets a waiting frame begin, and it touches nothing else; with no frame being sent FRAME_SENT has no effect. -/
def Obligations.FramesLeave : Prop :=
  (∀ (s : State) (f : Frame) (rest : List Frame), s.supply = true → s.pins.resetHigh = true → s.link.sending = true →
    s.link.tx = f :: rest →
    let sent := min 65535 (s.link.framesSent + 1)
    let goes (l : Link) (tx : List Frame) : Prop := exec .frameSent s = .next (s.withLink { l with
      tx := tx, framesSent := sent, sending := !tx.isEmpty && s.pins.holdHigh })
    (∀ id b n, f = .reply id b n → n + 1 < b.parts → goes s.link (.reply id b (n + 1) :: rest)) ∧
    (∀ id b n, f = .reply id b n → b.parts ≤ n + 1 →
      goes { s.link with outstanding := s.link.outstanding.erase id } rest) ∧
    (∀ id, f = .busy id →
      goes { s.link with busy := s.link.busy.erase id, busySent := min 65535 (s.link.busySent + 1) } rest) ∧
    (∀ n, f = .notice n → goes s.link rest)) ∧
  (∀ (s : State) (high : Bool),
    let set : State := { s with pins := { s.pins with holdHigh := high } }
    (s.supply = true → high = true → s.link.sending = false → s.link.tx ≠ [] → s.pins.resetHigh = true →
      exec (.holdLineChange high) s = .next (set.withLink { s.link with sending := true })) ∧
    (s.supply = false ∨ high = false ∨ s.link.sending = true ∨ s.link.tx = [] ∨ s.pins.resetHigh = false →
      exec (.holdLineChange high) s = .next set) ∧
    (s.link.sending = false → exec .frameSent s = .next s))

/-! ## Power and resets -/

/-- R28, R39, R41, R65, R69, R82, R94, R97, R98, R100, R106, R116, R133, R141, R148, R150, R162, R164, R177, R182, R189,
R191, R197. What the first power-on leaves, the image fresh; ship time not set, everything empty, every setting at its
default. The pins' levels and the self-check are the model's (log 8). The model's choices in it: log 27. -/
def Obligations.ResetValues : Prop :=
  let s := State.reset
  s.supply = true ∧ s.starting = true ∧ s.link = ⟨.hunting, [], [], [], false, false, 0, 0, 0, ⟨false, false⟩⟩ ∧
  s.cards = ⟨[], [], [], [], 400⟩ ∧ (∀ w < 4, s.way w = ⟨0, true⟩) ∧
  (s.clock.shipTime, s.clock.isSet, s.clock.offset, s.clock.day, s.clock.dayOutstanding) = (0, false, 18000, 0, false) ∧
  (∀ n, (s.portal n).cls = none ∧ (s.portal n).state = .outOfService ∧ (s.portal n).contact = .unknown) ∧
  (∀ n, s.timing n = ⟨5, 60, 1000⟩) ∧ (∀ n, (s.person n).state = .unlisted ∧ (s.person n).mark = none) ∧
  (s.roll.limit, s.roll.level, s.roll.hysteresis, s.roll.guard, s.roll.deadline) = (8191, 8191, 0, 10, none) ∧
  (s.roll.standing, s.roll.armed, s.roll.passed) = (false, true, false) ∧
  (s.emu.lineA.enabled, s.emu.lineB.enabled, s.emu.debounce, s.emu.startsMuster) = (true, true, 100, true) ∧
  (s.emu.lineA.active, s.emu.lineB.active, s.emu.declared, s.emu.condition, s.emu.latch) = (false, false, false, false, false) ∧
  s.emu.record = ⟨false, 0, 0⟩ ∧ (∀ n, s.folio n = ⟨.closed, 0, 0, 0⟩) ∧ (∀ n, s.holdSlot n = ⟨.free, 0, .none⟩) ∧
  s.purse.holdTime = 180 ∧ s.purse.staged = none ∧ s.purse.active.gratuity = [0, 1800, 1800, 1800, 1800, 1800, 1800, 1800] ∧
  [s.purse.active.guest, s.purse.active.youth, s.purse.active.crew, s.purse.active.officer, s.purse.active.visitor] =
    [12, 0, 6, 6, 4].map (fun cap => ⟨0, cap, 20000, 50000, 150000, 500000⟩) ∧
  s.journal = ⟨[], some 1, none⟩ ∧ s.store = ⟨[], none, 0, 0⟩ ∧ s.frc.capture = none ∧ s.frc.summary = [] ∧
  s.frc.rows.map (fun r => (r.severity, r.count)) =
    [.ignore, .note, .note, .alert, .note, .alert, .alert, .alert, .alert, .note, .note, .note, .note, .note, .note,
      .note].map (fun v => (v, 0)) ∧
  s.pending = []

/-- R183, R206, R212. A cold reset leaves the reset values over the image and the levels of the pins, whatever stood before, with
the straps as read; a loss of power leaves the same with the supply down. Without the supply no other command has any effect but
the changes of the pins: HOLD# and RESET# move their levels, RESET# low cuts off the link's frames, and an alarm line its raw level.
The model's choices in it: log 7, 8. -/
def Obligations.PowerResets : Prop :=
  (∀ (s : State) (check : SelfCheck) (straps : Straps),
    let cold (check : SelfCheck) (straps : Straps) (pins : Pins) : State := { State.reset with
      check := check, pins := pins, image := s.image, link := { State.reset.link with straps := straps },
      emu := { State.reset.emu with
        lineA := { State.reset.emu.lineA with rawActive := s.emu.lineA.rawActive },
        lineB := { State.reset.emu.lineB with rawActive := s.emu.lineB.rawActive } },
      choices := s.choices, drawn := s.drawn, pending := s.pending }
    exec (.coldReset check straps) s = .next (cold check straps { s.pins with straps := straps }) ∧
    exec .powerLoss s = .next { cold ⟨false, false⟩ ⟨false, false⟩ s.pins with supply := false }) ∧
  (∀ (c : Instr) (s : State), s.supply = false →
    (c ≠ .powerLoss → (∀ check straps, c ≠ .coldReset check straps) → c ≠ .resetAsserted → (∀ straps, c ≠ .warmReset straps) →
      (∀ high, c ≠ .holdLineChange high) → (∀ l high, c ≠ .alarmLineChange l high) → exec c s = .next s) ∧
    exec .resetAsserted s = .next { s with
      pins := { s.pins with resetHigh := false }, link := { s.link with sending := false, rx := .hunting } } ∧
    (∀ straps, exec (.warmReset straps) s = .next { s with pins := { s.pins with resetHigh := true } }) ∧
    (∀ high, exec (.holdLineChange high) s = .next { s with pins := { s.pins with holdHigh := high } }) ∧
    (∀ high,
      exec (.alarmLineChange .ema high) s =
        .next { s with emu := { s.emu with lineA := { s.emu.lineA with rawActive := !high } } } ∧
      exec (.alarmLineChange .emb high) s =
        .next { s with emu := { s.emu with lineB := { s.emu.lineB with rawActive := !high } } }))

/-- R39, R94, R117, R164, R175, R180, R182, R184, R185. The scan of a cold start rebuilds the journal in ascending order from the
entries above the settled-through value, the next sequence number as one above the largest number the image holds or names, the
slots with the marks that still count, the muster record and the day, and the part is READY with RESTARTED sent; the image keeps
all but its marker. A marker that it holds is reported by STORE-INTERRUPTED with the fault, ahead of RESTARTED, and cleared, unless
both tries at that fail, which is a STORE-FAULT. The presence and muster counters follow the slots. That the marker's own writes move
no count of the store is the model's choice (log 45). The model's choices in it: log 4, 8, 13, 45. -/
def Obligations.ScanRebuilds : Prop :=
  ∀ (s : State), s.supply = true → s.Canonical →
    (s.starting = false → exec .storeScan s = .next s) ∧
    (s.starting = true → s.roll.slots = [] → s.link.tx = [] → ∃ t, exec .storeScan s = .next t ∧ t.starting = false ∧
      t.journal.settle = none ∧ t.journal.entries.Pairwise (fun a b => a.seq ≤ b.seq) ∧
      (∀ e, e ∈ t.journal.entries ↔
        ∃ place r, Table.read none s.image.entries place = some r ∧ r.entry = e ∧ s.image.settledThrough < e.seq) ∧
      (∀ next, t.journal.next = some next → s.image.settledThrough < next ∧ ∀ e ∈ t.journal.entries, e.seq < next) ∧
      t.emu.record = s.image.muster.getD ⟨false, 0, 0⟩ ∧
      (∀ n, let x := Table.read ⟨⟨.unlisted, .guest, none, 0, none⟩, 0⟩ s.image.slots n
        t.person n = { x.slot with mark :=
          if t.emu.record.active = true ∧ x.musterNumber = t.emu.record.number ∧ x.slot.state = .aboard then x.slot.mark else none }) ∧
      t.clock.day = max (s.image.day.getD 0) ((t.journal.entries.getLast?.map (·.day)).getD 0) ∧
      .notice (.restarted .power s.check) ∈ t.link.tx ∧ { t.image with marker := none } = { s.image with marker := none } ∧
      t.cards = s.cards ∧ t.ptu = s.ptu ∧ t.purse = s.purse ∧ t.store = s.store ∧
      (s.RollCounted → t.RollCounted) ∧ (s.MusterCounted → t.MusterCounted) ∧
      -- R175, point 3
      (∃ largest, t.journal.next = (if largest < 4294967295 then some (largest + 1) else none) ∧
        let numbers (k : Nat) : Prop := k = s.image.settledThrough ∨ (∃ place r, Table.read none s.image.entries place = some r ∧
          (k = r.entry.seq ∨ k = (r.next.map (· - 1)).getD 4294967295)) ∨ s.image.marker = some ⟨.entry, k⟩
        numbers largest ∧ ∀ k, numbers k → k ≤ largest) ∧
      -- R185
      (s.image.marker = none → t.image.marker = none ∧ t.frc = s.frc ∧
        ∃ ns : List Notice, t.link.tx = .notice (.restarted .power s.check) :: ns.map Frame.notice) ∧
      (∀ m one two choices, s.image.marker = some m → s.choices = one :: two :: choices →
        let told := report .storeInterrupted { person := if m.kind = .slot then some m.id else none }
          (notify (.storeInterrupted m.kind m.id) s)
        let cleared : Prop := one % 2 = 0 ∨ two % 2 = 0
        let led := if cleared then told else report .storeFault {} told
        t.image.marker = (if cleared then none else some m) ∧ t.frc = led.frc ∧
        ∃ ns : List Notice, t.link.tx = led.link.tx ++ .notice (.restarted .power s.check) :: ns.map Frame.notice))

/-- R28, R69, R133, R161, R186, R197, R205, R206. RESET# low stops the transmitter and the receiver; when it goes high, and at a
RESTART, the part makes a warm reset, which reads the straps again and keeps all that outlives it; one taken before the part is
READY clears the link alone. The model's choices in it: log 9, 10. -/
def Obligations.WarmResets : Prop :=
  (∀ s : State, exec .resetAsserted s = .next { s with
    pins := { s.pins with resetHigh := false }, link := { s.link with sending := false, rx := .hunting } }) ∧
  (∀ (s : State) (straps : Straps), s.supply = true → s.starting = false → s.Canonical →
    ∃ t, exec (.warmReset straps) s = .next t ∧ WarmReset s t .line straps) ∧
  (∀ (s : State) (straps : Straps), s.supply = true → s.starting = true →
    exec (.warmReset straps) s = .next (({ s with pins := { s.pins with resetHigh := true, straps := straps } } : State).withLink
      ⟨.hunting, [], [], [], false, false, 0, 0, 0, straps⟩)) ∧
  (∀ (s : State) (h : RestartRequest), s.Accepts h.toHdr 0 → s.Canonical →
    ∃ t, exec (.restart h) s = .next t ∧ WarmReset s t (.request h.tag) h.straps)

/-! ## What every step keeps -/

/-- R15, R21, R22, R71, R99, R107, R141, R167, R178, R188, R200. The reset state has every invariant. That its tables stand in
the canonical form is the model's own (log 27), and so is what the spec leaves open of the reset state (log 8). -/
def Obligations.InvariantsAtReset : Prop :=
  State.reset.Canonical ∧ State.reset.LinkBounded ∧ State.reset.StoreBounded ∧ State.reset.RecorderSound ∧
  State.reset.RollCounted ∧ State.reset.MusterCounted ∧ State.reset.MarkedAboard ∧ State.reset.PortalsSound ∧
  State.reset.TableBounded ∧ State.reset.HoldsCounted ∧ State.reset.MoneyKept ∧ State.reset.RoomForAppends

/-- The model's own (log 27, DESIGN CHOICE): every step keeps every sparse table of State in its canonical form, so that equal
tables are equal data. No rule of the spec states it; the tables are those of R1, R41, R70, R141, R148 and R177. -/
def Obligations.TablesStayCanonical : Prop :=
  ∀ s t : State, s.Canonical → step s = .next t → t.Canonical

/-- R1, R15, R22, R178, R188, R189, R191, R200 to R203. Every step keeps at most 16 requests outstanding, 8 BUSY answers, 48
notices and 8 store requests, each tag in use once and never 0, the transmitter with a frame to send, the write under way with its
request, and the recorder's sixteen rows, counts and capture in their ranges; and of the card table one valid entry of a card to a
set, three residents at most, and one pending fetch of a card. -/
def Obligations.BoundsKept : Prop :=
  (∀ s t : State, s.LinkBounded → step s = .next t → t.LinkBounded) ∧
  ((∀ s t : State, s.StoreBounded → step s = .next t → t.StoreBounded) ∧
  (∀ s t : State, s.RecorderSound → step s = .next t → t.RecorderSound)) ∧
  (∀ s t : State, s.TableBounded → s.Canonical → step s = .next t → t.TableBounded)

/-- R21, R71, R107, R141, R167. Every step keeps each presence counter equal to the number of slots in that state and of that kind,
each station counter to the number of slots marked there, and every marked slot ABOARD. It keeps each card's hold count equal to its
open holds and at most 2 (with no entry that fails its check), each loaded folio's exposure equal to its held totals and journal
totals, and, but for the scan of a cold start, which takes the image's entries, the open holds and the journal entries within 512. -/
def Obligations.CountsFollowSlots : Prop :=
  (∀ s t : State, s.RollCounted → s.Canonical → step s = .next t → t.RollCounted) ∧
  (∀ s t : State, s.MusterCounted → s.Canonical → step s = .next t → t.MusterCounted) ∧
  (∀ s t : State, s.MarkedAboard → s.Canonical → step s = .next t → t.MarkedAboard) ∧
  (∀ s t : State, s.HoldsCounted → s.TableBounded → s.Canonical → step s = .next t → t.HoldsCounted) ∧
  (∀ s t : State, s.MoneyKept → s.Canonical → step s = .next t → t.MoneyKept) ∧
  (∀ s t : State, s.RoomForAppends → s.MoneyKept → s.Canonical → s.pending.head? ≠ some .storeScan → step s = .next t →
    t.RoomForAppends)

/-- R42, R99, R105. Every step keeps each portal in a state its class may take, its timers running only in their states, the
condition that of its sources, and, while it is true, every door whose preset is not NORMAL in EMERGENCY. -/
def Obligations.PortalsStaySound : Prop :=
  ∀ s t : State, s.PortalsSound → s.Canonical → step s = .next t → t.PortalsSound

/-- R198, R207 to R209. The frame of every well-formed request of the right LENGTH decodes to that request, every field at
every value its bytes carry; the straps a RESTART carries are those that stand. The model's choices in it: log 9, 12, 13, 14, 39. -/
def Obligations.FramesRoundTrip : Prop :=
  ∀ (c : Instr) (kind : Nat) (h : Hdr) (straps : Straps), WellFormed c = true → c.request? = some (kind, h) →
    (∀ g k, c ≠ .unknownKind g k) → (∀ g, c = .restart g → g.straps = straps) → h.len = c.required →
    ∃ bytes, encodeFrame c = some bytes ∧ decodeFrame straps bytes = .ok c
end

