-- ==== Sys2Proof/Laws/Bytes.lean ====
section
/-! SUPPORT. The numbers of the link: what `be` writes, `num` reads back (R208). -/

namespace Sys2Proof

@[simp] theorem be_length (w n : Nat) : (be w n).length = w := by
  induction w generalizing n with
  | zero => rfl
  | succ w ih => simp [be, ih]

@[simp] theorem be_zero (n : Nat) : be 0 n = [] := rfl

theorem ofBe_append (a b : List Byte) : ofBe (a ++ b) = ofBe a * 256 ^ b.length + ofBe b := by
  have acc (l : List Byte) (x : Nat) :
      l.foldl (fun n y => n * 256 + y.toNat) x = x * 256 ^ l.length + l.foldl (fun n y => n * 256 + y.toNat) 0 := by
    induction l generalizing x with
    | nil => simp
    | cons y l ih =>
      simp only [List.foldl_cons, List.length_cons]
      rw [ih (x * 256 + y.toNat), ih (0 * 256 + y.toNat)]
      ring
  unfold ofBe
  rw [List.foldl_append, acc]

/-- A number written in `w` bytes is read back modulo their range. -/
theorem ofBe_be (w n : Nat) : ofBe (be w n) = n % 256 ^ w := by
  induction w generalizing n with
  | zero => simp [be, ofBe, Nat.mod_one]
  | succ w ih =>
    rw [be, ofBe_append, ih]
    have h1 : ofBe [BitVec.ofNat 8 n] = n % 256 := by simp [ofBe]
    have h2 : n % 256 ^ (w + 1) = n % 256 + 256 * (n / 256 % 256 ^ w) := by rw [pow_succ, Nat.mul_comm, Nat.mod_mul]
    rw [h1, h2]
    simp only [List.length_singleton, pow_one]
    omega

/-- A field at the front of a body is read as it was written. -/
theorem num_front (w n : Nat) (rest : List Byte) : num (be w n ++ rest) 0 w = n % 256 ^ w := by
  have : ((be w n ++ rest).drop 0).take w = be w n := by
    rw [List.drop_zero]; exact (List.take_append_of_le_length (by simp)).trans (by simp)
  unfold num
  rw [this]
  simp [ofBe_be]

/-- Fields before it do not change what a field reads. -/
theorem num_skip (a rest : List Byte) (i w : Nat) : num (a ++ rest) (a.length + i) w = num rest i w := by
  unfold num
  have : (a ++ rest).drop (a.length + i) = rest.drop i := by
    rw [← List.drop_drop, List.drop_left]
  rw [this]

/-- The three bytes of a posted balance are read back as it was. -/
theorem signed3_twos3 (v : Int) (hv : fitsBalance v = true) (rest : List Byte) : signed3 (num (twos3 v ++ rest) 0 3) = v := by
  unfold twos3
  rw [num_front]
  simp only [fitsBalance, Bool.and_eq_true, decide_eq_true_eq] at hv
  unfold signed3
  split <;> omega

@[simp] theorem twos3_length (v : Int) : (twos3 v).length = 3 := by simp [twos3]

@[simp] theorem yesByte_length (b : Bool) : (yesByte b).length = 1 := rfl

end Sys2Proof
end

