-- ==== Sys2Proof/Laws/State.lean ====
section
/-! SUPPORT. One lemma per field per update of the state: what each setter leaves as it was and what it writes, so that
no proof unfolds a record update. -/

namespace Sys2Proof.Machine

open Sys2Proof

section Setters

variable (s : State)

/-! withLink -/
@[simp] theorem State.withLink_supply (x) : (s.withLink x).supply = s.supply := rfl
@[simp] theorem State.withLink_starting (x) : (s.withLink x).starting = s.starting := rfl
@[simp] theorem State.withLink_check (x) : (s.withLink x).check = s.check := rfl
@[simp] theorem State.withLink_now (x) : (s.withLink x).now = s.now := rfl
@[simp] theorem State.withLink_pins (x) : (s.withLink x).pins = s.pins := rfl
@[simp] theorem State.withLink_link (x) : (s.withLink x).link = x := rfl
@[simp] theorem State.withLink_clock (x) : (s.withLink x).clock = s.clock := rfl
@[simp] theorem State.withLink_cards (x) : (s.withLink x).cards = s.cards := rfl
@[simp] theorem State.withLink_ptu (x) : (s.withLink x).ptu = s.ptu := rfl
@[simp] theorem State.withLink_roll (x) : (s.withLink x).roll = s.roll := rfl
@[simp] theorem State.withLink_emu (x) : (s.withLink x).emu = s.emu := rfl
@[simp] theorem State.withLink_purse (x) : (s.withLink x).purse = s.purse := rfl
@[simp] theorem State.withLink_journal (x) : (s.withLink x).journal = s.journal := rfl
@[simp] theorem State.withLink_store (x) : (s.withLink x).store = s.store := rfl
@[simp] theorem State.withLink_image (x) : (s.withLink x).image = s.image := rfl
@[simp] theorem State.withLink_frc (x) : (s.withLink x).frc = s.frc := rfl
@[simp] theorem State.withLink_choices (x) : (s.withLink x).choices = s.choices := rfl
@[simp] theorem State.withLink_drawn (x) : (s.withLink x).drawn = s.drawn := rfl
@[simp] theorem State.withLink_pending (x) : (s.withLink x).pending = s.pending := rfl
@[simp] theorem State.withLink_portal (x n) : (s.withLink x).portal n = s.portal n := rfl
@[simp] theorem State.withLink_timing (x n) : (s.withLink x).timing n = s.timing n := rfl
@[simp] theorem State.withLink_person (x n) : (s.withLink x).person n = s.person n := rfl
@[simp] theorem State.withLink_beforeImage (x n) : (s.withLink x).beforeImage n = s.beforeImage n := rfl
@[simp] theorem State.withLink_station (x n) : (s.withLink x).station n = s.station n := rfl
@[simp] theorem State.withLink_folio (x n) : (s.withLink x).folio n = s.folio n := rfl
@[simp] theorem State.withLink_holdSlot (x n) : (s.withLink x).holdSlot n = s.holdSlot n := rfl
@[simp] theorem State.withLink_pointer (x n) : (s.withLink x).pointer n = s.pointer n := rfl
@[simp] theorem State.withLink_way (x n) : (s.withLink x).way n = s.way n := rfl
@[simp] theorem State.withLink_fetch (x n) : (s.withLink x).fetch n = s.fetch n := rfl
@[simp] theorem State.withLink_entry (x a b) : (s.withLink x).entry a b = s.entry a b := rfl
@[simp] theorem State.withLink_withLink (x y) : (s.withLink x).withLink y = s.withLink y := rfl

/-! withClock -/
@[simp] theorem State.withClock_supply (x) : (s.withClock x).supply = s.supply := rfl
@[simp] theorem State.withClock_starting (x) : (s.withClock x).starting = s.starting := rfl
@[simp] theorem State.withClock_check (x) : (s.withClock x).check = s.check := rfl
@[simp] theorem State.withClock_now (x) : (s.withClock x).now = s.now := rfl
@[simp] theorem State.withClock_pins (x) : (s.withClock x).pins = s.pins := rfl
@[simp] theorem State.withClock_link (x) : (s.withClock x).link = s.link := rfl
@[simp] theorem State.withClock_clock (x) : (s.withClock x).clock = x := rfl
@[simp] theorem State.withClock_cards (x) : (s.withClock x).cards = s.cards := rfl
@[simp] theorem State.withClock_ptu (x) : (s.withClock x).ptu = s.ptu := rfl
@[simp] theorem State.withClock_roll (x) : (s.withClock x).roll = s.roll := rfl
@[simp] theorem State.withClock_emu (x) : (s.withClock x).emu = s.emu := rfl
@[simp] theorem State.withClock_purse (x) : (s.withClock x).purse = s.purse := rfl
@[simp] theorem State.withClock_journal (x) : (s.withClock x).journal = s.journal := rfl
@[simp] theorem State.withClock_store (x) : (s.withClock x).store = s.store := rfl
@[simp] theorem State.withClock_image (x) : (s.withClock x).image = s.image := rfl
@[simp] theorem State.withClock_frc (x) : (s.withClock x).frc = s.frc := rfl
@[simp] theorem State.withClock_choices (x) : (s.withClock x).choices = s.choices := rfl
@[simp] theorem State.withClock_drawn (x) : (s.withClock x).drawn = s.drawn := rfl
@[simp] theorem State.withClock_pending (x) : (s.withClock x).pending = s.pending := rfl
@[simp] theorem State.withClock_portal (x n) : (s.withClock x).portal n = s.portal n := rfl
@[simp] theorem State.withClock_timing (x n) : (s.withClock x).timing n = s.timing n := rfl
@[simp] theorem State.withClock_person (x n) : (s.withClock x).person n = s.person n := rfl
@[simp] theorem State.withClock_beforeImage (x n) : (s.withClock x).beforeImage n = s.beforeImage n := rfl
@[simp] theorem State.withClock_station (x n) : (s.withClock x).station n = s.station n := rfl
@[simp] theorem State.withClock_folio (x n) : (s.withClock x).folio n = s.folio n := rfl
@[simp] theorem State.withClock_holdSlot (x n) : (s.withClock x).holdSlot n = s.holdSlot n := rfl
@[simp] theorem State.withClock_pointer (x n) : (s.withClock x).pointer n = s.pointer n := rfl
@[simp] theorem State.withClock_way (x n) : (s.withClock x).way n = s.way n := rfl
@[simp] theorem State.withClock_fetch (x n) : (s.withClock x).fetch n = s.fetch n := rfl
@[simp] theorem State.withClock_entry (x a b) : (s.withClock x).entry a b = s.entry a b := rfl
@[simp] theorem State.withClock_withClock (x y) : (s.withClock x).withClock y = s.withClock y := rfl

/-! withCards -/
@[simp] theorem State.withCards_supply (x) : (s.withCards x).supply = s.supply := rfl
@[simp] theorem State.withCards_starting (x) : (s.withCards x).starting = s.starting := rfl
@[simp] theorem State.withCards_check (x) : (s.withCards x).check = s.check := rfl
@[simp] theorem State.withCards_now (x) : (s.withCards x).now = s.now := rfl
@[simp] theorem State.withCards_pins (x) : (s.withCards x).pins = s.pins := rfl
@[simp] theorem State.withCards_link (x) : (s.withCards x).link = s.link := rfl
@[simp] theorem State.withCards_clock (x) : (s.withCards x).clock = s.clock := rfl
@[simp] theorem State.withCards_cards (x) : (s.withCards x).cards = x := rfl
@[simp] theorem State.withCards_ptu (x) : (s.withCards x).ptu = s.ptu := rfl
@[simp] theorem State.withCards_roll (x) : (s.withCards x).roll = s.roll := rfl
@[simp] theorem State.withCards_emu (x) : (s.withCards x).emu = s.emu := rfl
@[simp] theorem State.withCards_purse (x) : (s.withCards x).purse = s.purse := rfl
@[simp] theorem State.withCards_journal (x) : (s.withCards x).journal = s.journal := rfl
@[simp] theorem State.withCards_store (x) : (s.withCards x).store = s.store := rfl
@[simp] theorem State.withCards_image (x) : (s.withCards x).image = s.image := rfl
@[simp] theorem State.withCards_frc (x) : (s.withCards x).frc = s.frc := rfl
@[simp] theorem State.withCards_choices (x) : (s.withCards x).choices = s.choices := rfl
@[simp] theorem State.withCards_drawn (x) : (s.withCards x).drawn = s.drawn := rfl
@[simp] theorem State.withCards_pending (x) : (s.withCards x).pending = s.pending := rfl
@[simp] theorem State.withCards_portal (x n) : (s.withCards x).portal n = s.portal n := rfl
@[simp] theorem State.withCards_timing (x n) : (s.withCards x).timing n = s.timing n := rfl
@[simp] theorem State.withCards_person (x n) : (s.withCards x).person n = s.person n := rfl
@[simp] theorem State.withCards_beforeImage (x n) : (s.withCards x).beforeImage n = s.beforeImage n := rfl
@[simp] theorem State.withCards_station (x n) : (s.withCards x).station n = s.station n := rfl
@[simp] theorem State.withCards_folio (x n) : (s.withCards x).folio n = s.folio n := rfl
@[simp] theorem State.withCards_holdSlot (x n) : (s.withCards x).holdSlot n = s.holdSlot n := rfl
@[simp] theorem State.withCards_withCards (x y) : (s.withCards x).withCards y = s.withCards y := rfl

/-! withPtu -/
@[simp] theorem State.withPtu_supply (x) : (s.withPtu x).supply = s.supply := rfl
@[simp] theorem State.withPtu_starting (x) : (s.withPtu x).starting = s.starting := rfl
@[simp] theorem State.withPtu_check (x) : (s.withPtu x).check = s.check := rfl
@[simp] theorem State.withPtu_now (x) : (s.withPtu x).now = s.now := rfl
@[simp] theorem State.withPtu_pins (x) : (s.withPtu x).pins = s.pins := rfl
@[simp] theorem State.withPtu_link (x) : (s.withPtu x).link = s.link := rfl
@[simp] theorem State.withPtu_clock (x) : (s.withPtu x).clock = s.clock := rfl
@[simp] theorem State.withPtu_cards (x) : (s.withPtu x).cards = s.cards := rfl
@[simp] theorem State.withPtu_ptu (x) : (s.withPtu x).ptu = x := rfl
@[simp] theorem State.withPtu_roll (x) : (s.withPtu x).roll = s.roll := rfl
@[simp] theorem State.withPtu_emu (x) : (s.withPtu x).emu = s.emu := rfl
@[simp] theorem State.withPtu_purse (x) : (s.withPtu x).purse = s.purse := rfl
@[simp] theorem State.withPtu_journal (x) : (s.withPtu x).journal = s.journal := rfl
@[simp] theorem State.withPtu_store (x) : (s.withPtu x).store = s.store := rfl
@[simp] theorem State.withPtu_image (x) : (s.withPtu x).image = s.image := rfl
@[simp] theorem State.withPtu_frc (x) : (s.withPtu x).frc = s.frc := rfl
@[simp] theorem State.withPtu_choices (x) : (s.withPtu x).choices = s.choices := rfl
@[simp] theorem State.withPtu_drawn (x) : (s.withPtu x).drawn = s.drawn := rfl
@[simp] theorem State.withPtu_pending (x) : (s.withPtu x).pending = s.pending := rfl
@[simp] theorem State.withPtu_person (x n) : (s.withPtu x).person n = s.person n := rfl
@[simp] theorem State.withPtu_beforeImage (x n) : (s.withPtu x).beforeImage n = s.beforeImage n := rfl
@[simp] theorem State.withPtu_station (x n) : (s.withPtu x).station n = s.station n := rfl
@[simp] theorem State.withPtu_folio (x n) : (s.withPtu x).folio n = s.folio n := rfl
@[simp] theorem State.withPtu_holdSlot (x n) : (s.withPtu x).holdSlot n = s.holdSlot n := rfl
@[simp] theorem State.withPtu_pointer (x n) : (s.withPtu x).pointer n = s.pointer n := rfl
@[simp] theorem State.withPtu_way (x n) : (s.withPtu x).way n = s.way n := rfl
@[simp] theorem State.withPtu_fetch (x n) : (s.withPtu x).fetch n = s.fetch n := rfl
@[simp] theorem State.withPtu_entry (x a b) : (s.withPtu x).entry a b = s.entry a b := rfl
@[simp] theorem State.withPtu_withPtu (x y) : (s.withPtu x).withPtu y = s.withPtu y := rfl

/-! withRoll -/
@[simp] theorem State.withRoll_supply (x) : (s.withRoll x).supply = s.supply := rfl
@[simp] theorem State.withRoll_starting (x) : (s.withRoll x).starting = s.starting := rfl
@[simp] theorem State.withRoll_check (x) : (s.withRoll x).check = s.check := rfl
@[simp] theorem State.withRoll_now (x) : (s.withRoll x).now = s.now := rfl
@[simp] theorem State.withRoll_pins (x) : (s.withRoll x).pins = s.pins := rfl
@[simp] theorem State.withRoll_link (x) : (s.withRoll x).link = s.link := rfl
@[simp] theorem State.withRoll_clock (x) : (s.withRoll x).clock = s.clock := rfl
@[simp] theorem State.withRoll_cards (x) : (s.withRoll x).cards = s.cards := rfl
@[simp] theorem State.withRoll_ptu (x) : (s.withRoll x).ptu = s.ptu := rfl
@[simp] theorem State.withRoll_roll (x) : (s.withRoll x).roll = x := rfl
@[simp] theorem State.withRoll_emu (x) : (s.withRoll x).emu = s.emu := rfl
@[simp] theorem State.withRoll_purse (x) : (s.withRoll x).purse = s.purse := rfl
@[simp] theorem State.withRoll_journal (x) : (s.withRoll x).journal = s.journal := rfl
@[simp] theorem State.withRoll_store (x) : (s.withRoll x).store = s.store := rfl
@[simp] theorem State.withRoll_image (x) : (s.withRoll x).image = s.image := rfl
@[simp] theorem State.withRoll_frc (x) : (s.withRoll x).frc = s.frc := rfl
@[simp] theorem State.withRoll_choices (x) : (s.withRoll x).choices = s.choices := rfl
@[simp] theorem State.withRoll_drawn (x) : (s.withRoll x).drawn = s.drawn := rfl
@[simp] theorem State.withRoll_pending (x) : (s.withRoll x).pending = s.pending := rfl
@[simp] theorem State.withRoll_portal (x n) : (s.withRoll x).portal n = s.portal n := rfl
@[simp] theorem State.withRoll_timing (x n) : (s.withRoll x).timing n = s.timing n := rfl
@[simp] theorem State.withRoll_station (x n) : (s.withRoll x).station n = s.station n := rfl
@[simp] theorem State.withRoll_folio (x n) : (s.withRoll x).folio n = s.folio n := rfl
@[simp] theorem State.withRoll_holdSlot (x n) : (s.withRoll x).holdSlot n = s.holdSlot n := rfl
@[simp] theorem State.withRoll_pointer (x n) : (s.withRoll x).pointer n = s.pointer n := rfl
@[simp] theorem State.withRoll_way (x n) : (s.withRoll x).way n = s.way n := rfl
@[simp] theorem State.withRoll_fetch (x n) : (s.withRoll x).fetch n = s.fetch n := rfl
@[simp] theorem State.withRoll_entry (x a b) : (s.withRoll x).entry a b = s.entry a b := rfl
@[simp] theorem State.withRoll_withRoll (x y) : (s.withRoll x).withRoll y = s.withRoll y := rfl

/-! withEmu -/
@[simp] theorem State.withEmu_supply (x) : (s.withEmu x).supply = s.supply := rfl
@[simp] theorem State.withEmu_starting (x) : (s.withEmu x).starting = s.starting := rfl
@[simp] theorem State.withEmu_check (x) : (s.withEmu x).check = s.check := rfl
@[simp] theorem State.withEmu_now (x) : (s.withEmu x).now = s.now := rfl
@[simp] theorem State.withEmu_pins (x) : (s.withEmu x).pins = s.pins := rfl
@[simp] theorem State.withEmu_link (x) : (s.withEmu x).link = s.link := rfl
@[simp] theorem State.withEmu_clock (x) : (s.withEmu x).clock = s.clock := rfl
@[simp] theorem State.withEmu_cards (x) : (s.withEmu x).cards = s.cards := rfl
@[simp] theorem State.withEmu_ptu (x) : (s.withEmu x).ptu = s.ptu := rfl
@[simp] theorem State.withEmu_roll (x) : (s.withEmu x).roll = s.roll := rfl
@[simp] theorem State.withEmu_emu (x) : (s.withEmu x).emu = x := rfl
@[simp] theorem State.withEmu_purse (x) : (s.withEmu x).purse = s.purse := rfl
@[simp] theorem State.withEmu_journal (x) : (s.withEmu x).journal = s.journal := rfl
@[simp] theorem State.withEmu_store (x) : (s.withEmu x).store = s.store := rfl
@[simp] theorem State.withEmu_image (x) : (s.withEmu x).image = s.image := rfl
@[simp] theorem State.withEmu_frc (x) : (s.withEmu x).frc = s.frc := rfl
@[simp] theorem State.withEmu_choices (x) : (s.withEmu x).choices = s.choices := rfl
@[simp] theorem State.withEmu_drawn (x) : (s.withEmu x).drawn = s.drawn := rfl
@[simp] theorem State.withEmu_pending (x) : (s.withEmu x).pending = s.pending := rfl
@[simp] theorem State.withEmu_portal (x n) : (s.withEmu x).portal n = s.portal n := rfl
@[simp] theorem State.withEmu_timing (x n) : (s.withEmu x).timing n = s.timing n := rfl
@[simp] theorem State.withEmu_person (x n) : (s.withEmu x).person n = s.person n := rfl
@[simp] theorem State.withEmu_beforeImage (x n) : (s.withEmu x).beforeImage n = s.beforeImage n := rfl
@[simp] theorem State.withEmu_folio (x n) : (s.withEmu x).folio n = s.folio n := rfl
@[simp] theorem State.withEmu_holdSlot (x n) : (s.withEmu x).holdSlot n = s.holdSlot n := rfl
@[simp] theorem State.withEmu_pointer (x n) : (s.withEmu x).pointer n = s.pointer n := rfl
@[simp] theorem State.withEmu_way (x n) : (s.withEmu x).way n = s.way n := rfl
@[simp] theorem State.withEmu_fetch (x n) : (s.withEmu x).fetch n = s.fetch n := rfl
@[simp] theorem State.withEmu_entry (x a b) : (s.withEmu x).entry a b = s.entry a b := rfl
@[simp] theorem State.withEmu_withEmu (x y) : (s.withEmu x).withEmu y = s.withEmu y := rfl

/-! withPurse -/
@[simp] theorem State.withPurse_supply (x) : (s.withPurse x).supply = s.supply := rfl
@[simp] theorem State.withPurse_starting (x) : (s.withPurse x).starting = s.starting := rfl
@[simp] theorem State.withPurse_check (x) : (s.withPurse x).check = s.check := rfl
@[simp] theorem State.withPurse_now (x) : (s.withPurse x).now = s.now := rfl
@[simp] theorem State.withPurse_pins (x) : (s.withPurse x).pins = s.pins := rfl
@[simp] theorem State.withPurse_link (x) : (s.withPurse x).link = s.link := rfl
@[simp] theorem State.withPurse_clock (x) : (s.withPurse x).clock = s.clock := rfl
@[simp] theorem State.withPurse_cards (x) : (s.withPurse x).cards = s.cards := rfl
@[simp] theorem State.withPurse_ptu (x) : (s.withPurse x).ptu = s.ptu := rfl
@[simp] theorem State.withPurse_roll (x) : (s.withPurse x).roll = s.roll := rfl
@[simp] theorem State.withPurse_emu (x) : (s.withPurse x).emu = s.emu := rfl
@[simp] theorem State.withPurse_purse (x) : (s.withPurse x).purse = x := rfl
@[simp] theorem State.withPurse_journal (x) : (s.withPurse x).journal = s.journal := rfl
@[simp] theorem State.withPurse_store (x) : (s.withPurse x).store = s.store := rfl
@[simp] theorem State.withPurse_image (x) : (s.withPurse x).image = s.image := rfl
@[simp] theorem State.withPurse_frc (x) : (s.withPurse x).frc = s.frc := rfl
@[simp] theorem State.withPurse_choices (x) : (s.withPurse x).choices = s.choices := rfl
@[simp] theorem State.withPurse_drawn (x) : (s.withPurse x).drawn = s.drawn := rfl
@[simp] theorem State.withPurse_pending (x) : (s.withPurse x).pending = s.pending := rfl
@[simp] theorem State.withPurse_portal (x n) : (s.withPurse x).portal n = s.portal n := rfl
@[simp] theorem State.withPurse_timing (x n) : (s.withPurse x).timing n = s.timing n := rfl
@[simp] theorem State.withPurse_person (x n) : (s.withPurse x).person n = s.person n := rfl
@[simp] theorem State.withPurse_beforeImage (x n) : (s.withPurse x).beforeImage n = s.beforeImage n := rfl
@[simp] theorem State.withPurse_station (x n) : (s.withPurse x).station n = s.station n := rfl
@[simp] theorem State.withPurse_pointer (x n) : (s.withPurse x).pointer n = s.pointer n := rfl
@[simp] theorem State.withPurse_way (x n) : (s.withPurse x).way n = s.way n := rfl
@[simp] theorem State.withPurse_fetch (x n) : (s.withPurse x).fetch n = s.fetch n := rfl
@[simp] theorem State.withPurse_entry (x a b) : (s.withPurse x).entry a b = s.entry a b := rfl
@[simp] theorem State.withPurse_withPurse (x y) : (s.withPurse x).withPurse y = s.withPurse y := rfl

/-! withJournal -/
@[simp] theorem State.withJournal_supply (x) : (s.withJournal x).supply = s.supply := rfl
@[simp] theorem State.withJournal_starting (x) : (s.withJournal x).starting = s.starting := rfl
@[simp] theorem State.withJournal_check (x) : (s.withJournal x).check = s.check := rfl
@[simp] theorem State.withJournal_now (x) : (s.withJournal x).now = s.now := rfl
@[simp] theorem State.withJournal_pins (x) : (s.withJournal x).pins = s.pins := rfl
@[simp] theorem State.withJournal_link (x) : (s.withJournal x).link = s.link := rfl
@[simp] theorem State.withJournal_clock (x) : (s.withJournal x).clock = s.clock := rfl
@[simp] theorem State.withJournal_cards (x) : (s.withJournal x).cards = s.cards := rfl
@[simp] theorem State.withJournal_ptu (x) : (s.withJournal x).ptu = s.ptu := rfl
@[simp] theorem State.withJournal_roll (x) : (s.withJournal x).roll = s.roll := rfl
@[simp] theorem State.withJournal_emu (x) : (s.withJournal x).emu = s.emu := rfl
@[simp] theorem State.withJournal_purse (x) : (s.withJournal x).purse = s.purse := rfl
@[simp] theorem State.withJournal_journal (x) : (s.withJournal x).journal = x := rfl
@[simp] theorem State.withJournal_store (x) : (s.withJournal x).store = s.store := rfl
@[simp] theorem State.withJournal_image (x) : (s.withJournal x).image = s.image := rfl
@[simp] theorem State.withJournal_frc (x) : (s.withJournal x).frc = s.frc := rfl
@[simp] theorem State.withJournal_choices (x) : (s.withJournal x).choices = s.choices := rfl
@[simp] theorem State.withJournal_drawn (x) : (s.withJournal x).drawn = s.drawn := rfl
@[simp] theorem State.withJournal_pending (x) : (s.withJournal x).pending = s.pending := rfl
@[simp] theorem State.withJournal_portal (x n) : (s.withJournal x).portal n = s.portal n := rfl
@[simp] theorem State.withJournal_timing (x n) : (s.withJournal x).timing n = s.timing n := rfl
@[simp] theorem State.withJournal_person (x n) : (s.withJournal x).person n = s.person n := rfl
@[simp] theorem State.withJournal_beforeImage (x n) : (s.withJournal x).beforeImage n = s.beforeImage n := rfl
@[simp] theorem State.withJournal_station (x n) : (s.withJournal x).station n = s.station n := rfl
@[simp] theorem State.withJournal_folio (x n) : (s.withJournal x).folio n = s.folio n := rfl
@[simp] theorem State.withJournal_holdSlot (x n) : (s.withJournal x).holdSlot n = s.holdSlot n := rfl
@[simp] theorem State.withJournal_pointer (x n) : (s.withJournal x).pointer n = s.pointer n := rfl
@[simp] theorem State.withJournal_way (x n) : (s.withJournal x).way n = s.way n := rfl
@[simp] theorem State.withJournal_fetch (x n) : (s.withJournal x).fetch n = s.fetch n := rfl
@[simp] theorem State.withJournal_entry (x a b) : (s.withJournal x).entry a b = s.entry a b := rfl
@[simp] theorem State.withJournal_withJournal (x y) : (s.withJournal x).withJournal y = s.withJournal y := rfl

/-! withStore -/
@[simp] theorem State.withStore_supply (x) : (s.withStore x).supply = s.supply := rfl
@[simp] theorem State.withStore_starting (x) : (s.withStore x).starting = s.starting := rfl
@[simp] theorem State.withStore_check (x) : (s.withStore x).check = s.check := rfl
@[simp] theorem State.withStore_now (x) : (s.withStore x).now = s.now := rfl
@[simp] theorem State.withStore_pins (x) : (s.withStore x).pins = s.pins := rfl
@[simp] theorem State.withStore_link (x) : (s.withStore x).link = s.link := rfl
@[simp] theorem State.withStore_clock (x) : (s.withStore x).clock = s.clock := rfl
@[simp] theorem State.withStore_cards (x) : (s.withStore x).cards = s.cards := rfl
@[simp] theorem State.withStore_ptu (x) : (s.withStore x).ptu = s.ptu := rfl
@[simp] theorem State.withStore_roll (x) : (s.withStore x).roll = s.roll := rfl
@[simp] theorem State.withStore_emu (x) : (s.withStore x).emu = s.emu := rfl
@[simp] theorem State.withStore_purse (x) : (s.withStore x).purse = s.purse := rfl
@[simp] theorem State.withStore_journal (x) : (s.withStore x).journal = s.journal := rfl
@[simp] theorem State.withStore_store (x) : (s.withStore x).store = x := rfl
@[simp] theorem State.withStore_image (x) : (s.withStore x).image = s.image := rfl
@[simp] theorem State.withStore_frc (x) : (s.withStore x).frc = s.frc := rfl
@[simp] theorem State.withStore_choices (x) : (s.withStore x).choices = s.choices := rfl
@[simp] theorem State.withStore_drawn (x) : (s.withStore x).drawn = s.drawn := rfl
@[simp] theorem State.withStore_pending (x) : (s.withStore x).pending = s.pending := rfl
@[simp] theorem State.withStore_portal (x n) : (s.withStore x).portal n = s.portal n := rfl
@[simp] theorem State.withStore_timing (x n) : (s.withStore x).timing n = s.timing n := rfl
@[simp] theorem State.withStore_person (x n) : (s.withStore x).person n = s.person n := rfl
@[simp] theorem State.withStore_beforeImage (x n) : (s.withStore x).beforeImage n = s.beforeImage n := rfl
@[simp] theorem State.withStore_station (x n) : (s.withStore x).station n = s.station n := rfl
@[simp] theorem State.withStore_folio (x n) : (s.withStore x).folio n = s.folio n := rfl
@[simp] theorem State.withStore_holdSlot (x n) : (s.withStore x).holdSlot n = s.holdSlot n := rfl
@[simp] theorem State.withStore_pointer (x n) : (s.withStore x).pointer n = s.pointer n := rfl
@[simp] theorem State.withStore_way (x n) : (s.withStore x).way n = s.way n := rfl
@[simp] theorem State.withStore_fetch (x n) : (s.withStore x).fetch n = s.fetch n := rfl
@[simp] theorem State.withStore_entry (x a b) : (s.withStore x).entry a b = s.entry a b := rfl
@[simp] theorem State.withStore_withStore (x y) : (s.withStore x).withStore y = s.withStore y := rfl

/-! withImage -/
@[simp] theorem State.withImage_supply (x) : (s.withImage x).supply = s.supply := rfl
@[simp] theorem State.withImage_starting (x) : (s.withImage x).starting = s.starting := rfl
@[simp] theorem State.withImage_check (x) : (s.withImage x).check = s.check := rfl
@[simp] theorem State.withImage_now (x) : (s.withImage x).now = s.now := rfl
@[simp] theorem State.withImage_pins (x) : (s.withImage x).pins = s.pins := rfl
@[simp] theorem State.withImage_link (x) : (s.withImage x).link = s.link := rfl
@[simp] theorem State.withImage_clock (x) : (s.withImage x).clock = s.clock := rfl
@[simp] theorem State.withImage_cards (x) : (s.withImage x).cards = s.cards := rfl
@[simp] theorem State.withImage_ptu (x) : (s.withImage x).ptu = s.ptu := rfl
@[simp] theorem State.withImage_roll (x) : (s.withImage x).roll = s.roll := rfl
@[simp] theorem State.withImage_emu (x) : (s.withImage x).emu = s.emu := rfl
@[simp] theorem State.withImage_purse (x) : (s.withImage x).purse = s.purse := rfl
@[simp] theorem State.withImage_journal (x) : (s.withImage x).journal = s.journal := rfl
@[simp] theorem State.withImage_store (x) : (s.withImage x).store = s.store := rfl
@[simp] theorem State.withImage_image (x) : (s.withImage x).image = x := rfl
@[simp] theorem State.withImage_frc (x) : (s.withImage x).frc = s.frc := rfl
@[simp] theorem State.withImage_choices (x) : (s.withImage x).choices = s.choices := rfl
@[simp] theorem State.withImage_drawn (x) : (s.withImage x).drawn = s.drawn := rfl
@[simp] theorem State.withImage_pending (x) : (s.withImage x).pending = s.pending := rfl
@[simp] theorem State.withImage_portal (x n) : (s.withImage x).portal n = s.portal n := rfl
@[simp] theorem State.withImage_timing (x n) : (s.withImage x).timing n = s.timing n := rfl
@[simp] theorem State.withImage_person (x n) : (s.withImage x).person n = s.person n := rfl
@[simp] theorem State.withImage_beforeImage (x n) : (s.withImage x).beforeImage n = s.beforeImage n := rfl
@[simp] theorem State.withImage_station (x n) : (s.withImage x).station n = s.station n := rfl
@[simp] theorem State.withImage_folio (x n) : (s.withImage x).folio n = s.folio n := rfl
@[simp] theorem State.withImage_holdSlot (x n) : (s.withImage x).holdSlot n = s.holdSlot n := rfl
@[simp] theorem State.withImage_pointer (x n) : (s.withImage x).pointer n = s.pointer n := rfl
@[simp] theorem State.withImage_way (x n) : (s.withImage x).way n = s.way n := rfl
@[simp] theorem State.withImage_fetch (x n) : (s.withImage x).fetch n = s.fetch n := rfl
@[simp] theorem State.withImage_entry (x a b) : (s.withImage x).entry a b = s.entry a b := rfl
@[simp] theorem State.withImage_withImage (x y) : (s.withImage x).withImage y = s.withImage y := rfl

/-! withFrc -/
@[simp] theorem State.withFrc_supply (x) : (s.withFrc x).supply = s.supply := rfl
@[simp] theorem State.withFrc_starting (x) : (s.withFrc x).starting = s.starting := rfl
@[simp] theorem State.withFrc_check (x) : (s.withFrc x).check = s.check := rfl
@[simp] theorem State.withFrc_now (x) : (s.withFrc x).now = s.now := rfl
@[simp] theorem State.withFrc_pins (x) : (s.withFrc x).pins = s.pins := rfl
@[simp] theorem State.withFrc_link (x) : (s.withFrc x).link = s.link := rfl
@[simp] theorem State.withFrc_clock (x) : (s.withFrc x).clock = s.clock := rfl
@[simp] theorem State.withFrc_cards (x) : (s.withFrc x).cards = s.cards := rfl
@[simp] theorem State.withFrc_ptu (x) : (s.withFrc x).ptu = s.ptu := rfl
@[simp] theorem State.withFrc_roll (x) : (s.withFrc x).roll = s.roll := rfl
@[simp] theorem State.withFrc_emu (x) : (s.withFrc x).emu = s.emu := rfl
@[simp] theorem State.withFrc_purse (x) : (s.withFrc x).purse = s.purse := rfl
@[simp] theorem State.withFrc_journal (x) : (s.withFrc x).journal = s.journal := rfl
@[simp] theorem State.withFrc_store (x) : (s.withFrc x).store = s.store := rfl
@[simp] theorem State.withFrc_image (x) : (s.withFrc x).image = s.image := rfl
@[simp] theorem State.withFrc_frc (x) : (s.withFrc x).frc = x := rfl
@[simp] theorem State.withFrc_choices (x) : (s.withFrc x).choices = s.choices := rfl
@[simp] theorem State.withFrc_drawn (x) : (s.withFrc x).drawn = s.drawn := rfl
@[simp] theorem State.withFrc_pending (x) : (s.withFrc x).pending = s.pending := rfl
@[simp] theorem State.withFrc_portal (x n) : (s.withFrc x).portal n = s.portal n := rfl
@[simp] theorem State.withFrc_timing (x n) : (s.withFrc x).timing n = s.timing n := rfl
@[simp] theorem State.withFrc_person (x n) : (s.withFrc x).person n = s.person n := rfl
@[simp] theorem State.withFrc_beforeImage (x n) : (s.withFrc x).beforeImage n = s.beforeImage n := rfl
@[simp] theorem State.withFrc_station (x n) : (s.withFrc x).station n = s.station n := rfl
@[simp] theorem State.withFrc_folio (x n) : (s.withFrc x).folio n = s.folio n := rfl
@[simp] theorem State.withFrc_holdSlot (x n) : (s.withFrc x).holdSlot n = s.holdSlot n := rfl
@[simp] theorem State.withFrc_pointer (x n) : (s.withFrc x).pointer n = s.pointer n := rfl
@[simp] theorem State.withFrc_way (x n) : (s.withFrc x).way n = s.way n := rfl
@[simp] theorem State.withFrc_fetch (x n) : (s.withFrc x).fetch n = s.fetch n := rfl
@[simp] theorem State.withFrc_entry (x a b) : (s.withFrc x).entry a b = s.entry a b := rfl
@[simp] theorem State.withFrc_withFrc (x y) : (s.withFrc x).withFrc y = s.withFrc y := rfl

/-! withNow -/
@[simp] theorem State.withNow_supply (x) : (s.withNow x).supply = s.supply := rfl
@[simp] theorem State.withNow_starting (x) : (s.withNow x).starting = s.starting := rfl
@[simp] theorem State.withNow_check (x) : (s.withNow x).check = s.check := rfl
@[simp] theorem State.withNow_now (x) : (s.withNow x).now = x := rfl
@[simp] theorem State.withNow_pins (x) : (s.withNow x).pins = s.pins := rfl
@[simp] theorem State.withNow_link (x) : (s.withNow x).link = s.link := rfl
@[simp] theorem State.withNow_clock (x) : (s.withNow x).clock = s.clock := rfl
@[simp] theorem State.withNow_cards (x) : (s.withNow x).cards = s.cards := rfl
@[simp] theorem State.withNow_ptu (x) : (s.withNow x).ptu = s.ptu := rfl
@[simp] theorem State.withNow_roll (x) : (s.withNow x).roll = s.roll := rfl
@[simp] theorem State.withNow_emu (x) : (s.withNow x).emu = s.emu := rfl
@[simp] theorem State.withNow_purse (x) : (s.withNow x).purse = s.purse := rfl
@[simp] theorem State.withNow_journal (x) : (s.withNow x).journal = s.journal := rfl
@[simp] theorem State.withNow_store (x) : (s.withNow x).store = s.store := rfl
@[simp] theorem State.withNow_image (x) : (s.withNow x).image = s.image := rfl
@[simp] theorem State.withNow_frc (x) : (s.withNow x).frc = s.frc := rfl
@[simp] theorem State.withNow_choices (x) : (s.withNow x).choices = s.choices := rfl
@[simp] theorem State.withNow_drawn (x) : (s.withNow x).drawn = s.drawn := rfl
@[simp] theorem State.withNow_pending (x) : (s.withNow x).pending = s.pending := rfl
@[simp] theorem State.withNow_portal (x n) : (s.withNow x).portal n = s.portal n := rfl
@[simp] theorem State.withNow_timing (x n) : (s.withNow x).timing n = s.timing n := rfl
@[simp] theorem State.withNow_person (x n) : (s.withNow x).person n = s.person n := rfl
@[simp] theorem State.withNow_beforeImage (x n) : (s.withNow x).beforeImage n = s.beforeImage n := rfl
@[simp] theorem State.withNow_station (x n) : (s.withNow x).station n = s.station n := rfl
@[simp] theorem State.withNow_folio (x n) : (s.withNow x).folio n = s.folio n := rfl
@[simp] theorem State.withNow_holdSlot (x n) : (s.withNow x).holdSlot n = s.holdSlot n := rfl
@[simp] theorem State.withNow_pointer (x n) : (s.withNow x).pointer n = s.pointer n := rfl
@[simp] theorem State.withNow_way (x n) : (s.withNow x).way n = s.way n := rfl
@[simp] theorem State.withNow_fetch (x n) : (s.withNow x).fetch n = s.fetch n := rfl
@[simp] theorem State.withNow_entry (x a b) : (s.withNow x).entry a b = s.entry a b := rfl
@[simp] theorem State.withNow_withNow (x y) : (s.withNow x).withNow y = s.withNow y := rfl

end Setters

section Records

variable (s : State)

/-! setPortal -/
@[simp] theorem State.setPortal_supply (n p) : (s.setPortal n p).supply = s.supply := rfl
@[simp] theorem State.setPortal_starting (n p) : (s.setPortal n p).starting = s.starting := rfl
@[simp] theorem State.setPortal_check (n p) : (s.setPortal n p).check = s.check := rfl
@[simp] theorem State.setPortal_now (n p) : (s.setPortal n p).now = s.now := rfl
@[simp] theorem State.setPortal_pins (n p) : (s.setPortal n p).pins = s.pins := rfl
@[simp] theorem State.setPortal_link (n p) : (s.setPortal n p).link = s.link := rfl
@[simp] theorem State.setPortal_clock (n p) : (s.setPortal n p).clock = s.clock := rfl
@[simp] theorem State.setPortal_cards (n p) : (s.setPortal n p).cards = s.cards := rfl
@[simp] theorem State.setPortal_roll (n p) : (s.setPortal n p).roll = s.roll := rfl
@[simp] theorem State.setPortal_emu (n p) : (s.setPortal n p).emu = s.emu := rfl
@[simp] theorem State.setPortal_purse (n p) : (s.setPortal n p).purse = s.purse := rfl
@[simp] theorem State.setPortal_journal (n p) : (s.setPortal n p).journal = s.journal := rfl
@[simp] theorem State.setPortal_store (n p) : (s.setPortal n p).store = s.store := rfl
@[simp] theorem State.setPortal_image (n p) : (s.setPortal n p).image = s.image := rfl
@[simp] theorem State.setPortal_frc (n p) : (s.setPortal n p).frc = s.frc := rfl
@[simp] theorem State.setPortal_choices (n p) : (s.setPortal n p).choices = s.choices := rfl
@[simp] theorem State.setPortal_drawn (n p) : (s.setPortal n p).drawn = s.drawn := rfl
@[simp] theorem State.setPortal_pending (n p) : (s.setPortal n p).pending = s.pending := rfl
@[simp] theorem State.setPortal_timing (n p k) : (s.setPortal n p).timing k = s.timing k := rfl
@[simp] theorem State.setPortal_person (n p k) : (s.setPortal n p).person k = s.person k := rfl
@[simp] theorem State.setPortal_beforeImage (n p k) : (s.setPortal n p).beforeImage k = s.beforeImage k := rfl
@[simp] theorem State.setPortal_station (n p k) : (s.setPortal n p).station k = s.station k := rfl
@[simp] theorem State.setPortal_folio (n p k) : (s.setPortal n p).folio k = s.folio k := rfl
@[simp] theorem State.setPortal_holdSlot (n p k) : (s.setPortal n p).holdSlot k = s.holdSlot k := rfl
@[simp] theorem State.setPortal_pointer (n p k) : (s.setPortal n p).pointer k = s.pointer k := rfl
@[simp] theorem State.setPortal_way (n p k) : (s.setPortal n p).way k = s.way k := rfl
@[simp] theorem State.setPortal_fetch (n p k) : (s.setPortal n p).fetch k = s.fetch k := rfl
@[simp] theorem State.setPortal_entry (n p k l) : (s.setPortal n p).entry k l = s.entry k l := rfl

/-! setTiming -/
@[simp] theorem State.setTiming_supply (n t) : (s.setTiming n t).supply = s.supply := rfl
@[simp] theorem State.setTiming_starting (n t) : (s.setTiming n t).starting = s.starting := rfl
@[simp] theorem State.setTiming_check (n t) : (s.setTiming n t).check = s.check := rfl
@[simp] theorem State.setTiming_now (n t) : (s.setTiming n t).now = s.now := rfl
@[simp] theorem State.setTiming_pins (n t) : (s.setTiming n t).pins = s.pins := rfl
@[simp] theorem State.setTiming_link (n t) : (s.setTiming n t).link = s.link := rfl
@[simp] theorem State.setTiming_clock (n t) : (s.setTiming n t).clock = s.clock := rfl
@[simp] theorem State.setTiming_cards (n t) : (s.setTiming n t).cards = s.cards := rfl
@[simp] theorem State.setTiming_roll (n t) : (s.setTiming n t).roll = s.roll := rfl
@[simp] theorem State.setTiming_emu (n t) : (s.setTiming n t).emu = s.emu := rfl
@[simp] theorem State.setTiming_purse (n t) : (s.setTiming n t).purse = s.purse := rfl
@[simp] theorem State.setTiming_journal (n t) : (s.setTiming n t).journal = s.journal := rfl
@[simp] theorem State.setTiming_store (n t) : (s.setTiming n t).store = s.store := rfl
@[simp] theorem State.setTiming_image (n t) : (s.setTiming n t).image = s.image := rfl
@[simp] theorem State.setTiming_frc (n t) : (s.setTiming n t).frc = s.frc := rfl
@[simp] theorem State.setTiming_choices (n t) : (s.setTiming n t).choices = s.choices := rfl
@[simp] theorem State.setTiming_drawn (n t) : (s.setTiming n t).drawn = s.drawn := rfl
@[simp] theorem State.setTiming_pending (n t) : (s.setTiming n t).pending = s.pending := rfl
@[simp] theorem State.setTiming_portal (n t k) : (s.setTiming n t).portal k = s.portal k := rfl
@[simp] theorem State.setTiming_person (n t k) : (s.setTiming n t).person k = s.person k := rfl
@[simp] theorem State.setTiming_beforeImage (n t k) : (s.setTiming n t).beforeImage k = s.beforeImage k := rfl
@[simp] theorem State.setTiming_station (n t k) : (s.setTiming n t).station k = s.station k := rfl
@[simp] theorem State.setTiming_folio (n t k) : (s.setTiming n t).folio k = s.folio k := rfl
@[simp] theorem State.setTiming_holdSlot (n t k) : (s.setTiming n t).holdSlot k = s.holdSlot k := rfl
@[simp] theorem State.setTiming_pointer (n t k) : (s.setTiming n t).pointer k = s.pointer k := rfl
@[simp] theorem State.setTiming_way (n t k) : (s.setTiming n t).way k = s.way k := rfl
@[simp] theorem State.setTiming_fetch (n t k) : (s.setTiming n t).fetch k = s.fetch k := rfl
@[simp] theorem State.setTiming_entry (n t k l) : (s.setTiming n t).entry k l = s.entry k l := rfl

/-! setFolio -/
@[simp] theorem State.setFolio_supply (n f) : (s.setFolio n f).supply = s.supply := rfl
@[simp] theorem State.setFolio_starting (n f) : (s.setFolio n f).starting = s.starting := rfl
@[simp] theorem State.setFolio_check (n f) : (s.setFolio n f).check = s.check := rfl
@[simp] theorem State.setFolio_now (n f) : (s.setFolio n f).now = s.now := rfl
@[simp] theorem State.setFolio_pins (n f) : (s.setFolio n f).pins = s.pins := rfl
@[simp] theorem State.setFolio_link (n f) : (s.setFolio n f).link = s.link := rfl
@[simp] theorem State.setFolio_clock (n f) : (s.setFolio n f).clock = s.clock := rfl
@[simp] theorem State.setFolio_cards (n f) : (s.setFolio n f).cards = s.cards := rfl
@[simp] theorem State.setFolio_ptu (n f) : (s.setFolio n f).ptu = s.ptu := rfl
@[simp] theorem State.setFolio_roll (n f) : (s.setFolio n f).roll = s.roll := rfl
@[simp] theorem State.setFolio_emu (n f) : (s.setFolio n f).emu = s.emu := rfl
@[simp] theorem State.setFolio_journal (n f) : (s.setFolio n f).journal = s.journal := rfl
@[simp] theorem State.setFolio_store (n f) : (s.setFolio n f).store = s.store := rfl
@[simp] theorem State.setFolio_image (n f) : (s.setFolio n f).image = s.image := rfl
@[simp] theorem State.setFolio_frc (n f) : (s.setFolio n f).frc = s.frc := rfl
@[simp] theorem State.setFolio_choices (n f) : (s.setFolio n f).choices = s.choices := rfl
@[simp] theorem State.setFolio_drawn (n f) : (s.setFolio n f).drawn = s.drawn := rfl
@[simp] theorem State.setFolio_pending (n f) : (s.setFolio n f).pending = s.pending := rfl
@[simp] theorem State.setFolio_portal (n f k) : (s.setFolio n f).portal k = s.portal k := rfl
@[simp] theorem State.setFolio_timing (n f k) : (s.setFolio n f).timing k = s.timing k := rfl
@[simp] theorem State.setFolio_person (n f k) : (s.setFolio n f).person k = s.person k := rfl
@[simp] theorem State.setFolio_beforeImage (n f k) : (s.setFolio n f).beforeImage k = s.beforeImage k := rfl
@[simp] theorem State.setFolio_station (n f k) : (s.setFolio n f).station k = s.station k := rfl
@[simp] theorem State.setFolio_holdSlot (n f k) : (s.setFolio n f).holdSlot k = s.holdSlot k := rfl
@[simp] theorem State.setFolio_pointer (n f k) : (s.setFolio n f).pointer k = s.pointer k := rfl
@[simp] theorem State.setFolio_way (n f k) : (s.setFolio n f).way k = s.way k := rfl
@[simp] theorem State.setFolio_fetch (n f k) : (s.setFolio n f).fetch k = s.fetch k := rfl
@[simp] theorem State.setFolio_entry (n f k l) : (s.setFolio n f).entry k l = s.entry k l := rfl

/-! setHoldSlot -/
@[simp] theorem State.setHoldSlot_supply (n h) : (s.setHoldSlot n h).supply = s.supply := rfl
@[simp] theorem State.setHoldSlot_starting (n h) : (s.setHoldSlot n h).starting = s.starting := rfl
@[simp] theorem State.setHoldSlot_check (n h) : (s.setHoldSlot n h).check = s.check := rfl
@[simp] theorem State.setHoldSlot_now (n h) : (s.setHoldSlot n h).now = s.now := rfl
@[simp] theorem State.setHoldSlot_pins (n h) : (s.setHoldSlot n h).pins = s.pins := rfl
@[simp] theorem State.setHoldSlot_link (n h) : (s.setHoldSlot n h).link = s.link := rfl
@[simp] theorem State.setHoldSlot_clock (n h) : (s.setHoldSlot n h).clock = s.clock := rfl
@[simp] theorem State.setHoldSlot_cards (n h) : (s.setHoldSlot n h).cards = s.cards := rfl
@[simp] theorem State.setHoldSlot_ptu (n h) : (s.setHoldSlot n h).ptu = s.ptu := rfl
@[simp] theorem State.setHoldSlot_roll (n h) : (s.setHoldSlot n h).roll = s.roll := rfl
@[simp] theorem State.setHoldSlot_emu (n h) : (s.setHoldSlot n h).emu = s.emu := rfl
@[simp] theorem State.setHoldSlot_journal (n h) : (s.setHoldSlot n h).journal = s.journal := rfl
@[simp] theorem State.setHoldSlot_store (n h) : (s.setHoldSlot n h).store = s.store := rfl
@[simp] theorem State.setHoldSlot_image (n h) : (s.setHoldSlot n h).image = s.image := rfl
@[simp] theorem State.setHoldSlot_frc (n h) : (s.setHoldSlot n h).frc = s.frc := rfl
@[simp] theorem State.setHoldSlot_choices (n h) : (s.setHoldSlot n h).choices = s.choices := rfl
@[simp] theorem State.setHoldSlot_drawn (n h) : (s.setHoldSlot n h).drawn = s.drawn := rfl
@[simp] theorem State.setHoldSlot_pending (n h) : (s.setHoldSlot n h).pending = s.pending := rfl
@[simp] theorem State.setHoldSlot_portal (n h k) : (s.setHoldSlot n h).portal k = s.portal k := rfl
@[simp] theorem State.setHoldSlot_timing (n h k) : (s.setHoldSlot n h).timing k = s.timing k := rfl
@[simp] theorem State.setHoldSlot_person (n h k) : (s.setHoldSlot n h).person k = s.person k := rfl
@[simp] theorem State.setHoldSlot_beforeImage (n h k) : (s.setHoldSlot n h).beforeImage k = s.beforeImage k := rfl
@[simp] theorem State.setHoldSlot_station (n h k) : (s.setHoldSlot n h).station k = s.station k := rfl
@[simp] theorem State.setHoldSlot_folio (n h k) : (s.setHoldSlot n h).folio k = s.folio k := rfl
@[simp] theorem State.setHoldSlot_pointer (n h k) : (s.setHoldSlot n h).pointer k = s.pointer k := rfl
@[simp] theorem State.setHoldSlot_way (n h k) : (s.setHoldSlot n h).way k = s.way k := rfl
@[simp] theorem State.setHoldSlot_fetch (n h k) : (s.setHoldSlot n h).fetch k = s.fetch k := rfl
@[simp] theorem State.setHoldSlot_entry (n h k l) : (s.setHoldSlot n h).entry k l = s.entry k l := rfl

/-! setEntry -/
@[simp] theorem State.setEntry_supply (a b e) : (s.setEntry a b e).supply = s.supply := rfl
@[simp] theorem State.setEntry_starting (a b e) : (s.setEntry a b e).starting = s.starting := rfl
@[simp] theorem State.setEntry_check (a b e) : (s.setEntry a b e).check = s.check := rfl
@[simp] theorem State.setEntry_now (a b e) : (s.setEntry a b e).now = s.now := rfl
@[simp] theorem State.setEntry_pins (a b e) : (s.setEntry a b e).pins = s.pins := rfl
@[simp] theorem State.setEntry_link (a b e) : (s.setEntry a b e).link = s.link := rfl
@[simp] theorem State.setEntry_clock (a b e) : (s.setEntry a b e).clock = s.clock := rfl
@[simp] theorem State.setEntry_ptu (a b e) : (s.setEntry a b e).ptu = s.ptu := rfl
@[simp] theorem State.setEntry_roll (a b e) : (s.setEntry a b e).roll = s.roll := rfl
@[simp] theorem State.setEntry_emu (a b e) : (s.setEntry a b e).emu = s.emu := rfl
@[simp] theorem State.setEntry_purse (a b e) : (s.setEntry a b e).purse = s.purse := rfl
@[simp] theorem State.setEntry_journal (a b e) : (s.setEntry a b e).journal = s.journal := rfl
@[simp] theorem State.setEntry_store (a b e) : (s.setEntry a b e).store = s.store := rfl
@[simp] theorem State.setEntry_image (a b e) : (s.setEntry a b e).image = s.image := rfl
@[simp] theorem State.setEntry_frc (a b e) : (s.setEntry a b e).frc = s.frc := rfl
@[simp] theorem State.setEntry_choices (a b e) : (s.setEntry a b e).choices = s.choices := rfl
@[simp] theorem State.setEntry_drawn (a b e) : (s.setEntry a b e).drawn = s.drawn := rfl
@[simp] theorem State.setEntry_pending (a b e) : (s.setEntry a b e).pending = s.pending := rfl
@[simp] theorem State.setEntry_portal (a b e k) : (s.setEntry a b e).portal k = s.portal k := rfl
@[simp] theorem State.setEntry_timing (a b e k) : (s.setEntry a b e).timing k = s.timing k := rfl
@[simp] theorem State.setEntry_person (a b e k) : (s.setEntry a b e).person k = s.person k := rfl
@[simp] theorem State.setEntry_beforeImage (a b e k) : (s.setEntry a b e).beforeImage k = s.beforeImage k := rfl
@[simp] theorem State.setEntry_station (a b e k) : (s.setEntry a b e).station k = s.station k := rfl
@[simp] theorem State.setEntry_folio (a b e k) : (s.setEntry a b e).folio k = s.folio k := rfl
@[simp] theorem State.setEntry_holdSlot (a b e k) : (s.setEntry a b e).holdSlot k = s.holdSlot k := rfl
@[simp] theorem State.setEntry_pointer (a b e k) : (s.setEntry a b e).pointer k = s.pointer k := rfl
@[simp] theorem State.setEntry_way (a b e k) : (s.setEntry a b e).way k = s.way k := rfl
@[simp] theorem State.setEntry_fetch (a b e k) : (s.setEntry a b e).fetch k = s.fetch k := rfl

/-! setPointer -/
@[simp] theorem State.setPointer_supply (n p) : (s.setPointer n p).supply = s.supply := rfl
@[simp] theorem State.setPointer_starting (n p) : (s.setPointer n p).starting = s.starting := rfl
@[simp] theorem State.setPointer_check (n p) : (s.setPointer n p).check = s.check := rfl
@[simp] theorem State.setPointer_now (n p) : (s.setPointer n p).now = s.now := rfl
@[simp] theorem State.setPointer_pins (n p) : (s.setPointer n p).pins = s.pins := rfl
@[simp] theorem State.setPointer_link (n p) : (s.setPointer n p).link = s.link := rfl
@[simp] theorem State.setPointer_clock (n p) : (s.setPointer n p).clock = s.clock := rfl
@[simp] theorem State.setPointer_ptu (n p) : (s.setPointer n p).ptu = s.ptu := rfl
@[simp] theorem State.setPointer_roll (n p) : (s.setPointer n p).roll = s.roll := rfl
@[simp] theorem State.setPointer_emu (n p) : (s.setPointer n p).emu = s.emu := rfl
@[simp] theorem State.setPointer_purse (n p) : (s.setPointer n p).purse = s.purse := rfl
@[simp] theorem State.setPointer_journal (n p) : (s.setPointer n p).journal = s.journal := rfl
@[simp] theorem State.setPointer_store (n p) : (s.setPointer n p).store = s.store := rfl
@[simp] theorem State.setPointer_image (n p) : (s.setPointer n p).image = s.image := rfl
@[simp] theorem State.setPointer_frc (n p) : (s.setPointer n p).frc = s.frc := rfl
@[simp] theorem State.setPointer_choices (n p) : (s.setPointer n p).choices = s.choices := rfl
@[simp] theorem State.setPointer_drawn (n p) : (s.setPointer n p).drawn = s.drawn := rfl
@[simp] theorem State.setPointer_pending (n p) : (s.setPointer n p).pending = s.pending := rfl
@[simp] theorem State.setPointer_portal (n p k) : (s.setPointer n p).portal k = s.portal k := rfl
@[simp] theorem State.setPointer_timing (n p k) : (s.setPointer n p).timing k = s.timing k := rfl
@[simp] theorem State.setPointer_person (n p k) : (s.setPointer n p).person k = s.person k := rfl
@[simp] theorem State.setPointer_beforeImage (n p k) : (s.setPointer n p).beforeImage k = s.beforeImage k := rfl
@[simp] theorem State.setPointer_station (n p k) : (s.setPointer n p).station k = s.station k := rfl
@[simp] theorem State.setPointer_folio (n p k) : (s.setPointer n p).folio k = s.folio k := rfl
@[simp] theorem State.setPointer_holdSlot (n p k) : (s.setPointer n p).holdSlot k = s.holdSlot k := rfl
@[simp] theorem State.setPointer_way (n p k) : (s.setPointer n p).way k = s.way k := rfl
@[simp] theorem State.setPointer_fetch (n p k) : (s.setPointer n p).fetch k = s.fetch k := rfl
@[simp] theorem State.setPointer_entry (n p k l) : (s.setPointer n p).entry k l = s.entry k l := rfl

/-! setWay -/
@[simp] theorem State.setWay_supply (n h) : (s.setWay n h).supply = s.supply := rfl
@[simp] theorem State.setWay_starting (n h) : (s.setWay n h).starting = s.starting := rfl
@[simp] theorem State.setWay_check (n h) : (s.setWay n h).check = s.check := rfl
@[simp] theorem State.setWay_now (n h) : (s.setWay n h).now = s.now := rfl
@[simp] theorem State.setWay_pins (n h) : (s.setWay n h).pins = s.pins := rfl
@[simp] theorem State.setWay_link (n h) : (s.setWay n h).link = s.link := rfl
@[simp] theorem State.setWay_clock (n h) : (s.setWay n h).clock = s.clock := rfl
@[simp] theorem State.setWay_ptu (n h) : (s.setWay n h).ptu = s.ptu := rfl
@[simp] theorem State.setWay_roll (n h) : (s.setWay n h).roll = s.roll := rfl
@[simp] theorem State.setWay_emu (n h) : (s.setWay n h).emu = s.emu := rfl
@[simp] theorem State.setWay_purse (n h) : (s.setWay n h).purse = s.purse := rfl
@[simp] theorem State.setWay_journal (n h) : (s.setWay n h).journal = s.journal := rfl
@[simp] theorem State.setWay_store (n h) : (s.setWay n h).store = s.store := rfl
@[simp] theorem State.setWay_image (n h) : (s.setWay n h).image = s.image := rfl
@[simp] theorem State.setWay_frc (n h) : (s.setWay n h).frc = s.frc := rfl
@[simp] theorem State.setWay_choices (n h) : (s.setWay n h).choices = s.choices := rfl
@[simp] theorem State.setWay_drawn (n h) : (s.setWay n h).drawn = s.drawn := rfl
@[simp] theorem State.setWay_pending (n h) : (s.setWay n h).pending = s.pending := rfl
@[simp] theorem State.setWay_portal (n h k) : (s.setWay n h).portal k = s.portal k := rfl
@[simp] theorem State.setWay_timing (n h k) : (s.setWay n h).timing k = s.timing k := rfl
@[simp] theorem State.setWay_person (n h k) : (s.setWay n h).person k = s.person k := rfl
@[simp] theorem State.setWay_beforeImage (n h k) : (s.setWay n h).beforeImage k = s.beforeImage k := rfl
@[simp] theorem State.setWay_station (n h k) : (s.setWay n h).station k = s.station k := rfl
@[simp] theorem State.setWay_folio (n h k) : (s.setWay n h).folio k = s.folio k := rfl
@[simp] theorem State.setWay_holdSlot (n h k) : (s.setWay n h).holdSlot k = s.holdSlot k := rfl
@[simp] theorem State.setWay_pointer (n h k) : (s.setWay n h).pointer k = s.pointer k := rfl
@[simp] theorem State.setWay_fetch (n h k) : (s.setWay n h).fetch k = s.fetch k := rfl
@[simp] theorem State.setWay_entry (n h k l) : (s.setWay n h).entry k l = s.entry k l := rfl

/-! setFetch -/
@[simp] theorem State.setFetch_supply (n f) : (s.setFetch n f).supply = s.supply := rfl
@[simp] theorem State.setFetch_starting (n f) : (s.setFetch n f).starting = s.starting := rfl
@[simp] theorem State.setFetch_check (n f) : (s.setFetch n f).check = s.check := rfl
@[simp] theorem State.setFetch_now (n f) : (s.setFetch n f).now = s.now := rfl
@[simp] theorem State.setFetch_pins (n f) : (s.setFetch n f).pins = s.pins := rfl
@[simp] theorem State.setFetch_link (n f) : (s.setFetch n f).link = s.link := rfl
@[simp] theorem State.setFetch_clock (n f) : (s.setFetch n f).clock = s.clock := rfl
@[simp] theorem State.setFetch_ptu (n f) : (s.setFetch n f).ptu = s.ptu := rfl
@[simp] theorem State.setFetch_roll (n f) : (s.setFetch n f).roll = s.roll := rfl
@[simp] theorem State.setFetch_emu (n f) : (s.setFetch n f).emu = s.emu := rfl
@[simp] theorem State.setFetch_purse (n f) : (s.setFetch n f).purse = s.purse := rfl
@[simp] theorem State.setFetch_journal (n f) : (s.setFetch n f).journal = s.journal := rfl
@[simp] theorem State.setFetch_store (n f) : (s.setFetch n f).store = s.store := rfl
@[simp] theorem State.setFetch_image (n f) : (s.setFetch n f).image = s.image := rfl
@[simp] theorem State.setFetch_frc (n f) : (s.setFetch n f).frc = s.frc := rfl
@[simp] theorem State.setFetch_choices (n f) : (s.setFetch n f).choices = s.choices := rfl
@[simp] theorem State.setFetch_drawn (n f) : (s.setFetch n f).drawn = s.drawn := rfl
@[simp] theorem State.setFetch_pending (n f) : (s.setFetch n f).pending = s.pending := rfl
@[simp] theorem State.setFetch_portal (n f k) : (s.setFetch n f).portal k = s.portal k := rfl
@[simp] theorem State.setFetch_timing (n f k) : (s.setFetch n f).timing k = s.timing k := rfl
@[simp] theorem State.setFetch_person (n f k) : (s.setFetch n f).person k = s.person k := rfl
@[simp] theorem State.setFetch_beforeImage (n f k) : (s.setFetch n f).beforeImage k = s.beforeImage k := rfl
@[simp] theorem State.setFetch_station (n f k) : (s.setFetch n f).station k = s.station k := rfl
@[simp] theorem State.setFetch_folio (n f k) : (s.setFetch n f).folio k = s.folio k := rfl
@[simp] theorem State.setFetch_holdSlot (n f k) : (s.setFetch n f).holdSlot k = s.holdSlot k := rfl
@[simp] theorem State.setFetch_pointer (n f k) : (s.setFetch n f).pointer k = s.pointer k := rfl
@[simp] theorem State.setFetch_way (n f k) : (s.setFetch n f).way k = s.way k := rfl
@[simp] theorem State.setFetch_entry (n f k l) : (s.setFetch n f).entry k l = s.entry k l := rfl

end Records

end Sys2Proof.Machine
end

