-- ==== Sys2Proof/Laws/Tables.lean ====
section
/-! SUPPORT. The laws of the sparse tables: a read after a write, every other record unchanged, and the canonical form
that every operation keeps and that makes equal tables equal data. -/

namespace Sys2Proof

variable {α : Type}

/-! ## Reads -/

@[simp] theorem Table.read_nil (d : α) (k : Nat) : Table.read d [] k = d := rfl

theorem Table.read_cons (d : α) (p : Nat × α) (t : Table α) (k : Nat) :
    Table.read d (p :: t) k = if p.1 = k then p.2 else Table.read d t k := rfl

/-- A read finds a listed record, or the value of an unlisted one. -/
theorem Table.read_mem (d : α) (t : Table α) (k : Nat) : Table.read d t k = d ∨ (k, Table.read d t k) ∈ t := by
  induction t with
  | nil => exact .inl rfl
  | cons p t ih =>
    rw [Table.read_cons]
    split
    · rename_i h; subst h; exact .inr (List.mem_cons_self ..)
    · exact ih.imp_right (List.mem_cons_of_mem _)

theorem Table.read_put (d : α) (t : Table α) (k m : Nat) (v : α) :
    Table.read d (Table.put k v t) m = if m = k then v else Table.read d t m := by
  induction t with
  | nil => simp [Table.put, Table.read_cons, eq_comm]
  | cons p t ih =>
    unfold Table.put
    split
    · by_cases h : m = k
      · simp [Table.read_cons, h]
      · have : ¬k = m := fun h' => h h'.symm
        simp [Table.read_cons, h, this]
    · split
      · rename_i hk
        by_cases h : m = k
        · simp [Table.read_cons, h]
        · have : ¬k = m := fun h' => h h'.symm
          simp [Table.read_cons, h, hk, this]
      · rename_i hlt hne
        by_cases h : m = k
        · subst h; simp [Table.read_cons, hne, ih]
        · simp only [Table.read_cons, ih, h, if_false]

theorem Table.read_drop (d : α) (t : Table α) (k m : Nat) :
    Table.read d (Table.drop k t) m = if m = k then d else Table.read d t m := by
  induction t with
  | nil => simp [Table.drop]
  | cons p t ih =>
    unfold Table.drop at ih ⊢
    by_cases hp : p.1 = k
    · rw [List.filter_cons_of_neg (by simp [hp]), ih]
      by_cases h : m = k
      · simp [h]
      · have : ¬p.1 = m := by omega
        simp [h, Table.read_cons, this]
    · rw [List.filter_cons_of_pos (by simp [hp]), Table.read_cons, ih, Table.read_cons]
      by_cases h : m = k
      · subst h; simp [hp]
      · simp [h]

/-- A record reads what was last written to it, and a write changes no other record. -/
theorem Table.read_write [DecidableEq α] (d : α) (t : Table α) (k m : Nat) (v : α) :
    Table.read d (Table.write d k v t) m = if m = k then v else Table.read d t m := by
  unfold Table.write
  split
  · rename_i h; subst h; exact Table.read_drop v t k m
  · exact Table.read_put d t k m v

@[simp] theorem Table.read_write_same [DecidableEq α] (d : α) (t : Table α) (k : Nat) (v : α) :
    Table.read d (Table.write d k v t) k = v := by simp [Table.read_write]

theorem Table.read_write_other [DecidableEq α] (d : α) (t : Table α) {k m : Nat} (v : α) (h : m ≠ k) :
    Table.read d (Table.write d k v t) m = Table.read d t m := by simp [Table.read_write, h]

/-! ## The canonical form -/

/-- The canonical form: no listed record is the default, and the numbers strictly rise. -/
theorem Table.wf_iff [DecidableEq α] (d : α) (t : Table α) :
    Table.wf d t = true ↔ (∀ p ∈ t, p.2 ≠ d) ∧ t.Pairwise (·.1 < ·.1) := by
  induction t with
  | nil => simp [Table.wf]
  | cons p t ih =>
    cases t with
    | nil => simp [Table.wf]
    | cons q t =>
      simp only [Table.wf, Bool.and_eq_true, bne_iff_ne, ne_eq, decide_eq_true_eq, ih, List.mem_cons,
        forall_eq_or_imp, List.pairwise_cons]
      constructor
      · rintro ⟨⟨hp, hlt⟩, hm, hs⟩
        exact ⟨⟨hp, hm⟩, ⟨hlt, fun a ha => hlt.trans (hs.1 a ha)⟩, hs⟩
      · rintro ⟨⟨hp, hm⟩, ⟨hlt, _⟩, hs⟩
        exact ⟨⟨hp, hlt⟩, hm, hs⟩

theorem Table.mem_put {k : Nat} {v : α} {t : Table α} {p : Nat × α} (h : p ∈ Table.put k v t) : p = (k, v) ∨ p ∈ t := by
  induction t with
  | nil => simpa [Table.put] using h
  | cons q t ih =>
    unfold Table.put at h
    split at h
    · simpa using h
    · split at h
      · rcases List.mem_cons.1 h with h | h
        · exact .inl h
        · exact .inr (List.mem_cons_of_mem _ h)
      · rcases List.mem_cons.1 h with h | h
        · exact .inr (h ▸ List.mem_cons_self)
        · exact (ih h).imp id (List.mem_cons_of_mem _)

theorem Table.wf_put [DecidableEq α] {d v : α} {t : Table α} (k : Nat) (h : Table.wf d t = true) (hv : v ≠ d) :
    Table.wf d (Table.put k v t) = true := by
  rw [Table.wf_iff] at h ⊢
  obtain ⟨hm, hs⟩ := h
  refine ⟨fun p hp => ?_, ?_⟩
  · rcases Table.mem_put hp with rfl | hp
    · exact hv
    · exact hm p hp
  · clear hm
    induction t with
    | nil => simp [Table.put]
    | cons q t ih =>
      obtain ⟨hq, ht⟩ := List.pairwise_cons.1 hs
      unfold Table.put
      split
      · rename_i hlt
        refine List.pairwise_cons.2 ⟨fun a ha => ?_, hs⟩
        rcases List.mem_cons.1 ha with rfl | ha
        · exact hlt
        · exact hlt.trans (hq a ha)
      · split
        · rename_i heq
          exact List.pairwise_cons.2 ⟨fun a ha => heq ▸ hq a ha, ht⟩
        · rename_i hle hne
          refine List.pairwise_cons.2 ⟨fun a ha => ?_, ih ht⟩
          rcases Table.mem_put ha with rfl | ha
          · show q.1 < k; omega
          · exact hq a ha

theorem Table.wf_drop [DecidableEq α] {d : α} {t : Table α} (k : Nat) (h : Table.wf d t = true) :
    Table.wf d (Table.drop k t) = true := by
  rw [Table.wf_iff] at h ⊢
  exact ⟨fun p hp => h.1 p (List.mem_of_mem_filter hp), h.2.filter _⟩

/-- A write keeps the canonical form. -/
theorem Table.wf_write [DecidableEq α] {d : α} {t : Table α} (k : Nat) (v : α) (h : Table.wf d t = true) :
    Table.wf d (Table.write d k v t) = true := by
  unfold Table.write
  split
  · exact Table.wf_drop k h
  · exact Table.wf_put k h ‹_›

/-- A change of every record keeps the canonical form. -/
theorem Table.wf_update [DecidableEq α] {d : α} {t : Table α} (f : α → α) (h : Table.wf d t = true) :
    Table.wf d (Table.update d f t) = true := by
  rw [Table.wf_iff] at h ⊢
  refine ⟨fun p hp => by simpa using (List.mem_filter.1 hp).2, List.Pairwise.filter _ ?_⟩
  exact List.pairwise_map.2 h.2

theorem Table.read_eq_default [DecidableEq α] {d : α} {t : Table α} {k : Nat} (h : ∀ p ∈ t, p.1 ≠ k) :
    Table.read d t k = d := by
  induction t with
  | nil => rfl
  | cons p t ih =>
    rw [Table.read_cons, if_neg (h p List.mem_cons_self)]
    exact ih fun q hq => h q (List.mem_cons_of_mem _ hq)

/-- Two canonical tables that read the same are the same data. -/
theorem Table.ext_of_wf [DecidableEq α] {d : α} {t u : Table α} (ht : Table.wf d t = true) (hu : Table.wf d u = true)
    (h : ∀ k, Table.read d t k = Table.read d u k) : t = u := by
  rw [Table.wf_iff] at ht hu
  induction t generalizing u with
  | nil =>
    cases u with
    | nil => rfl
    | cons q u => exact absurd (by simpa [Table.read_cons] using (h q.1).symm) (hu.1 q List.mem_cons_self)
  | cons p t ih =>
    cases u with
    | nil => exact absurd (by simpa [Table.read_cons] using h p.1) (ht.1 p List.mem_cons_self)
    | cons q u =>
      obtain ⟨hpt, hst⟩ := List.pairwise_cons.1 ht.2
      obtain ⟨hqu, hsu⟩ := List.pairwise_cons.1 hu.2
      have hkeys : p.1 = q.1 := by
        rcases Nat.lt_trichotomy p.1 q.1 with hlt | heq | hlt
        · have hd : Table.read d (q :: u) p.1 = d := Table.read_eq_default fun r hr => by
            rcases List.mem_cons.1 hr with rfl | hr
            · omega
            · have := hqu r hr; omega
          have := h p.1
          rw [hd, Table.read_cons, if_pos rfl] at this
          exact absurd this (ht.1 p List.mem_cons_self)
        · exact heq
        · have hd : Table.read d (p :: t) q.1 = d := Table.read_eq_default fun r hr => by
            rcases List.mem_cons.1 hr with rfl | hr
            · omega
            · have := hpt r hr; omega
          have := h q.1
          rw [hd, Table.read_cons, if_pos rfl] at this
          exact absurd this.symm (hu.1 q List.mem_cons_self)
      have hval : p.2 = q.2 := by
        have := h p.1
        rwa [Table.read_cons, if_pos rfl, Table.read_cons, if_pos hkeys.symm] at this
      have hrest : t = u := by
        refine ih ⟨fun r hr => ht.1 r (List.mem_cons_of_mem _ hr), hst⟩
          ⟨fun r hr => hu.1 r (List.mem_cons_of_mem _ hr), hsu⟩ fun k => ?_
        by_cases hk : p.1 = k
        · subst hk
          rw [Table.read_eq_default fun r hr => (Nat.ne_of_lt (hpt r hr)).symm,
            Table.read_eq_default fun r hr => by have := hqu r hr; omega]
        · have := h k
          rwa [Table.read_cons, if_neg hk, Table.read_cons, if_neg (hkeys ▸ hk)] at this
      rw [hrest, Prod.ext hkeys hval]

/-- The later of two writes of one record stands. -/
theorem Table.write_write [DecidableEq α] {d : α} {t : Table α} (k : Nat) (u v : α) (h : Table.wf d t = true) :
    Table.write d k v (Table.write d k u t) = Table.write d k v t := by
  refine Table.ext_of_wf (Table.wf_write k v (Table.wf_write k u h)) (Table.wf_write k v h) fun m => ?_
  simp only [Table.read_write]
  by_cases hm : m = k <;> simp [hm]

/-- Writing a record as it stands changes nothing. -/
theorem Table.write_read [DecidableEq α] {d : α} {t : Table α} (k : Nat) (h : Table.wf d t = true) :
    Table.write d k (Table.read d t k) t = t := by
  refine Table.ext_of_wf (Table.wf_write k _ h) h fun m => ?_
  rw [Table.read_write]
  by_cases hm : m = k <;> simp [hm]

end Sys2Proof
end

