-- ==== Sys2Proof/Laws/Records.lean ====
section
/-! SUPPORT. Reading a record of the state after one was written: the one written, and every other unchanged. -/

namespace Sys2Proof.Machine

open Sys2Proof

variable (s : State)

@[simp] theorem State.setPortal_portal (n m : Nat) (p : Portal) :
    (s.setPortal n p).portal m = if m = n then p else s.portal m := Table.read_write _ _ _ _ _

@[simp] theorem State.setTiming_timing (n m : Nat) (t : Timing) :
    (s.setTiming n t).timing m = if m = n then t else s.timing m := Table.read_write _ _ _ _ _

@[simp] theorem State.setFolio_folio (n m : Nat) (f : Folio) :
    (s.setFolio n f).folio m = if m = n then f else s.folio m := Table.read_write _ _ _ _ _

@[simp] theorem State.setHoldSlot_holdSlot (n m : Nat) (h : HoldSlot) :
    (s.setHoldSlot n h).holdSlot m = if m = n then h else s.holdSlot m := Table.read_write _ _ _ _ _

@[simp] theorem State.setPointer_pointer (n m p : Nat) :
    (s.setPointer n p).pointer m = if m = n then p else s.pointer m := Table.read_write _ _ _ _ _

@[simp] theorem State.setWay_way (n m : Nat) (h : WayHealth) :
    (s.setWay n h).way m = if m = n then h else s.way m := Table.read_write _ _ _ _ _

@[simp] theorem State.setFetch_fetch (n m : Nat) (f : Option Fetch) :
    (s.setFetch n f).fetch m = if m = n then f else s.fetch m := Table.read_write _ _ _ _ _

theorem State.setEntry_entry (a b c d : Nat) (e : Option CardEntry) (hb : b < 4) (hd : d < 4) :
    (s.setEntry a b e).entry c d = if c = a ∧ d = b then e else s.entry c d := by
  show Table.read none (Table.write none (4 * a + b) e s.cards.entries) (4 * c + d) = _
  rw [Table.read_write]
  have : (4 * c + d = 4 * a + b) ↔ (c = a ∧ d = b) := by omega
  simp [this, State.entry]

@[simp] theorem State.setEntry_entry_same (a b : Nat) (e : Option CardEntry) : (s.setEntry a b e).entry a b = e := by
  show Table.read none (Table.write none (4 * a + b) e s.cards.entries) (4 * a + b) = e
  simp

/-! The later of two writes of one record stands. -/

theorem State.setPortal_setPortal (n : Nat) (p q : Portal) (h : Table.wf defaultPortal s.ptu.portals = true) :
    (s.setPortal n p).setPortal n q = s.setPortal n q := by
  simp [State.setPortal, State.withPtu, Table.write_write n p q h]

theorem State.setFolio_setFolio (n : Nat) (f g : Folio) (h : Table.wf defaultFolio s.purse.folios = true) :
    (s.setFolio n f).setFolio n g = s.setFolio n g := by
  simp [State.setFolio, State.withPurse, Table.write_write n f g h]

theorem State.setHoldSlot_setHoldSlot (n : Nat) (f g : HoldSlot) (h : Table.wf defaultHoldSlot s.purse.holds = true) :
    (s.setHoldSlot n f).setHoldSlot n g = s.setHoldSlot n g := by
  simp [State.setHoldSlot, State.withPurse, Table.write_write n f g h]

theorem State.setEntry_setEntry (set way : Nat) (e f : Option CardEntry) (h : Table.wf none s.cards.entries = true) :
    (s.setEntry set way e).setEntry set way f = s.setEntry set way f := by
  simp [State.setEntry, State.withCards, Table.write_write (4 * set + way) e f h]

end Sys2Proof.Machine
end

