-- ==== Sys2Proof/Laws/Ops.lean ====
section
/-! SUPPORT. One lemma for each shared operation of `Machine/Ops.lean` that says once what it can do: what frames join
the transmit queue, what a report leaves, and what becomes of a request at the link. -/

set_option Elab.async false

namespace Sys2Proof.Machine

open Sys2Proof

variable (s : State)

/-! ## The words of the statements leave all but the link -/

@[simp] theorem State.transmits_supply (fs) : (s.transmits fs).supply = s.supply := rfl
@[simp] theorem State.transmits_starting (fs) : (s.transmits fs).starting = s.starting := rfl
@[simp] theorem State.transmits_check (fs) : (s.transmits fs).check = s.check := rfl
@[simp] theorem State.transmits_now (fs) : (s.transmits fs).now = s.now := rfl
@[simp] theorem State.transmits_pins (fs) : (s.transmits fs).pins = s.pins := rfl
@[simp] theorem State.transmits_clock (fs) : (s.transmits fs).clock = s.clock := rfl
@[simp] theorem State.transmits_cards (fs) : (s.transmits fs).cards = s.cards := rfl
@[simp] theorem State.transmits_ptu (fs) : (s.transmits fs).ptu = s.ptu := rfl
@[simp] theorem State.transmits_roll (fs) : (s.transmits fs).roll = s.roll := rfl
@[simp] theorem State.transmits_emu (fs) : (s.transmits fs).emu = s.emu := rfl
@[simp] theorem State.transmits_purse (fs) : (s.transmits fs).purse = s.purse := rfl
@[simp] theorem State.transmits_journal (fs) : (s.transmits fs).journal = s.journal := rfl
@[simp] theorem State.transmits_store (fs) : (s.transmits fs).store = s.store := rfl
@[simp] theorem State.transmits_image (fs) : (s.transmits fs).image = s.image := rfl
@[simp] theorem State.transmits_frc (fs) : (s.transmits fs).frc = s.frc := rfl
@[simp] theorem State.transmits_choices (fs) : (s.transmits fs).choices = s.choices := rfl
@[simp] theorem State.transmits_drawn (fs) : (s.transmits fs).drawn = s.drawn := rfl
@[simp] theorem State.transmits_pending (fs) : (s.transmits fs).pending = s.pending := rfl
@[simp] theorem State.transmits_portal (fs n) : (s.transmits fs).portal n = s.portal n := rfl
@[simp] theorem State.transmits_timing (fs n) : (s.transmits fs).timing n = s.timing n := rfl
@[simp] theorem State.transmits_person (fs n) : (s.transmits fs).person n = s.person n := rfl
@[simp] theorem State.transmits_beforeImage (fs n) : (s.transmits fs).beforeImage n = s.beforeImage n := rfl
@[simp] theorem State.transmits_station (fs n) : (s.transmits fs).station n = s.station n := rfl
@[simp] theorem State.transmits_folio (fs n) : (s.transmits fs).folio n = s.folio n := rfl
@[simp] theorem State.transmits_holdSlot (fs n) : (s.transmits fs).holdSlot n = s.holdSlot n := rfl
@[simp] theorem State.transmits_pointer (fs n) : (s.transmits fs).pointer n = s.pointer n := rfl
@[simp] theorem State.transmits_way (fs n) : (s.transmits fs).way n = s.way n := rfl
@[simp] theorem State.transmits_fetch (fs n) : (s.transmits fs).fetch n = s.fetch n := rfl
@[simp] theorem State.transmits_entry (fs set way) : (s.transmits fs).entry set way = s.entry set way := rfl

@[simp] theorem State.taken_supply (kind h) : (s.taken kind h).supply = s.supply := rfl
@[simp] theorem State.taken_starting (kind h) : (s.taken kind h).starting = s.starting := rfl
@[simp] theorem State.taken_check (kind h) : (s.taken kind h).check = s.check := rfl
@[simp] theorem State.taken_now (kind h) : (s.taken kind h).now = s.now := rfl
@[simp] theorem State.taken_pins (kind h) : (s.taken kind h).pins = s.pins := rfl
@[simp] theorem State.taken_clock (kind h) : (s.taken kind h).clock = s.clock := rfl
@[simp] theorem State.taken_cards (kind h) : (s.taken kind h).cards = s.cards := rfl
@[simp] theorem State.taken_ptu (kind h) : (s.taken kind h).ptu = s.ptu := rfl
@[simp] theorem State.taken_roll (kind h) : (s.taken kind h).roll = s.roll := rfl
@[simp] theorem State.taken_emu (kind h) : (s.taken kind h).emu = s.emu := rfl
@[simp] theorem State.taken_purse (kind h) : (s.taken kind h).purse = s.purse := rfl
@[simp] theorem State.taken_journal (kind h) : (s.taken kind h).journal = s.journal := rfl
@[simp] theorem State.taken_store (kind h) : (s.taken kind h).store = s.store := rfl
@[simp] theorem State.taken_image (kind h) : (s.taken kind h).image = s.image := rfl
@[simp] theorem State.taken_frc (kind h) : (s.taken kind h).frc = s.frc := rfl
@[simp] theorem State.taken_choices (kind h) : (s.taken kind h).choices = s.choices := rfl
@[simp] theorem State.taken_drawn (kind h) : (s.taken kind h).drawn = s.drawn := rfl
@[simp] theorem State.taken_pending (kind h) : (s.taken kind h).pending = s.pending := rfl
@[simp] theorem State.taken_portal (kind h n) : (s.taken kind h).portal n = s.portal n := rfl
@[simp] theorem State.taken_timing (kind h n) : (s.taken kind h).timing n = s.timing n := rfl
@[simp] theorem State.taken_person (kind h n) : (s.taken kind h).person n = s.person n := rfl
@[simp] theorem State.taken_beforeImage (kind h n) : (s.taken kind h).beforeImage n = s.beforeImage n := rfl
@[simp] theorem State.taken_station (kind h n) : (s.taken kind h).station n = s.station n := rfl
@[simp] theorem State.taken_folio (kind h n) : (s.taken kind h).folio n = s.folio n := rfl
@[simp] theorem State.taken_holdSlot (kind h n) : (s.taken kind h).holdSlot n = s.holdSlot n := rfl
@[simp] theorem State.taken_pointer (kind h n) : (s.taken kind h).pointer n = s.pointer n := rfl
@[simp] theorem State.taken_way (kind h n) : (s.taken kind h).way n = s.way n := rfl
@[simp] theorem State.taken_fetch (kind h n) : (s.taken kind h).fetch n = s.fetch n := rfl
@[simp] theorem State.taken_entry (kind h set way) : (s.taken kind h).entry set way = s.entry set way := rfl

@[simp] theorem State.replied_supply (kind h r fs) : (s.replied kind h r fs).supply = s.supply := rfl
@[simp] theorem State.replied_starting (kind h r fs) : (s.replied kind h r fs).starting = s.starting := rfl
@[simp] theorem State.replied_check (kind h r fs) : (s.replied kind h r fs).check = s.check := rfl
@[simp] theorem State.replied_now (kind h r fs) : (s.replied kind h r fs).now = s.now := rfl
@[simp] theorem State.replied_pins (kind h r fs) : (s.replied kind h r fs).pins = s.pins := rfl
@[simp] theorem State.replied_clock (kind h r fs) : (s.replied kind h r fs).clock = s.clock := rfl
@[simp] theorem State.replied_cards (kind h r fs) : (s.replied kind h r fs).cards = s.cards := rfl
@[simp] theorem State.replied_ptu (kind h r fs) : (s.replied kind h r fs).ptu = s.ptu := rfl
@[simp] theorem State.replied_roll (kind h r fs) : (s.replied kind h r fs).roll = s.roll := rfl
@[simp] theorem State.replied_emu (kind h r fs) : (s.replied kind h r fs).emu = s.emu := rfl
@[simp] theorem State.replied_purse (kind h r fs) : (s.replied kind h r fs).purse = s.purse := rfl
@[simp] theorem State.replied_journal (kind h r fs) : (s.replied kind h r fs).journal = s.journal := rfl
@[simp] theorem State.replied_store (kind h r fs) : (s.replied kind h r fs).store = s.store := rfl
@[simp] theorem State.replied_image (kind h r fs) : (s.replied kind h r fs).image = s.image := rfl
@[simp] theorem State.replied_frc (kind h r fs) : (s.replied kind h r fs).frc = s.frc := rfl
@[simp] theorem State.replied_choices (kind h r fs) : (s.replied kind h r fs).choices = s.choices := rfl
@[simp] theorem State.replied_drawn (kind h r fs) : (s.replied kind h r fs).drawn = s.drawn := rfl
@[simp] theorem State.replied_pending (kind h r fs) : (s.replied kind h r fs).pending = s.pending := rfl
@[simp] theorem State.replied_portal (kind h r fs n) : (s.replied kind h r fs).portal n = s.portal n := rfl
@[simp] theorem State.replied_timing (kind h r fs n) : (s.replied kind h r fs).timing n = s.timing n := rfl
@[simp] theorem State.replied_person (kind h r fs n) : (s.replied kind h r fs).person n = s.person n := rfl
@[simp] theorem State.replied_beforeImage (kind h r fs n) : (s.replied kind h r fs).beforeImage n = s.beforeImage n := rfl
@[simp] theorem State.replied_station (kind h r fs n) : (s.replied kind h r fs).station n = s.station n := rfl
@[simp] theorem State.replied_folio (kind h r fs n) : (s.replied kind h r fs).folio n = s.folio n := rfl
@[simp] theorem State.replied_holdSlot (kind h r fs n) : (s.replied kind h r fs).holdSlot n = s.holdSlot n := rfl
@[simp] theorem State.replied_pointer (kind h r fs n) : (s.replied kind h r fs).pointer n = s.pointer n := rfl
@[simp] theorem State.replied_way (kind h r fs n) : (s.replied kind h r fs).way n = s.way n := rfl
@[simp] theorem State.replied_fetch (kind h r fs n) : (s.replied kind h r fs).fetch n = s.fetch n := rfl
@[simp] theorem State.replied_entry (kind h r fs set way) : (s.replied kind h r fs).entry set way = s.entry set way := rfl

@[simp] theorem State.replies_supply (kind h r fs) : (s.replies kind h r fs).supply = s.supply := rfl
@[simp] theorem State.replies_starting (kind h r fs) : (s.replies kind h r fs).starting = s.starting := rfl
@[simp] theorem State.replies_check (kind h r fs) : (s.replies kind h r fs).check = s.check := rfl
@[simp] theorem State.replies_now (kind h r fs) : (s.replies kind h r fs).now = s.now := rfl
@[simp] theorem State.replies_pins (kind h r fs) : (s.replies kind h r fs).pins = s.pins := rfl
@[simp] theorem State.replies_clock (kind h r fs) : (s.replies kind h r fs).clock = s.clock := rfl
@[simp] theorem State.replies_cards (kind h r fs) : (s.replies kind h r fs).cards = s.cards := rfl
@[simp] theorem State.replies_ptu (kind h r fs) : (s.replies kind h r fs).ptu = s.ptu := rfl
@[simp] theorem State.replies_roll (kind h r fs) : (s.replies kind h r fs).roll = s.roll := rfl
@[simp] theorem State.replies_emu (kind h r fs) : (s.replies kind h r fs).emu = s.emu := rfl
@[simp] theorem State.replies_purse (kind h r fs) : (s.replies kind h r fs).purse = s.purse := rfl
@[simp] theorem State.replies_journal (kind h r fs) : (s.replies kind h r fs).journal = s.journal := rfl
@[simp] theorem State.replies_store (kind h r fs) : (s.replies kind h r fs).store = s.store := rfl
@[simp] theorem State.replies_image (kind h r fs) : (s.replies kind h r fs).image = s.image := rfl
@[simp] theorem State.replies_frc (kind h r fs) : (s.replies kind h r fs).frc = s.frc := rfl
@[simp] theorem State.replies_choices (kind h r fs) : (s.replies kind h r fs).choices = s.choices := rfl
@[simp] theorem State.replies_drawn (kind h r fs) : (s.replies kind h r fs).drawn = s.drawn := rfl
@[simp] theorem State.replies_pending (kind h r fs) : (s.replies kind h r fs).pending = s.pending := rfl
@[simp] theorem State.replies_portal (kind h r fs n) : (s.replies kind h r fs).portal n = s.portal n := rfl
@[simp] theorem State.replies_timing (kind h r fs n) : (s.replies kind h r fs).timing n = s.timing n := rfl
@[simp] theorem State.replies_person (kind h r fs n) : (s.replies kind h r fs).person n = s.person n := rfl
@[simp] theorem State.replies_beforeImage (kind h r fs n) : (s.replies kind h r fs).beforeImage n = s.beforeImage n := rfl
@[simp] theorem State.replies_station (kind h r fs n) : (s.replies kind h r fs).station n = s.station n := rfl
@[simp] theorem State.replies_folio (kind h r fs n) : (s.replies kind h r fs).folio n = s.folio n := rfl
@[simp] theorem State.replies_holdSlot (kind h r fs n) : (s.replies kind h r fs).holdSlot n = s.holdSlot n := rfl
@[simp] theorem State.replies_pointer (kind h r fs n) : (s.replies kind h r fs).pointer n = s.pointer n := rfl
@[simp] theorem State.replies_way (kind h r fs n) : (s.replies kind h r fs).way n = s.way n := rfl
@[simp] theorem State.replies_fetch (kind h r fs n) : (s.replies kind h r fs).fetch n = s.fetch n := rfl
@[simp] theorem State.replies_entry (kind h r fs set way) : (s.replies kind h r fs).entry set way = s.entry set way := rfl

/-! ## Writing a block and writing the link do not meet -/

@[simp] theorem State.transmits_withClock (fs x) : (s.transmits fs).withClock x = (s.withClock x).transmits fs := rfl
@[simp] theorem State.transmits_withCards (fs x) : (s.transmits fs).withCards x = (s.withCards x).transmits fs := rfl
@[simp] theorem State.transmits_withPtu (fs x) : (s.transmits fs).withPtu x = (s.withPtu x).transmits fs := rfl
@[simp] theorem State.transmits_withRoll (fs x) : (s.transmits fs).withRoll x = (s.withRoll x).transmits fs := rfl
@[simp] theorem State.transmits_withEmu (fs x) : (s.transmits fs).withEmu x = (s.withEmu x).transmits fs := rfl
@[simp] theorem State.transmits_withPurse (fs x) : (s.transmits fs).withPurse x = (s.withPurse x).transmits fs := rfl
@[simp] theorem State.transmits_withJournal (fs x) : (s.transmits fs).withJournal x = (s.withJournal x).transmits fs := rfl
@[simp] theorem State.transmits_withStore (fs x) : (s.transmits fs).withStore x = (s.withStore x).transmits fs := rfl
@[simp] theorem State.transmits_withImage (fs x) : (s.transmits fs).withImage x = (s.withImage x).transmits fs := rfl
@[simp] theorem State.transmits_withFrc (fs x) : (s.transmits fs).withFrc x = (s.withFrc x).transmits fs := rfl
@[simp] theorem State.transmits_withNow (fs x) : (s.transmits fs).withNow x = (s.withNow x).transmits fs := rfl
@[simp] theorem State.transmits_setPortal (fs n x) : (s.transmits fs).setPortal n x = (s.setPortal n x).transmits fs := rfl
@[simp] theorem State.transmits_setTiming (fs n x) : (s.transmits fs).setTiming n x = (s.setTiming n x).transmits fs := rfl
@[simp] theorem State.transmits_setFolio (fs n x) : (s.transmits fs).setFolio n x = (s.setFolio n x).transmits fs := rfl
@[simp] theorem State.transmits_setHoldSlot (fs n x) : (s.transmits fs).setHoldSlot n x = (s.setHoldSlot n x).transmits fs := rfl
@[simp] theorem State.transmits_setEntry (fs set way x) : (s.transmits fs).setEntry set way x = (s.setEntry set way x).transmits fs := rfl
@[simp] theorem State.transmits_setPointer (fs n x) : (s.transmits fs).setPointer n x = (s.setPointer n x).transmits fs := rfl
@[simp] theorem State.transmits_setWay (fs n x) : (s.transmits fs).setWay n x = (s.setWay n x).transmits fs := rfl
@[simp] theorem State.transmits_setFetch (fs n x) : (s.transmits fs).setFetch n x = (s.setFetch n x).transmits fs := rfl

@[simp] theorem State.taken_withClock (kind h x) : (s.taken kind h).withClock x = (s.withClock x).taken kind h := rfl
@[simp] theorem State.taken_withCards (kind h x) : (s.taken kind h).withCards x = (s.withCards x).taken kind h := rfl
@[simp] theorem State.taken_withPtu (kind h x) : (s.taken kind h).withPtu x = (s.withPtu x).taken kind h := rfl
@[simp] theorem State.taken_withRoll (kind h x) : (s.taken kind h).withRoll x = (s.withRoll x).taken kind h := rfl
@[simp] theorem State.taken_withEmu (kind h x) : (s.taken kind h).withEmu x = (s.withEmu x).taken kind h := rfl
@[simp] theorem State.taken_withPurse (kind h x) : (s.taken kind h).withPurse x = (s.withPurse x).taken kind h := rfl
@[simp] theorem State.taken_withJournal (kind h x) : (s.taken kind h).withJournal x = (s.withJournal x).taken kind h := rfl
@[simp] theorem State.taken_withStore (kind h x) : (s.taken kind h).withStore x = (s.withStore x).taken kind h := rfl
@[simp] theorem State.taken_withImage (kind h x) : (s.taken kind h).withImage x = (s.withImage x).taken kind h := rfl
@[simp] theorem State.taken_withFrc (kind h x) : (s.taken kind h).withFrc x = (s.withFrc x).taken kind h := rfl
@[simp] theorem State.taken_withNow (kind h x) : (s.taken kind h).withNow x = (s.withNow x).taken kind h := rfl
@[simp] theorem State.taken_setPortal (kind h n x) : (s.taken kind h).setPortal n x = (s.setPortal n x).taken kind h := rfl
@[simp] theorem State.taken_setTiming (kind h n x) : (s.taken kind h).setTiming n x = (s.setTiming n x).taken kind h := rfl
@[simp] theorem State.taken_setFolio (kind h n x) : (s.taken kind h).setFolio n x = (s.setFolio n x).taken kind h := rfl
@[simp] theorem State.taken_setHoldSlot (kind h n x) : (s.taken kind h).setHoldSlot n x = (s.setHoldSlot n x).taken kind h := rfl
@[simp] theorem State.taken_setEntry (kind h set way x) : (s.taken kind h).setEntry set way x = (s.setEntry set way x).taken kind h := rfl
@[simp] theorem State.taken_setPointer (kind h n x) : (s.taken kind h).setPointer n x = (s.setPointer n x).taken kind h := rfl
@[simp] theorem State.taken_setWay (kind h n x) : (s.taken kind h).setWay n x = (s.setWay n x).taken kind h := rfl
@[simp] theorem State.taken_setFetch (kind h n x) : (s.taken kind h).setFetch n x = (s.setFetch n x).taken kind h := rfl

/-! ## The transmit queue (R202, R203) -/

@[simp] theorem State.transmits_link (fs) :
    (s.transmits fs).link = { s.link with
      tx := s.link.tx ++ fs, sending := s.link.sending || (s.pins.holdHigh && s.pins.resetHigh) } := rfl

@[simp] theorem State.taken_link (kind h) :
    (s.taken kind h).link = { s.link with rx := .hunting, outstanding := s.link.outstanding ++ [⟨kind, h.tag⟩] } := rfl

@[simp] theorem State.transmits_transmits (a b : List Frame) : (s.transmits a).transmits b = s.transmits (a ++ b) := by
  simp [State.transmits, State.withLink]

/-- A frame that is composed joins the tail, and the transmitter begins if it may. -/
theorem pushFrame_eq (f : Frame) : pushFrame f s = s.transmits [f] := by
  rcases hs : s.link.sending <;> rcases hh : s.pins.holdHigh <;> rcases hr : s.pins.resetHigh <;>
    simp [pushFrame, startTx, State.transmits, State.withLink, hs, hh, hr]

theorem reply_eq (id : ReqId) (b : Body) : reply id b s = s.transmits [.reply id b 0] := pushFrame_eq s _

theorem answer_eq (id : ReqId) (r : Result) (fs : List Fld) : answer id r fs s = s.transmits [.reply id (.plain r fs) 0] :=
  pushFrame_eq s _

theorem decide'_eq (p : Presentation) (d : Decision) : decide' p d s = s.transmits [p.frame d] := pushFrame_eq s _

theorem refuse_eq (p : Presentation) (r : Result) : refuse p r s = s.transmits [p.frame (decisionFor p r none s)] :=
  decide'_eq s p _

/-- The answer to a request that its owner has just been handed. -/
theorem answer_taken (kind : Nat) (h : Hdr) (r : Result) (fs : List Fld) :
    answer ⟨kind, h.tag⟩ r fs (s.taken kind h) = s.replies kind h r fs := answer_eq _ _ _ _

/-- A notice that finds a free slot joins the tail. -/
theorem notify_room (n : Notice) (h : s.NoticeRoom 1) : notify n s = s.transmits [.notice n] := by
  have : noticeRoom s = true := by simp [noticeRoom]; unfold State.NoticeRoom at h; omega
  simp [notify, this, pushFrame_eq]

/-- A notice that finds none is dropped: the flag is set and NOTICE-LOST reported (R193, R202). -/
theorem notify_full (n : Notice) (h : ¬ s.NoticeRoom 1) :
    notify n s = report .noticeLost {} (s.withLink { s.link with noticesLost := true }) := by
  have : noticeRoom s = false := by simp [noticeRoom]; unfold State.NoticeRoom at h; omega
  simp [notify, this]

/-- Notices waiting are counted frame by frame. -/
@[simp] theorem noticesWaiting_append (a b : List Frame) : noticesWaiting (a ++ b) = noticesWaiting a + noticesWaiting b := by
  simp [noticesWaiting]

@[simp] theorem noticesWaiting_notice (n : Notice) : noticesWaiting [.notice n] = 1 := rfl
@[simp] theorem noticesWaiting_reply (id : ReqId) (b : Body) (k : Nat) : noticesWaiting [.reply id b k] = 0 := rfl
@[simp] theorem noticesWaiting_busy (id : ReqId) : noticesWaiting [.busy id] = 0 := rfl
@[simp] theorem noticesWaiting_nil : noticesWaiting [] = 0 := rfl

/-- A report at IGNORE or NOTE changes the recorder alone (R187). -/
theorem report_quiet (k : FaultKind) (f : FaultFields) (h : (s.frc.rowOf k).severity ≠ .alert) :
    report k f s = s.withFrc (s.frc.take k f s.clock.shipTime) := by simp [report, h]

/-- A report at ALERT sends FAULT when a notice slot is free (R192). -/
theorem report_alert (k : FaultKind) (f : FaultFields) (h : (s.frc.rowOf k).severity = .alert) (room : s.NoticeRoom 1) :
    report k f s = (s.withFrc (s.frc.take k f s.clock.shipTime)).transmits
      [.notice (.fault k .alert s.clock.shipTime f (satAdd 255 (s.frc.rowOf k).count 1) (capturesOver .alert s.frc.capture))] := by
  have : noticeRoom (s.withFrc (s.frc.take k f s.clock.shipTime)) = true := by
    show decide (noticesWaiting s.link.tx < 48) = true
    unfold State.NoticeRoom at room; exact decide_eq_true (by omega)
  simp [report, h, sendFaultNotice, this, pushFrame_eq]

/-- At ALERT with no free slot the FAULT notice is dropped and the flag set, with no further report (R193). -/
theorem report_alert_full (k : FaultKind) (f : FaultFields) (h : (s.frc.rowOf k).severity = .alert)
    (full : ¬ s.NoticeRoom 1) :
    report k f s =
      (s.withFrc (s.frc.take k f s.clock.shipTime)).withLink { s.link with noticesLost := true } := by
  have : noticeRoom (s.withFrc (s.frc.take k f s.clock.shipTime)) = false := by
    show decide (noticesWaiting s.link.tx < 48) = false
    unfold State.NoticeRoom at full; exact decide_eq_false (by omega)
  simp [report, h, sendFaultNotice, this]

/-! ## A request at the link (R200) -/

theorem tagInUse_iff (l : Link) (t : Nat) : tagInUse l t = true ↔ t ∈ l.tags := by
  simp only [tagInUse, Link.tags, Bool.or_eq_true, List.any_eq_true, decide_eq_true_eq, List.mem_map, List.mem_append]
  constructor
  · rintro (⟨x, hx, rfl⟩ | ⟨x, hx, rfl⟩)
    · exact ⟨x, .inl hx, rfl⟩
    · exact ⟨x, .inr hx, rfl⟩
  · rintro ⟨x, hx | hx, rfl⟩
    · exact .inl ⟨x, hx, rfl⟩
    · exact .inr ⟨x, hx, rfl⟩

section Accept

variable {s} {kind : Nat} {h : Hdr} {need : Nat} {always : Bool} {act : ReqId → State → State}

theorem accept_deaf (hr : receiving s = false) : accept kind h need always act s = s := by simp [accept, hr]

theorem accept_tagZero (hr : receiving s = true) (h0 : h.tag = 0) :
    accept kind h need always act s =
      report .linkForm { req := some ⟨kind, 0⟩ } (s.withLink { s.link with rx := .hunting }) := by
  simp [accept, hr, h0]

theorem accept_tagUsed (hr : receiving s = true) (h0 : h.tag ≠ 0) (hu : h.tag ∈ s.link.tags) :
    accept kind h need always act s =
      report .linkForm { req := some ⟨kind, h.tag⟩ } (s.withLink { s.link with rx := .hunting }) := by
  have : tagInUse { s.link with rx := .hunting } h.tag = true := (tagInUse_iff s.link h.tag).2 hu
  simp [accept, hr, h0, this]

theorem accept_full (hr : receiving s = true) (h0 : h.tag ≠ 0) (hu : h.tag ∉ s.link.tags)
    (hf : 16 ≤ s.link.outstanding.length) :
    accept kind h need always act s = refuseBusy ⟨kind, h.tag⟩ (s.withLink { s.link with rx := .hunting }) := by
  have : tagInUse { s.link with rx := .hunting } h.tag = false := by
    rw [← Bool.not_eq_true]; exact fun x => hu ((tagInUse_iff s.link h.tag).1 x)
  simp [accept, hr, h0, this, hf]

/-- Steps 1 to 3 passed: the request is on the list, and its LENGTH and the service state are judged. -/
theorem accept_enlisted (e : s.Enlists h) :
    accept kind h need always act s =
      if h.len ≠ need then s.replies kind h .badLength []
      else if s.starting && !always then s.replies kind h .starting []
      else act ⟨kind, h.tag⟩ (s.taken kind h) := by
  obtain ⟨e1, e2, e3, e4, e5⟩ := e
  have hu : tagInUse { s.link with rx := .hunting } h.tag = false := by
    rw [← Bool.not_eq_true]; exact fun x => e4 ((tagInUse_iff s.link h.tag).1 x)
  have hf : ¬ 16 ≤ s.link.outstanding.length := by omega
  simp [accept, receiving, e1, e2, e3, hu, hf, enlist, ← answer_taken, State.taken]

/-- The request reaches its owner. -/
theorem accept_owner (a : s.Accepts h need) : accept kind h need always act s = act ⟨kind, h.tag⟩ (s.taken kind h) := by
  simp [accept_enlisted a.enlists, a.length, a.ready]

/-- PING and STATUS reach their owner in every service state. -/
theorem accept_always (e : s.Enlists h) (hl : h.len = need) :
    accept kind h need true act s = act ⟨kind, h.tag⟩ (s.taken kind h) := by
  simp [accept_enlisted e, hl]

end Accept

end Sys2Proof.Machine
end

