-- ==== Sys2Proof/Laws/Cards.lean ====
section
/-! SUPPORT. What a read, a lookup and a fetch search find, from the words of `Safety.lean`. -/

namespace Sys2Proof.Machine

open Sys2Proof

variable {s : State}

/-! ## Reads (R3, R4) -/

theorem verify_none {set way : Nat} (h : s.entry set way = none) : verify set way s = s := by simp [verify, h]

theorem verify_sound {set way : Nat} {e : CardEntry} (h : s.entry set way = some e) (ok : e.Sound) : verify set way s = s := by
  have : e.fails = false := by rcases ok with h | h <;> simp [CardEntry.fails, h]
  simp [verify, h, this]

/-- A read of a sound table changes nothing. -/
theorem verify_tableSound (ok : s.TableSound) {set way : Nat} (hw : way < 4) : verify set way s = s := by
  cases h : s.entry set way with
  | none => exact verify_none h
  | some e => exact verify_sound h (ok set way e hw h)

theorem lt4_cases {w : Nat} (h : w < 4) : w = 0 ∨ w = 1 ∨ w = 2 ∨ w = 3 := by omega

theorem findWay_lacks {c : Nat} (h : s.Lacks c) : findWay s c = none := by
  unfold findWay
  rw [List.find?_eq_none]
  intro w hw
  have hw' : w < 4 := List.mem_range.1 hw
  cases he : s.entry (setIndex c) w with
  | none => simp
  | some e => simp [h w hw' e he]

theorem findWay_holds {c w : Nat} {e : CardEntry} (h : s.Holds c w e) : findWay s c = some w := by
  have other : ∀ v < 4, v ≠ w →
      ((s.entry (setIndex c) v).any fun x => x.card = c && sees s v x) = false := by
    intro v hv hne
    cases he : s.entry (setIndex c) v with
    | none => rfl
    | some x => simp [h.only v hv hne x he]
  have here : ((s.entry (setIndex c) w).any fun x => x.card = c && sees s w x) = true := by
    rw [h.entry]; simp [h.card, sees]; exact h.found
  unfold findWay
  have r : List.range 4 = [0, 1, 2, 3] := rfl
  rw [r]
  rcases lt4_cases h.way with rfl | rfl | rfl | rfl
  · simp [List.find?, here]
  · simp [List.find?, here, other 0]
  · simp [List.find?, here, other 0, other 1]
  · simp [List.find?, here, other 0, other 1, other 2]

/-- A read among ways none of which reads the number finds nothing and changes nothing. -/
theorem readAmong_lacks {may : Nat → CardEntry → Bool} {c : Nat} {ws : List Nat}
    (h : ∀ w ∈ ws, ∀ e, s.entry (setIndex c) w = some e → e.card ≠ c) : readAmong may c ws s = (none, s) := by
  induction ws with
  | nil => rfl
  | cons w ws ih =>
    have : ((s.entry (setIndex c) w).any fun e => e.card = c && may w e) = false := by
      cases he : s.entry (setIndex c) w with
      | none => rfl
      | some e => simp [h w (.head _) e he]
    unfold readAmong
    rw [this]
    exact ih fun v hv => h v (.tail _ hv)

/-- A read among ways of which one alone reads the number, in an entry that passes its check, gives that entry and changes
nothing. -/
theorem readAmong_holds {may : Nat → CardEntry → Bool} {c w : Nat} {e : CardEntry} (he : s.entry (setIndex c) w = some e)
    (hc : e.card = c) (ok : e.Sound) (hm : may w e = true) {ws : List Nat} (mem : w ∈ ws)
    (only : ∀ v ∈ ws, v ≠ w → ∀ x, s.entry (setIndex c) v = some x → x.card ≠ c) : readAmong may c ws s = (some (w, e), s) := by
  induction ws with
  | nil => cases mem
  | cons v ws ih =>
    by_cases hv : v = w
    · subst hv
      simp [readAmong, he, hc, hm, verify_sound he ok]
    · have : ((s.entry (setIndex c) v).any fun x => x.card = c && may v x) = false := by
        cases hx : s.entry (setIndex c) v with
        | none => rfl
        | some x => simp [only v (.head _) hv x hx]
      unfold readAmong
      rw [this]
      exact ih (by simpa [Ne.symm hv] using mem) fun u hu => only u (.tail _ hu)

theorem readCard_lacks {c : Nat} (h : s.Lacks c) : readCard c s = (none, s) :=
  readAmong_lacks fun w hw => h w (List.mem_range.1 hw)

theorem readSeen_lacks {c : Nat} (h : s.Lacks c) : readSeen c s = (none, s) :=
  readAmong_lacks fun w hw => h w (List.mem_range.1 hw)

theorem readCard_holds {c w : Nat} {e : CardEntry} (h : s.Holds c w e) (ok : e.Sound) :
    readCard c s = (some (w, e), s) :=
  readAmong_holds h.entry h.card ok rfl (List.mem_range.2 h.way) fun v hv => h.only v (List.mem_range.1 hv)

theorem readSeen_holds {c w : Nat} {e : CardEntry} (h : s.Holds c w e) (ok : e.Sound) :
    readSeen c s = (some (w, e), s) :=
  readAmong_holds h.entry h.card ok (by simpa [sees] using h.found) (List.mem_range.2 h.way)
    fun v hv => h.only v (List.mem_range.1 hv)

theorem entryWay_lacks {c : Nat} (h : s.Lacks c) : entryWay s c = none := by
  unfold entryWay
  rw [List.find?_eq_none]
  intro w hw
  cases he : s.entry (setIndex c) w with
  | none => simp
  | some e => simp [h w (List.mem_range.1 hw) e he]

/-- The verification of a set whose entries pass their checks changes nothing (R12). -/
theorem verifySet_sound {set : Nat} (ok : ∀ v < 4, ∀ e, s.entry set v = some e → e.Sound) : verifySet set s = s := by
  have step (w : Nat) (hw : w < 4) : verify set w s = s := by
    cases he : s.entry set w with
    | none => exact verify_none he
    | some e => exact verify_sound he (ok w hw e he)
  have all : ∀ ws : List Nat, (∀ w ∈ ws, w < 4) →
      ws.foldl (fun s w => if (s.way w).enabled then verify set w s else s) s = s := by
    intro ws
    induction ws with
    | nil => intro _; rfl
    | cons w ws ih => intro h; simp [step w (h w (.head _)), ih fun v hv => h v (.tail _ hv)]
  exact all _ fun w hw => List.mem_range.1 hw

/-- A record of a card whose entry passes its check updates it in place (R17). -/
theorem placeRecord_holds {fresh e : CardEntry} {w : Nat} (h : s.Holds fresh.card w e) (ok : e.Sound) :
    placeRecord fresh s = (.updated w, writeEntry (setIndex fresh.card) w (·.merge fresh) s) := by
  simp [placeRecord, readCard_holds h ok]

/-- A record of a card with no entry, in a set whose entries pass their checks, is installed or finds no way (R18). -/
theorem placeRecord_lacks {fresh : CardEntry} (h : s.Lacks fresh.card)
    (ok : ∀ v < 4, ∀ e, s.entry (setIndex fresh.card) v = some e → e.Sound) :
    placeRecord fresh s = match install fresh s with
      | (some w, s) => (.installed w, s)
      | (none, s) => (.failed, s) := by
  cases hi : install fresh s with
  | mk p t => cases p <;> simp [placeRecord, readCard_lacks h, verifySet_sound ok, entryWay_lacks h, hi]

/-- A hit moves the pointer off the way it names (R13). -/
theorem lookup_hit {c w : Nat} {e : CardEntry} (h : s.Holds c w e) (fresh : e.suspect = false) (ok : e.codeDiff = 0) :
    lookup c s = (some e, if s.pointer (setIndex c) = w then s.setPointer (setIndex c) ((w + 1) % 4) else s) := by
  simp [lookup, findWay_holds h, verify_sound h.entry (.inr ok), h.entry, fresh]

theorem lookup_miss {c : Nat} (h : s.Lacks c) : lookup c s = (none, s) := by simp [lookup, findWay_lacks h]

/-! ## Fetches (R22) -/

theorem fetchOf_none {c : Nat} (h : s.NoFetch c) : fetchOf s c = none := by
  unfold fetchOf
  rw [List.find?_eq_none]
  intro p hp
  simp only [List.mem_filterMap, List.mem_range, Option.map_eq_some_iff] at hp
  obtain ⟨m, hm, g, hg, rfl⟩ := hp
  simpa using h m hm g hg

theorem fetchOf_fetches {c n : Nat} {f : Fetch} (h : s.Fetches c n f) : fetchOf s c = some (n, f) := by
  unfold fetchOf
  cases hfind : List.find? (fun p => decide (p.2.card = c)) ((List.range 16).filterMap fun n => (s.fetch n).map fun f => (n, f)) with
  | none =>
    rw [List.find?_eq_none] at hfind
    have := hfind (n, f) (by
      simp only [List.mem_filterMap, List.mem_range, Option.map_eq_some_iff]
      exact ⟨n, h.number, f, h.fetch, rfl⟩)
    simp [h.card] at this
  | some p =>
    have hp := List.find?_some hfind
    have hm := List.mem_of_find?_eq_some hfind
    simp only [List.mem_filterMap, List.mem_range, Option.map_eq_some_iff] at hm
    obtain ⟨m, hlt, g, hg, rfl⟩ := hm
    have : m = n := h.only m hlt g hg (by simpa using hp)
    subst this
    rw [h.fetch] at hg
    cases hg
    rfl

/-- A run of refusals composes its replies in order (R25, R26). -/
theorem refuse_all (ps : List Presentation) (r : Result) (s : State) :
    ps.foldl (fun s p => refuse p r s) s = if ps = [] then s else s.transmits (ps.map fun p => p.frame (decisionFor p r none s)) := by
  have same (p : Presentation) (fs : List Frame) (s : State) : decisionFor p r none (s.transmits fs) = decisionFor p r none s := by
    unfold decisionFor; cases p.job <;> rfl
  induction ps generalizing s with
  | nil => rfl
  | cons p ps ih =>
    rw [List.foldl_cons, ih, refuse_eq]
    by_cases h : ps = []
    · subst h; simp
    · simp [h, same]

end Sys2Proof.Machine
end

