-- ==== Sys2Proof/Laws/PerInstr.lean ====
section
/-! SUPPORT. The family Frames, one lemma per command: the body a well-formed request carries has the length its kind
requires (R208, R209). -/

set_option Elab.async false

namespace Sys2Proof.Laws.Frames

open Sys2Proof

/-- A well-formed command's body has the length its kind requires; a command that is no request has none. -/
def Statement (i : Instr) : Prop := WellFormed i = true → i.body.length = i.required

theorem flatMap_be_length {α : Type} (w : Nat) (f : α → Nat) (l : List α) :
    (l.flatMap fun x => be w (f x)).length = w * l.length := by
  induction l with
  | nil => simp
  | cons x l ih => simp only [List.flatMap_cons, List.length_append, be_length, ih, List.length_cons]; ring

theorem cardRecord_length (r : CardRecord) (h : r.ok = true) : r.bytes.length = cardLoadLength r.grantCount := by
  have hg : r.grants.length = r.grantCount := by
    simp only [CardRecord.ok, Bool.and_eq_true, decide_eq_true_eq] at h
    exact h.1.2
  have hb := flatMap_be_length 2 id r.grants
  simp only [id_eq] at hb
  have : r.grants.flatMap (be 2) = r.grants.flatMap fun x => be 2 x := rfl
  simp only [CardRecord.bytes, cardLoadLength, List.length_append, be_length, this, hb, hg]

theorem tariff_length (t : Tariff) (h : t.ok = true) : t.bytes.length = 91 := by
  have hg : t.gratuity.length = 8 := by
    simp only [Tariff.ok, Bool.and_eq_true, decide_eq_true_eq] at h
    exact h.1.1.1.1.1.1
  have hb := flatMap_be_length 2 id t.gratuity
  simp only [id_eq] at hb
  have : t.gratuity.flatMap (be 2) = t.gratuity.flatMap fun x => be 2 x := rfl
  simp [Tariff.bytes, Tariff.rows, this, hb, hg]

theorem powerLoss : Statement (.powerLoss) := fun _ => rfl
theorem coldReset (check straps) : Statement (.coldReset check straps) := fun _ => rfl
theorem storeScan : Statement (.storeScan) := fun _ => rfl
theorem resetAsserted : Statement (.resetAsserted) := fun _ => rfl
theorem warmReset (straps) : Statement (.warmReset straps) := fun _ => rfl
theorem holdLineChange (high) : Statement (.holdLineChange high) := fun _ => rfl
theorem frameSent : Statement (.frameSent) := fun _ => rfl
theorem byteGapTimeout (bytes) : Statement (.byteGapTimeout bytes) := fun _ => rfl
theorem frameAbandoned (bytes) : Statement (.frameAbandoned bytes) := fun _ => rfl
theorem frameDiscarded : Statement (.frameDiscarded) := fun _ => rfl
theorem unknownKind (h kind) : Statement (.unknownKind h kind) := fun _ => rfl
theorem ping (h) : Statement (.ping h) := fun _ => rfl
theorem status (h) : Statement (.status h) := fun _ => rfl
theorem restart (h) : Statement (.restart h) := fun _ => rfl
theorem linkQuery (h) : Statement (.linkQuery h) := fun _ => rfl
theorem cardLoad (h r) : Statement (.cardLoad h r) := fun ok =>
  cardRecord_length r (by simp only [WellFormed, Bool.and_eq_true] at ok; exact ok.2)
theorem cardUnknown (h card) : Statement (.cardUnknown h card) := fun _ => by simp [Instr.body, Instr.required]
theorem cardRevoke (h card) : Statement (.cardRevoke h card) := fun _ => by simp [Instr.body, Instr.required]
theorem cardResident (h card value) : Statement (.cardResident h card value) := fun _ => by simp [Instr.body, Instr.required]
theorem cardQuery (h form key) : Statement (.cardQuery h form key) := fun _ => by simp [Instr.body, Instr.required]
theorem flush (h) : Statement (.flush h) := fun _ => rfl
theorem wayDisable (h way) : Statement (.wayDisable h way) := fun _ => by simp [Instr.body, Instr.required]
theorem wayRestore (h way) : Statement (.wayRestore h way) := fun _ => by simp [Instr.body, Instr.required]
theorem wayQuery (h) : Statement (.wayQuery h) := fun _ => by simp [Instr.body, Instr.required]
theorem fetchWaitSet (h ms) : Statement (.fetchWaitSet h ms) := fun _ => by simp [Instr.body, Instr.required]
theorem fetchExpiry (fetch) : Statement (.fetchExpiry fetch) := fun _ => rfl
theorem secondCount : Statement (.secondCount) := fun _ => rfl
theorem dayRollover : Statement (.dayRollover) := fun _ => rfl
theorem dayWriteRetry : Statement (.dayWriteRetry) := fun _ => rfl
theorem timeSet (h time) : Statement (.timeSet h time) := fun _ => by simp [Instr.body, Instr.required]
theorem rolloverSet (h offset) : Statement (.rolloverSet h offset) := fun _ => by simp [Instr.body, Instr.required]
theorem clockQuery (h) : Statement (.clockQuery h) := fun _ => rfl
theorem present (h portal card gen) : Statement (.present h portal card gen) := fun _ => by simp [Instr.body, Instr.required]
theorem portalSet (h c) : Statement (.portalSet h c) := fun _ => by simp [Instr.body, Instr.required, PortalConfig.bytes]
theorem portalDisable (h portal) : Statement (.portalDisable h portal) := fun _ => by simp [Instr.body, Instr.required]
theorem portalEnable (h portal) : Statement (.portalEnable h portal) := fun _ => by simp [Instr.body, Instr.required]
theorem portalQuery (h portal) : Statement (.portalQuery h portal) := fun _ => by simp [Instr.body, Instr.required]
theorem portalScan (h) : Statement (.portalScan h) := fun _ => rfl
theorem contact (h portal position) : Statement (.contact h portal position) := fun _ => by simp [Instr.body, Instr.required]
theorem strikeAck (h portal) : Statement (.strikeAck h portal) := fun _ => by simp [Instr.body, Instr.required]
theorem remoteRelease (h portal) : Statement (.remoteRelease h portal) := fun _ => by simp [Instr.body, Instr.required]
theorem timingStage (h set release heldOpen strike applyNow) : Statement (.timingStage h set release heldOpen strike applyNow) := fun _ => by simp [Instr.body, Instr.required]
theorem timingQuery (h set) : Statement (.timingQuery h set) := fun _ => by simp [Instr.body, Instr.required]
theorem releaseTimerExpiry (portal) : Statement (.releaseTimerExpiry portal) := fun _ => rfl
theorem strikeConfirmExpiry (portal) : Statement (.strikeConfirmExpiry portal) := fun _ => rfl
theorem heldOpenExpiry (portal) : Statement (.heldOpenExpiry portal) := fun _ => rfl
theorem capacitySet (h limit level hysteresis) : Statement (.capacitySet h limit level hysteresis) := fun _ => by simp [Instr.body, Instr.required]
theorem guardSet (h seconds) : Statement (.guardSet h seconds) := fun _ => by simp [Instr.body, Instr.required]
theorem capacityAck (h) : Statement (.capacityAck h) := fun _ => rfl
theorem deadlineSet (h d) : Statement (.deadlineSet h d) := fun _ => by cases d <;> simp [Instr.body, Instr.required, deadlineBytes]
theorem deadlineEvent : Statement (.deadlineEvent) := fun _ => rfl
theorem enrol (h person kind state) : Statement (.enrol h person kind state) := fun _ => by simp [Instr.body, Instr.required]
theorem discharge (h person) : Statement (.discharge h person) := fun _ => by simp [Instr.body, Instr.required]
theorem presenceSet (h person state) : Statement (.presenceSet h person state) := fun _ => by simp [Instr.body, Instr.required]
theorem presenceCounts (h) : Statement (.presenceCounts h) := fun _ => rfl
theorem personQuery (h person) : Statement (.personQuery h person) := fun _ => by simp [Instr.body, Instr.required]
theorem rollRead (h start state kind) : Statement (.rollRead h start state kind) := fun _ => by simp [Instr.body, Instr.required]
theorem alarmLineChange (line high) : Statement (.alarmLineChange line high) := fun _ => rfl
theorem debounceExpiry (line) : Statement (.debounceExpiry line) := fun _ => rfl
theorem alarmSet (h enableA enableB debounce startsMuster) : Statement (.alarmSet h enableA enableB debounce startsMuster) := fun _ => by simp [Instr.body, Instr.required]
theorem emergencyDeclare (h value) : Statement (.emergencyDeclare h value) := fun _ => by simp [Instr.body, Instr.required]
theorem emergencyClear (h) : Statement (.emergencyClear h) := fun _ => rfl
theorem resume (h scope portal) : Statement (.resume h scope portal) := fun _ => by simp [Instr.body, Instr.required]
theorem musterStart (h) : Statement (.musterStart h) := fun _ => rfl
theorem musterEnd (h) : Statement (.musterEnd h) := fun _ => rfl
theorem musterWriteRetry : Statement (.musterWriteRetry) := fun _ => rfl
theorem musterQuery (h) : Statement (.musterQuery h) := fun _ => rfl
theorem musterRead (h start) : Statement (.musterRead h start) := fun _ => by simp [Instr.body, Instr.required]
theorem emergencyQuery (h) : Statement (.emergencyQuery h) := fun _ => rfl
theorem authorize (h portal card gen a) : Statement (.authorize h portal card gen a) := fun _ => by simp [Instr.body, Instr.required, ChargeAmounts.bytes]
theorem commit (h hold subtotal alcohol) : Statement (.commit h hold subtotal alcohol) := fun _ => by simp [Instr.body, Instr.required]
theorem voidHold (h hold) : Statement (.voidHold h hold) := fun _ => by simp [Instr.body, Instr.required]
theorem holdExpiry (slot) : Statement (.holdExpiry slot) := fun _ => rfl
theorem holdTimeSet (h seconds) : Statement (.holdTimeSet h seconds) := fun _ => by simp [Instr.body, Instr.required]
theorem holdQuery (h slot) : Statement (.holdQuery h slot) := fun _ => by simp [Instr.body, Instr.required]
theorem holdScan (h) : Statement (.holdScan h) := fun _ => rfl
theorem folioLoad (h folio limit balance state) : Statement (.folioLoad h folio limit balance state) := fun _ => by simp [Instr.body, Instr.required]
theorem folioPost (h folio balance) : Statement (.folioPost h folio balance) := fun _ => by simp [Instr.body, Instr.required]
theorem folioFreeze (h folio) : Statement (.folioFreeze h folio) := fun _ => by simp [Instr.body, Instr.required]
theorem folioOpen (h folio) : Statement (.folioOpen h folio) := fun _ => by simp [Instr.body, Instr.required]
theorem folioClose (h folio) : Statement (.folioClose h folio) := fun _ => by simp [Instr.body, Instr.required]
theorem folioQuery (h folio) : Statement (.folioQuery h folio) := fun _ => by simp [Instr.body, Instr.required]
theorem tariffStage (h t applyNow) : Statement (.tariffStage h t applyNow) := fun ok => by
  simp only [WellFormed, Bool.and_eq_true] at ok
  simp [Instr.body, Instr.required, tariff_length t ok.1.2]
theorem tariffDiscard (h) : Statement (.tariffDiscard h) := fun _ => rfl
theorem tariffQuery (h which) : Statement (.tariffQuery h which) := fun _ => by simp [Instr.body, Instr.required]
theorem journalRead (h start count) : Statement (.journalRead h start count) := fun _ => by simp [Instr.body, Instr.required]
theorem settle (h sequence) : Statement (.settle h sequence) := fun _ => by simp [Instr.body, Instr.required]
theorem storeQuery (h) : Statement (.storeQuery h) := fun _ => rfl
theorem storeWriteBegin : Statement (.storeWriteBegin) := fun _ => rfl
theorem storeAttemptEnd (readBackMatches) : Statement (.storeAttemptEnd readBackMatches) := fun _ => rfl
theorem severitySet (h kind severity) : Statement (.severitySet h kind severity) := fun _ => by simp [Instr.body, Instr.required]
theorem faultRead (h) : Statement (.faultRead h) := fun _ => rfl
theorem faultClear (h) : Statement (.faultClear h) := fun _ => rfl

end Sys2Proof.Laws.Frames
end

