-- ==== Sys2Proof/Tests/Slice0.lean ====
section
/-! SUPPORT. The author's own tests: the checks of `WellFormed`, frames written out byte by byte, one step of the
commands on values taken from the spec's worked examples, and, for each statement with hypotheses, a state and operands
that meet them together. -/

namespace Sys2Proof.Tests

open Sys2Proof Sys2Proof.Machine

/-! ## The hypotheses of the statements, as conditions that can be evaluated -/

theorem enlists_iff {s : State} {h : Hdr} : s.Enlists h ↔
    s.supply = true ∧ s.pins.resetHigh = true ∧ h.tag ≠ 0 ∧ h.tag ∉ s.link.tags ∧ s.link.outstanding.length < 16 :=
  ⟨fun x => ⟨x.1, x.2, x.3, x.4, x.5⟩, fun x => ⟨x.1, x.2.1, x.2.2.1, x.2.2.2.1, x.2.2.2.2⟩⟩

theorem accepts_iff {s : State} {h : Hdr} {n : Nat} : s.Accepts h n ↔ s.Enlists h ∧ h.len = n ∧ s.starting = false :=
  ⟨fun x => ⟨x.1, x.2, x.3⟩, fun x => ⟨x.1, x.2.1, x.2.2⟩⟩

theorem all_iff {α : Type} {o : Option α} {p : α → Prop} [DecidablePred p] : (∀ e, o = some e → p e) ↔ o.all (fun e => decide (p e)) = true := by
  cases o <;> simp

theorem lacks_iff {s : State} {c : Nat} :
    s.Lacks c ↔ ∀ w < 4, (s.entry (setIndex c) w).all (fun e => decide (e.card ≠ c)) = true := by
  unfold State.Lacks; exact forall₂_congr fun _ _ => all_iff

theorem noFetch_iff {s : State} {c : Nat} : s.NoFetch c ↔ ∀ n < 16, (s.fetch n).all (fun f => decide (f.card ≠ c)) = true := by
  unfold State.NoFetch; exact forall₂_congr fun _ _ => all_iff

theorem holds_iff {s : State} {c w : Nat} {e : CardEntry} : s.Holds c w e ↔
    w < 4 ∧ s.entry (setIndex c) w = some e ∧ e.card = c ∧ ((s.way w).enabled = true ∨ 0 < e.holdCount) ∧
      ∀ v < 4, v ≠ w → (s.entry (setIndex c) v).all (fun x => decide (x.card ≠ c)) = true :=
  ⟨fun x => ⟨x.1, x.2, x.3, x.4, fun v hv hw => all_iff.1 (x.5 v hv hw)⟩,
    fun x => ⟨x.1, x.2.1, x.2.2.1, x.2.2.2.1, fun v hv hw => all_iff.2 (x.2.2.2.2 v hv hw)⟩⟩

theorem fetches_iff {s : State} {c n : Nat} {f : Fetch} : s.Fetches c n f ↔
    n < 16 ∧ s.fetch n = some f ∧ f.card = c ∧ ∀ m < 16, (s.fetch m).all (fun g => decide (g.card = c → m = n)) = true :=
  ⟨fun x => ⟨x.1, x.2, x.3, fun m hm => all_iff.1 (x.4 m hm)⟩,
    fun x => ⟨x.1, x.2.1, x.2.2.1, fun m hm => all_iff.2 (x.2.2.2 m hm)⟩⟩

def canonicalB (s : State) : Bool :=
  Table.wf none s.cards.entries && Table.wf 0 s.cards.pointers && Table.wf defaultWay s.cards.ways &&
  Table.wf none s.cards.fetches && Table.wf defaultPortal s.ptu.portals && Table.wf defaultTiming s.ptu.timings &&
  Table.wf defaultSlot s.roll.slots && Table.wf none s.roll.before && Table.wf 0 s.emu.stations &&
  Table.wf defaultFolio s.purse.folios && Table.wf defaultHoldSlot s.purse.holds &&
  Table.wf none s.image.entries && Table.wf defaultSlotRecord s.image.slots

theorem canonical_iff {s : State} : s.Canonical ↔ canonicalB s = true := by
  simp only [canonicalB, Bool.and_eq_true]
  exact ⟨fun x => ⟨⟨⟨⟨⟨⟨⟨⟨⟨⟨⟨⟨x.1, x.2⟩, x.3⟩, x.4⟩, x.5⟩, x.6⟩, x.7⟩, x.8⟩, x.9⟩, x.10⟩, x.11⟩, x.12⟩, x.13⟩,
    fun ⟨⟨⟨⟨⟨⟨⟨⟨⟨⟨⟨⟨a, b⟩, c⟩, d⟩, e⟩, f⟩, g⟩, h⟩, i⟩, j⟩, k⟩, l⟩, m⟩ => ⟨a, b, c, d, e, f, g, h, i, j, k, l, m⟩⟩

theorem goodRecord_iff {r : CardRecord} {cls : CardClass} {grants : List Grant} : GoodRecord r cls grants ↔
    r.card ≠ 0 ∧ r.gen ≤ 15 ∧ r.person ≤ 8191 ∧ r.folio ≤ 4095 ∧ cardClasses[r.cls]? = some cls ∧ r.grantCount ≤ 4 ∧
      r.grants.mapM grantOf = some grants :=
  ⟨fun x => ⟨x.1, x.2, x.3, x.4, x.5, x.6, x.7⟩, fun ⟨a, b, c, d, e, f, g⟩ => ⟨a, b, c, d, e, f, g⟩⟩

theorem recorderSound_iff {s : State} : s.RecorderSound ↔
    s.frc.rows.length = 16 ∧ (∀ row ∈ s.frc.rows, row.count ≤ 255) ∧ ∀ c ∈ s.frc.capture, c.severity ≠ .ignore :=
  ⟨fun x => ⟨x.1, x.2, x.3⟩, fun x => ⟨x.1, x.2.1, x.2.2⟩⟩

theorem tableSound_of {s : State} (x : s.cards.entries.all (fun p => p.2.all fun e => e.suspect || e.codeDiff = 0) = true) :
    s.TableSound := by
  intro set way e _ he
  have read : ∀ t : Table (Option CardEntry), t.all (fun p => p.2.all fun e => e.suspect || e.codeDiff = 0) = true →
      ∀ k, Table.read none t k = some e → e.Sound := by
    intro t
    induction t with
    | nil => intro _ k h; simp [Table.read] at h
    | cons p t ih =>
      intro h k hk
      obtain ⟨k', v⟩ := p
      simp only [List.all_cons, Bool.and_eq_true] at h
      unfold Table.read at hk
      split at hk
      · subst hk; simpa [CardEntry.Sound] using h.1
      · exact ih h.2 k hk
  exact read _ x _ he

theorem hits_iff {s : State} {c g w : Nat} {e : CardEntry} : s.Hits c g w e ↔
    c ≠ 0 ∧ g ≤ 15 ∧ s.Holds c w e ∧ e.suspect = false ∧ e.codeDiff = 0 :=
  ⟨fun x => ⟨x.1, x.2, x.3, x.4, x.5⟩, fun x => ⟨x.1, x.2.1, x.2.2.1, x.2.2.2.1, x.2.2.2.2⟩⟩

/-- The hypotheses on a request and on a card as one condition, so that a list of states can be gone through. -/
def acceptsB (s : State) (h : Hdr) (n : Nat) : Bool :=
  decide ((s.supply = true ∧ s.pins.resetHigh = true ∧ h.tag ≠ 0 ∧ h.tag ∉ s.link.tags ∧ s.link.outstanding.length < 16) ∧
    h.len = n ∧ s.starting = false)

theorem accepts_iff_B {s : State} {h : Hdr} {n : Nat} : s.Accepts h n ↔ acceptsB s h n = true := by
  simp only [accepts_iff, enlists_iff, acceptsB, decide_eq_true_eq]

def hitsB (s : State) (c g w : Nat) (e : CardEntry) : Bool :=
  decide (c ≠ 0) && decide (g ≤ 15) && decide (w < 4) && decide (s.entry (setIndex c) w = some e) && decide (e.card = c) &&
    ((s.way w).enabled || decide (0 < e.holdCount)) &&
    ((List.range 4).all fun v => decide (v = w) || (s.entry (setIndex c) v).all fun x => decide (x.card ≠ c)) &&
    !e.suspect && decide (e.codeDiff = 0)

theorem hits_iff_B {s : State} {c g w : Nat} {e : CardEntry} : s.Hits c g w e ↔ hitsB s c g w e = true := by
  simp only [hits_iff, holds_iff, hitsB, Bool.and_eq_true, Bool.or_eq_true, List.all_eq_true, List.mem_range, decide_eq_true_eq,
    Bool.not_eq_true', and_assoc]
  simp only [← Classical.or_iff_not_imp_left]

/-- The hypotheses on a PRESENT that reaches the lookup, by the route it takes. -/
def presentsB (s : State) (h : Hdr) (portal card gen : Nat) (job : Job) : Bool :=
  let door := s.portal portal
  s.clock.isSet && !door.disabled && decide (gen ≤ 15) && decide (card ≠ 0) && acceptsB s h 6 && match job with
    | .door => door.isDoor
    | .gangway => door.cls = some .gangway
    | .muster => door.cls = some .muster && s.emu.record.active
    | .charge _ => false

theorem presents_of {s : State} {h : Hdr} {portal card gen : Nat} {job : Job} (x : presentsB s h portal card gen job = true) :
    s.Presents h (.present h portal card gen) ⟨h.tag, portal, card, gen, job⟩ := by
  simp only [presentsB, Bool.and_eq_true, Bool.not_eq_true', decide_eq_true_eq] at x
  obtain ⟨⟨⟨⟨⟨a, b⟩, c⟩, d⟩, e⟩, f⟩ := x
  refine ⟨rfl, a, b, c, d, .inl ⟨accepts_iff_B.2 e, rfl, ?_⟩⟩
  cases job <;> simp_all

theorem authorizes_of {s : State} {h : Hdr} {portal card gen : Nat} {a : ChargeAmounts}
    (x : (s.clock.isSet = true ∧ (s.portal portal).disabled = false ∧ gen ≤ 15 ∧ card ≠ 0 ∧
      (s.portal portal).cls = some .terminal ∧ s.emu.latch = false) ∧ acceptsB s h 12 = true) :
    s.Presents h (.authorize h portal card gen a) ⟨h.tag, portal, card, gen, .charge a⟩ :=
  ⟨rfl, x.1.1, x.1.2.1, x.1.2.2.1, x.1.2.2.2.1, .inr ⟨a, accepts_iff_B.2 x.2, rfl, x.1.2.2.2.2.1, x.1.2.2.2.2.2, rfl⟩⟩

def grantsB (e : CardEntry) (cls : PortalClass) (p : Portal) : Bool :=
  e.grants.any (fun g => match cls with
    | .cabin => g = .cabin p.cabin || g = .allCabins
    | _ => g = .zone p.zone) || (cls = .venueDoor && p.zone = 0)

theorem grants_iff {e : CardEntry} {cls : PortalClass} {p : Portal} : e.Grants cls p ↔ grantsB e cls p = true := by
  cases cls <;> simp [CardEntry.Grants, grantsB]

theorem listed {α : Type} {d : α} {t : Table α} {P : α → Prop} (x : ∀ p ∈ t, P p.2) (y : P d) (k : Nat) : P (Table.read d t k) :=
  (Table.read_mem d t k).elim (fun h => by rw [h]; exact y) fun h => x _ h

theorem entry_mem {s : State} {set w : Nat} {e : CardEntry} (h : s.entry set w = some e) : (4 * set + w, some e) ∈ s.cards.entries :=
  (Table.read_mem none s.cards.entries (4 * set + w)).elim (fun x => nomatch x.symm.trans h) fun x => h ▸ x

theorem fetch_mem {s : State} {n : Nat} {f : Fetch} (h : s.fetch n = some f) : (n, some f) ∈ s.cards.fetches :=
  (Table.read_mem none s.cards.fetches n).elim (fun x => nomatch x.symm.trans h) fun x => h ▸ x

theorem portalSound_iff {p : Portal} : p.Sound ↔
    (p.cls = none → p.state = .outOfService ∧ p.disabled = false) ∧
    (p.cls ≠ none → p.isDoor = false → p.state = if p.disabled then .outOfService else .secure) ∧
    (p.isDoor = true → p.disabled = true → p.state = .outOfService ∨ p.state = .emergency) ∧
    (p.isDoor = true → p.disabled = false → p.state ≠ .outOfService) ∧ (p.releaseTimer.isSome = true → p.state = .released) ∧
    (p.heldOpenTimer.isSome = true → p.state = .opened) ∧ p.strikeTimer.isSome = p.strikePending ∧
    (p.strikePending = true → p.state = .released) :=
  ⟨fun x => ⟨x.1, x.2, x.3, x.4, x.5, x.6, x.7, x.8⟩, fun ⟨a, b, c, d, e, f, g, h⟩ => ⟨a, b, c, d, e, f, g, h⟩⟩

theorem portalsSound_of {s : State} (x : ∀ p ∈ s.ptu.portals, p.2.Sound) (y : s.emu.condition = conditionNow s.emu)
    (z : s.emu.condition = true → ∀ p ∈ s.ptu.portals, p.2.isDoor = true → p.2.preset ≠ .normal → p.2.state = .emergency) :
    s.PortalsSound :=
  ⟨listed (P := Portal.Sound) x (portalSound_iff.2 (by decide)), y,
    fun c => listed (P := fun p : Portal => p.isDoor = true → p.preset ≠ .normal → p.state = .emergency) (z c) (by decide)⟩

/-- The conditions of `TableBounded` and of the entries' part of `HoldsCounted`, of the listed records. -/
theorem tableBounded_of {s : State}
    (x : ∀ p ∈ s.cards.entries, ∀ q ∈ s.cards.entries, p.1 / 4 = q.1 / 4 → p.2.map (·.card) = q.2.map (·.card) → p.1 = q.1)
    (y : ∀ p ∈ s.cards.entries, p.2.all (fun e => !e.resident) = true)
    (z : ∀ p ∈ s.cards.fetches, ∀ q ∈ s.cards.fetches, p.2.map (·.card) = q.2.map (·.card) → p.1 = q.1) : s.TableBounded := by
  refine ⟨fun set v hv w hw a b ha hb hc => ?_, fun set => ?_, fun m _ n _ f g hf hg hc => ?_⟩
  · have := x _ (entry_mem ha) _ (entry_mem hb) (by simp only; omega) (by simp [hc]); simp only at this; omega
  · have : (List.range 4).filter (fun w => (s.entry set w).any (·.resident)) = [] := List.filter_eq_nil_iff.2 fun w _ => by
      cases h : s.entry set w with
      | none => simp
      | some e => have := y _ (entry_mem h); simpa using this
    rw [this]; exact Nat.zero_le _
  · exact z _ (fetch_mem hf) _ (fetch_mem hg) (by simp [hc])

theorem holdsCounted_of {s : State}
    (x : ∀ p ∈ s.cards.entries, p.2.all (fun e => (e.suspect || e.codeDiff = 0) && setIndex e.card = p.1 / 4 &&
      e.holdCount = (holdsOfCard s e.card).length && e.holdCount ≤ 2 && ((s.way (p.1 % 4)).enabled || 0 < e.holdCount)) = true)
    (y : ∀ x ∈ openHolds s, (List.range 4).any (fun w => (s.entry (setIndex x.2.card) w).any fun e => e.card = x.2.card) = true)
    (z : ∀ p ∈ s.cards.fetches, p.2.all (fun f => f.waiting.all fun q => q.card = f.card) = true) : s.HoldsCounted := by
  have all : ∀ set, ∀ w < 4, ∀ e, s.entry set w = some e → (e.suspect = true ∨ e.codeDiff = 0) ∧ setIndex e.card = set ∧
      e.holdCount = (holdsOfCard s e.card).length ∧ e.holdCount ≤ 2 ∧ ((s.way w).enabled = true ∨ 0 < e.holdCount) := by
    intro set w hw e he
    have h := x _ (entry_mem he)
    have a : (4 * set + w) / 4 = set := by omega
    have b : (4 * set + w) % 4 = w := by omega
    simpa [a, b, and_assoc] using h
  refine ⟨fun a b c d e => (all a b c d e).1, fun a b c d e => (all a b c d e).2.1,
    fun a b c d e => ⟨(all a b c d e).2.2.1, (all a b c d e).2.2.2.1⟩, fun a b c d e => (all a b c d e).2.2.2.2, fun p hp => ?_,
    fun n _ f hf p hp => ?_⟩
  · obtain ⟨w, hw, h⟩ := List.any_eq_true.1 (y p hp)
    obtain ⟨e, he, hc⟩ : ∃ e, s.entry (setIndex p.2.card) w = some e ∧ decide (e.card = p.2.card) = true := by
      cases he : s.entry (setIndex p.2.card) w with
      | none => rw [he] at h; cases h
      | some e => rw [he] at h; exact ⟨e, rfl, h⟩
    exact ⟨w, List.mem_range.1 hw, e, he, by simpa using hc⟩
  · have := z _ (fetch_mem hf); simpa using List.all_eq_true.1 this p hp

theorem moneyKept_of {s : State}
    (x : ∀ p ∈ s.purse.folios, p.2.state ≠ .closed → p.2.exposure = heldSum s p.1 + journalSum s p.1)
    (y : ∀ x ∈ openHolds s, (s.folio x.2.folio).state ≠ .closed) (z : s.starting = false)
    (u : s.store.queue.all (fun r => match r with
      | .entry slot a _ => (match (s.holdSlot slot).body with
        | .committing h c => a.folio = h.folio && a.total = c.total
        | _ => false)
      | _ => true) = true)
    (v : (s.store.queue.filterMap StoreReq.appendSlot).Nodup) (i : s.store.queue = [] → s.store.write = none)
    (w : ∀ slot a awaits rest place e next second, s.store.queue = .entry slot a awaits :: rest →
      s.store.write = some ⟨.entry place e next, second⟩ → e.folio = a.folio ∧ e.total = a.total) : s.MoneyKept := by
  refine ⟨fun n hn => ?_, fun n hn => ?_, fun h => (nomatch z.symm.trans h), fun r hr slot a awaits e => ?_, v, i, w⟩
  · rcases Table.read_mem defaultFolio s.purse.folios n with h | h
    · exact absurd (by unfold State.folio; rw [h]; rfl) hn
    · exact x _ h hn
  · have : (openHolds s).filter (fun p => p.2.folio = n) = [] := List.filter_eq_nil_iff.2 fun p hp => by
      have := y p hp; intro h; simp only [decide_eq_true_eq] at h; subst h; exact this hn
    simp [heldSum, this]
  · subst e
    have h := List.all_eq_true.1 u _ hr
    dsimp only at h
    split at h
    · rename_i x c hb; exact ⟨x, c, hb, by simpa using h⟩
    · cases h

/-! ## Well-formedness: one ill-formed term for each check, beside the largest that passes -/

def ok (i : Instr) : Bool := WellFormed i
def ill (is : List Instr) : Bool := is.all fun i => !WellFormed i

/-- A request whose every field is at the largest value its bytes carry. -/
def big : Hdr := ⟨255, 240⟩

theorem test_wellFormed_header : ok (.ping big) = true ∧ ill [.ping ⟨256, 0⟩, .ping ⟨255, 241⟩, .unknownKind big 256, .unknownKind big 0x01,
    .byteGapTimeout (List.replicate 245 0#8), .frameAbandoned (List.replicate 245 0#8)] = true := by decide +kernel

theorem test_wellFormed_record :
    let r : CardRecord := ⟨4294967295, 255, 65535, 65535, 255, true, true, true, 16777215, 4294967295, 4294967295, 65535, 16777215, 255, 1, [65535]⟩
    ok (.cardLoad big r) = true ∧ ill [.cardLoad big { r with card := 4294967296 }, .cardLoad big { r with gen := 256 },
      .cardLoad big { r with person := 65536 }, .cardLoad big { r with folio := 65536 }, .cardLoad big { r with cls := 256 },
      .cardLoad big { r with cap := 16777216 }, .cardLoad big { r with validFrom := 4294967296 }, .cardLoad big { r with validUntil := 4294967296 },
      .cardLoad big { r with dayStamp := 65536 }, .cardLoad big { r with daySpend := 16777216 }, .cardLoad big { r with dayAlcohol := 256 },
      .cardLoad big { r with grantCount := 2 }, .cardLoad big { r with grants := [65536] }] = true := by decide

theorem test_wellFormed_cards : ill [.cardUnknown big 4294967296, .cardRevoke big 4294967296, .cardResident big 4294967296 0, .cardResident big 9 256,
    .cardQuery big 256 9, .cardQuery big 0 4294967296, .wayDisable big 256, .wayRestore big 256, .fetchWaitSet big 65536, .fetchExpiry 16,
    .timeSet big 4294967296, .rolloverSet big 4294967296, .present big 256 9 0, .present big 0 4294967296 0, .present big 0 9 256] = true := by decide

theorem test_wellFormed_portals :
    let c : PortalConfig := ⟨255, 255, 65535, 255, 255, 255, 255, true, true, 255, true⟩
    ok (.portalSet big c) = true ∧ ill [.portalSet big { c with portal := 256 }, .portalSet big { c with cls := 256 }, .portalSet big { c with cabin := 65536 },
      .portalSet big { c with zone := 256 }, .portalSet big { c with direction := 256 }, .portalSet big { c with station := 256 },
      .portalSet big { c with timingSet := 256 }, .portalSet big { c with preset := 256 }, .portalDisable big 256, .portalEnable big 256,
      .portalQuery big 256, .contact big 256 0, .contact big 0 256, .strikeAck big 256, .remoteRelease big 256, .timingStage big 256 1 1 1 0,
      .timingStage big 0 4294967296 1 1 0, .timingStage big 0 1 4294967296 1 0, .timingStage big 0 1 1 65536 0, .timingStage big 0 1 1 1 256,
      .timingQuery big 256, .releaseTimerExpiry 256, .strikeConfirmExpiry 256, .heldOpenExpiry 256] = true := by decide

theorem test_wellFormed_roll : ill [.capacitySet big 65536 0 0, .capacitySet big 0 65536 0, .capacitySet big 0 0 256, .guardSet big 4294967296,
    .deadlineSet big (some 4294967296), .enrol big 65536 0 0, .enrol big 0 256 0, .enrol big 0 0 256, .discharge big 65536, .presenceSet big 65536 1,
    .presenceSet big 0 256, .personQuery big 65536, .rollRead big 65536 0 0, .rollRead big 0 256 0, .rollRead big 0 0 256,
    .alarmSet big 256 0 0 0, .alarmSet big 0 256 0 0, .alarmSet big 0 0 65536 0, .alarmSet big 0 0 0 256, .emergencyDeclare big 256,
    .resume big 256 0, .resume big 0 256, .musterRead big 65536] = true := by decide

theorem test_wellFormed_purse :
    let a : ChargeAmounts := ⟨16777215, 255, 255, true, true⟩
    ok (.authorize big 255 9 255 a) = true ∧ ill [.authorize big 256 9 0 a, .authorize big 0 4294967296 0 a, .authorize big 0 9 256 a,
      .authorize big 0 9 0 { a with subtotal := 16777216 }, .authorize big 0 9 0 { a with alcohol := 256 }, .authorize big 0 9 0 { a with gratuityClass := 256 },
      .commit big 256 1 0, .commit big 0 16777216 0, .commit big 0 1 256, .voidHold big 256, .holdExpiry 32, .holdTimeSet big 4294967296,
      .holdQuery big 256, .folioLoad big 65536 0 0 1, .folioLoad big 0 16777216 0 1, .folioLoad big 0 0 8388608 1, .folioLoad big 0 0 (-8388609) 1,
      .folioLoad big 0 0 0 256, .folioPost big 65536 0, .folioPost big 0 8388608, .folioFreeze big 65536, .folioOpen big 65536,
      .folioClose big 65536, .folioQuery big 65536] = true := by decide

theorem test_wellFormed_tariff :
    let t : Tariff := { defaultTariff with gratuity := List.replicate 8 65535, guest := ⟨65535, 255, 16777215, 16777215, 16777215, 16777215⟩ }
    ok (.tariffStage big t 255) = true ∧ ill [.tariffStage big { t with gratuity := [] } 0, .tariffStage big { t with gratuity := List.replicate 8 65536 } 0,
      .tariffStage big { t with guest := { t.guest with discount := 65536 } } 0, .tariffStage big { t with youth := { t.youth with alcoholCap := 256 } } 0,
      .tariffStage big { t with crew := { t.crew with b1 := 16777216 } } 0, .tariffStage big { t with officer := { t.officer with b2 := 16777216 } } 0,
      .tariffStage big { t with visitor := { t.visitor with b3 := 16777216 } } 0, .tariffStage big { t with visitor := { t.visitor with b4 := 16777216 } } 0,
      .tariffStage big t 256, .tariffQuery big 256, .journalRead big 4294967296 1, .journalRead big 0 256, .settle big 4294967296,
      .severitySet big 256 0, .severitySet big 0 256] = true := by decide

/-! ## Frames: words written out from R198 and R207 to R209, their CHECK computed outside Lean -/

/-- R198: the CRC of the nine characters "123456789". -/
theorem test_crc : crc [0x31, 0x32, 0x33, 0x34, 0x35, 0x36, 0x37, 0x38, 0x39] = 0x29B1 := by decide +kernel

theorem test_decode_ping : decodeFrame ⟨false, false⟩ [0x00, 0x01, 0x01, 0xEF, 0x8C] = .ok (.ping ⟨1, 0⟩) := by decide +kernel
theorem test_decode_unknown : decodeFrame ⟨false, false⟩ [0x00, 0x05, 0x10, 0x21, 0x58] = .ok (.unknownKind ⟨16, 0⟩ 5) := by decide +kernel
theorem test_decode_cardRevoke : decodeFrame ⟨false, false⟩ [0x04, 0x12, 0x05, 0x12, 0x34, 0x56, 0x78, 0x36, 0xB7] = .ok (.cardRevoke ⟨5, 4⟩ 305419896) := by decide +kernel
theorem test_decode_cardLoad :
    decodeFrame ⟨false, false⟩ [0x21, 0x10, 0x20, 0x12, 0x34, 0x56, 0x78, 0x02, 0x1F, 0xFF, 0x0F, 0xFF, 0x04, 0xFB, 0x03, 0x0D, 0x40, 0x00, 0x01, 0x86, 0xA0, 0xFF, 0xFF, 0xFF, 0xFF, 0x00, 0x29, 0x00, 0x27, 0x10, 0x03, 0x02, 0x1B, 0xC8, 0x40, 0x0C, 0x2D, 0x3F] =
      .ok (.cardLoad ⟨32, 33⟩ ⟨305419896, 2, 8191, 4095, 4, true, true, false, 200000, 100000, 4294967295, 41, 10000, 3, 2, [7112, 16384 + 12]⟩) := by decide +kernel
theorem test_decode_timeSet : decodeFrame ⟨false, false⟩ [0x04, 0x20, 0x06, 0x00, 0x27, 0xD3, 0x50, 0xD1, 0x52] = .ok (.timeSet ⟨6, 4⟩ 2610000) := by decide +kernel
theorem test_decode_present : decodeFrame ⟨false, false⟩ [0x06, 0x28, 0x07, 0x28, 0x12, 0x34, 0x56, 0x78, 0x02, 0xED, 0x5B] = .ok (.present ⟨7, 6⟩ 40 305419896 2) := by decide +kernel
theorem test_decode_timingStage :
    decodeFrame ⟨false, false⟩ [0x0C, 0x31, 0x08, 0x05, 0x00, 0x00, 0x00, 0x03, 0x00, 0x00, 0x00, 0x2D, 0x07, 0xD0, 0x01, 0x91, 0xBD] = .ok (.timingStage ⟨8, 12⟩ 5 3 45 2000 1) := by decide +kernel
theorem test_decode_rollRead : decodeFrame ⟨false, false⟩ [0x04, 0x41, 0x09, 0x10, 0x00, 0x02, 0xFF, 0xD4, 0xF1] = .ok (.rollRead ⟨9, 4⟩ 4096 2 255) := by decide +kernel
theorem test_decode_resume : decodeFrame ⟨false, false⟩ [0x02, 0x4B, 0x0A, 0x01, 0x1E, 0x22, 0x03] = .ok (.resume ⟨10, 2⟩ 1 30) := by decide +kernel
theorem test_decode_authorize :
    decodeFrame ⟨false, false⟩ [0x0C, 0x58, 0x0B, 0xC8, 0x12, 0x34, 0x56, 0x78, 0x02, 0x00, 0x10, 0x9A, 0x01, 0x02, 0xFD, 0xF4, 0x95] =
      .ok (.authorize ⟨11, 12⟩ 200 305419896 2 ⟨4250, 1, 2, true, false⟩) := by decide +kernel
theorem test_decode_folioPost : decodeFrame ⟨false, false⟩ [0x05, 0x5F, 0x0C, 0x0F, 0xFF, 0x80, 0x00, 0x00, 0x07, 0x1D] = .ok (.folioPost ⟨12, 5⟩ 4095 (-8388608)) := by decide +kernel
theorem test_decode_settle : decodeFrame ⟨false, false⟩ [0x04, 0x71, 0x0D, 0x00, 0x00, 0x03, 0x72, 0x1A, 0xC8] = .ok (.settle ⟨13, 4⟩ 882) := by decide +kernel
theorem test_decode_storeQuery : decodeFrame ⟨false, false⟩ [0x00, 0x74, 0x0E, 0xE9, 0xCF] = .ok (.storeQuery ⟨14, 0⟩) := by decide +kernel
theorem test_decode_severitySet : decodeFrame ⟨false, false⟩ [0x02, 0x78, 0x0F, 0x00, 0x01, 0xAE, 0x29] = .ok (.severitySet ⟨15, 2⟩ 0 1) := by decide +kernel

/-- A CHECK that disagrees in one bit, a byte that is missing, and a LENGTH above 240 (R199). -/
theorem test_decode_bad : decodeFrame ⟨false, false⟩ [0x00, 0x01, 0x01, 0xEF, 0x8D] = .ok .frameDiscarded ∧
    decodeFrame ⟨false, false⟩ [0x00, 0x01, 0x01, 0xEF] = .error .incomplete ∧ decodeFrame ⟨false, false⟩ [0xF1] = .ok (.frameAbandoned [0xF1]) := by decide +kernel

/-! ## Small states -/

/-- TAG 7 with this LENGTH. -/
def hd (len : Nat) : Hdr := ⟨7, len⟩

/-- A part that is READY, its clock SET at 100,000 s on voyage day 5, with the free choices all 0. -/
def ready : State := { State.reset with
  starting := false, clock := { State.reset.clock with shipTime := 100000, isSet := true, day := 5 }, now := 60000,
  choices := [0, 0, 0, 0] }

/-- The same, its clock never set. -/
def unset : State := ready.withClock State.reset.clock

/-- A guest's card with a zone and a cabin, and something spent today. -/
def card9 : CardEntry :=
  { card := 9, gen := 2, person := 3, folio := 4, cls := .guest, drinkingAge := true, chargeEnabled := true, cap := 200000,
    grants := [.zone 5, .cabin 12], validFrom := 50000, validUntil := 200000, revoked := false, resident := false,
    holdCount := 0, dayStamp := 5, daySpend := 100, dayAlcohol := 1, suspect := false, codeDiff := 0 }

/-- The record that delivers it, with one grant. -/
def record9 : CardRecord :=
  ⟨9, 2, 3, 4, 0, true, true, false, 200000, 50000, 200000, 5, 100, 1, 1, [16384 + 5]⟩

/-- The card's entry stands in way 1 of its set. -/
def stocked : State := ready.setEntry (setIndex 9) 1 (some card9)

/-- The set full of other cards. -/
def crowded (e : CardEntry) : State := [0, 1, 2, 3].foldl (fun s w => s.setEntry (setIndex 9) w (some { e with card := 300 + w })) ready

def waiter (tag : Nat) : Presentation := ⟨tag, 2, 9, 2, .door⟩

/-- Fetch 3 is pending for the card, with this many presentations waiting. -/
def fetching (s : State) (n : Nat) : State := s.setFetch 3 (some ⟨9, 2, false, (List.range n).map fun i => waiter (20 + i), 60400⟩)

def fetch9 (n : Nat) : Fetch := ⟨9, 2, false, (List.range n).map fun i => waiter (20 + i), 60400⟩

/-- Every fetch place taken by other cards. -/
def fetchFull : State := (List.range 16).foldl (fun s n => s.setFetch n (some ⟨500 + n, 1, false, [], 61000⟩)) ready

/-- Door 2: a venue door of zone 5 with preset RELEASE. -/
def door (st : PortalState) : Portal := { defaultPortal with cls := some .venueDoor, zone := 5, preset := .release, state := st }

def withDoor (p : Portal) (s : State) : State := s.setPortal 2 p

/-- Person 3 aboard. -/
def aboard3 : PersonSlot := ⟨.aboard, .guest, none, 0, none⟩

def withPerson (n : Nat) (p : PersonSlot) (s : State) : State :=
  s.withRoll { s.roll with slots := Table.write defaultSlot n p s.roll.slots }

/-- Folio 4 open with 1,000.00 of credit. -/
def withFolio (st : FolioState) (exposure : Nat) (s : State) : State := s.setFolio 4 ⟨st, 100000, 0, exposure⟩

/-- A hold of the card in slot 2. -/
def hold9 : Hold := ⟨8, 9, 3, 4, 1000, 1180, 1, 0, 1800, 5⟩

def withHold (b : HoldBody) (s : State) : State := s.setHoldSlot 2 ⟨b, 3, .none⟩

/-- The queue of the store with a slot write in front and this many requests in all. -/
def withQueue (n : Nat) (s : State) : State :=
  s.withStore { s.store with queue := (List.range n).map fun p => .slot (100 + p) ⟨defaultSlot, 0⟩ .correction none }

/-! ## A state and operands for the hypotheses of each statement -/

/-! ### The card table -/

theorem witness_cardLoadInstalls :
    (ready.Accepts (hd 31) (cardLoadLength record9.grantCount) ∧ GoodRecord record9 .guest [.zone 5] ∧ ready.NoFetch 9 ∧
      ready.Lacks 9 ∧ ready.Canonical ∧ (ready.way 0).enabled = true ∧ ready.entry (setIndex 9) 0 = none) ∧
    (∀ s ∈ [crowded card9, crowded { card9 with resident := true }], s.Accepts (hd 31) (cardLoadLength record9.grantCount) ∧
      s.NoFetch 9 ∧ s.Lacks 9 ∧ s.Canonical ∧ (∀ v < 4, ∀ e ∈ s.entry (setIndex 9) v, e.codeDiff = 0) ∧
      (∀ v < 4, (s.way v).enabled = true ∧ s.entry (setIndex 9) v ≠ none) ∧ s.pointer (setIndex 9) < 4 ∧
      noticesWaiting s.link.tx + 1 ≤ 48) ∧
    (∃ old, (crowded card9).entry (setIndex 9) 0 = some old ∧ old.resident = false ∧ old.holdCount = 0) ∧
    (∀ v < 4, ∀ e ∈ (crowded { card9 with resident := true }).entry (setIndex 9) v, e.resident = true) := by
  simp only [accepts_iff, enlists_iff, goodRecord_iff, noFetch_iff, lacks_iff, canonical_iff]
  exact ⟨by decide, by decide, ⟨_, rfl, rfl, rfl⟩, by decide⟩

theorem witness_cardLoadUpdates :
    stocked.Accepts (hd 31) (cardLoadLength record9.grantCount) ∧ GoodRecord record9 .guest [.zone 5] ∧ stocked.NoFetch 9 ∧
      stocked.Holds 9 1 card9 ∧ card9.codeDiff = 0 := by
  simp only [accepts_iff, enlists_iff, goodRecord_iff, noFetch_iff, holds_iff]
  decide

theorem witness_fetchesStartAndExpire :
    (∀ s ∈ [withDoor (door .secure) ready, withDoor (door .secure) fetchFull, withDoor (door .secure) (fetching ready 3),
      withDoor (door .secure) (fetching ready 4)],
      presentsB s (hd 6) 2 9 3 .door = true ∧ s.Lacks 9) ∧
    (withDoor (door .secure) ready).NoFetch 9 ∧ (ready.fetch 0 = none) ∧
    (withDoor (door .secure) fetchFull).NoFetch 9 ∧ (∀ n < 16, fetchFull.fetch n ≠ none) ∧
    (withDoor (door .secure) (fetching ready 3)).Fetches 9 3 (fetch9 3) ∧ (fetch9 3).waiting.length < 4 ∧
    (withDoor (door .secure) (fetching ready 4)).Fetches 9 3 (fetch9 4) ∧ 4 ≤ (fetch9 4).waiting.length ∧
    ((fetching ready 4).supply = true ∧ (fetching ready 4).fetch 3 = some (fetch9 4) ∧ (fetch9 4).waiting ≠ []) ∧
    (ready.supply = true ∧ ready.fetch 3 = none) := by
  simp only [noFetch_iff, lacks_iff, fetches_iff]
  decide

theorem witness_cardUnknownEndsFetch :
    ((fetching ready 2).Accepts (hd 4) 4 ∧ (fetching ready 2).Fetches 9 3 (fetch9 2)) ∧
    (ready.Accepts (hd 4) 4 ∧ ready.NoFetch 9) := by
  simp only [accepts_iff, enlists_iff, noFetch_iff, fetches_iff]
  decide

theorem witness_cardRevokeMarks :
    (∀ s ∈ [stocked, fetching stocked 1, fetching ready 1, ready], s.Accepts (hd 4) 4) ∧ card9.codeDiff = 0 ∧
    (stocked.Holds 9 1 card9 ∧ stocked.NoFetch 9) ∧
    ((fetching stocked 1).Holds 9 1 card9 ∧ (fetching stocked 1).Fetches 9 3 (fetch9 1)) ∧
    ((fetching ready 1).Lacks 9 ∧ (fetching ready 1).Fetches 9 3 (fetch9 1)) ∧ (ready.Lacks 9 ∧ ready.NoFetch 9) := by
  simp only [accepts_iff, enlists_iff, noFetch_iff, fetches_iff, lacks_iff, holds_iff]
  decide

/-- Card 9 beside this many resident entries of its set. -/
def pinned (n : Nat) (e : CardEntry) : State :=
  (List.range n).foldl (fun s w => s.setEntry (setIndex 9) w (some { card9 with card := 300 + w, resident := true })) ready
    |>.setEntry (setIndex 9) 3 (some e)

theorem witness_cardResidentRows :
    (ready.Accepts (hd 5) 5 ∧ ready.Lacks 9) ∧
    (∀ e ∈ [{ card9 with suspect := true, holdCount := 1 }, { card9 with resident := true }, card9], (pinned 0 e).Accepts (hd 5) 5 ∧
      (pinned 0 e).Holds 9 3 e ∧ (e.suspect = true ∨ e.codeDiff = 0)) ∧
    (∀ n ∈ [2, 3], (pinned n card9).Accepts (hd 5) 5 ∧ (pinned n card9).Holds 9 3 card9 ∧
      ((List.range 4).filter fun v => ((pinned n card9).entry (setIndex 9) v).any (·.resident)).length = n) := by
  simp only [accepts_iff, enlists_iff, lacks_iff, holds_iff]
  decide

theorem witness_cardQueryReads :
    (∀ s ∈ [stocked, ready], s.Accepts (hd 5) 5) ∧ (stocked.Holds 9 1 card9 ∧ card9.codeDiff = 0) ∧ ready.Lacks 9 ∧
    (255 * 16777216 + 4 * 65536 + 65535 < 4294967296 ∧ (3 : Nat) < 4 ∧ ready.entry 255 3 = none) ∧
    stocked.entry (setIndex 9) 1 = some card9 := by
  simp only [accepts_iff, enlists_iff, lacks_iff, holds_iff]
  decide

/-- Card 9's entry failing its check, in a way with two faults. -/
def failing (b : HoldBody) : State :=
  withHold b ((ready.setEntry (setIndex 9) 1 (some { card9 with codeDiff := 1 })).setWay 1 ⟨2, true⟩)

theorem witness_failedCheckHandled :
    (∀ b ∈ [HoldBody.free, .held hold9 100180], (failing b).Accepts (hd 5) 5 ∧ setIndex 9 < 256 ∧
      (failing b).entry (setIndex 9) 1 = some { card9 with codeDiff := 1 } ∧ ((failing b).way 1).faults < 3) ∧
    openHolds (failing .free) = [] ∧ holdsOfCard (failing (.held hold9 100180)) 9 = [hold9] ∧
    (∀ v < 4, v ≠ 1 → (failing (.held hold9 100180)).entry (setIndex 9) v = none) := by
  simp only [accepts_iff, enlists_iff]
  decide

theorem witness_flushAndWays :
    (∀ s ∈ [stocked, crowded card9], s.Accepts (hd 0) 0 ∧ s.Accepts (hd 1) 1 ∧ s.TableSound ∧ Table.wf none s.cards.entries = true ∧
      s.NoticeRoom (tallyFrames (fun _ e => !e.resident && e.holdCount = 0) s).length ∧ (s.way 3).enabled = true ∧
      s.NoticeRoom (tallyFrames (fun n e => n % 4 = 3 && e.holdCount = 0) s).length) ∧
    ((ready.setWay 3 ⟨4, false⟩).Accepts (hd 1) 1 ∧ ((ready.setWay 3 ⟨4, false⟩).way 3).enabled = false) := by
  have sound : ∀ s ∈ [stocked, crowded card9], s.TableSound := by
    simp only [List.forall_mem_cons, List.not_mem_nil, false_implies, implies_true, and_true]
    exact ⟨tableSound_of (by decide), tableSound_of (by decide)⟩
  simp only [accepts_iff, enlists_iff, State.NoticeRoom]
  refine ⟨fun s hs => ?_, by decide⟩
  have rest := (by decide : ∀ s ∈ [stocked, crowded card9],
    s.supply = true ∧ s.pins.resetHigh = true ∧ (7 ∉ s.link.tags) ∧ s.link.outstanding.length < 16 ∧ s.starting = false ∧
    Table.wf none s.cards.entries = true ∧ noticesWaiting s.link.tx + (tallyFrames (fun _ e => !e.resident && e.holdCount = 0) s).length ≤ 48 ∧
    (s.way 3).enabled = true ∧ noticesWaiting s.link.tx + (tallyFrames (fun n e => n % 4 = 3 && e.holdCount = 0) s).length ≤ 48) s hs
  obtain ⟨a, b, c, d, e, f, g, h, i⟩ := rest
  exact ⟨⟨⟨a, b, by decide, c, d⟩, rfl, e⟩, ⟨⟨a, b, by decide, c, d⟩, rfl, e⟩, sound s hs, f, g, h, i⟩

/-! ### Ship time and the voyage day -/

/-- Ship time at the last second of day 5, or where the day passes to 6. -/
def lateDay (time : Nat) (s : State) : State := s.withClock { s.clock with shipTime := time }

theorem witness_secondCounts :
    (unset.supply = true ∧ unset.clock.isSet = false) ∧
    (∀ time ∈ [100000, 18000 + 86400 * 6 - 2], (lateDay time ready).clock.isSet = true ∧
      (min maxTime (time + 1) - 18000) / 86400 ≤ 5 ∧ dueNow (lateDay (time + 1) ready) = []) ∧
    (let s := ready.withClock { ready.clock with shipTime := maxTime, day := 49710 };
      s.clock.isSet = true ∧ (min maxTime (s.clock.shipTime + 1) - s.clock.offset) / 86400 ≤ s.clock.day ∧ dueNow s = []) := by
  decide

theorem witness_dueEventsTaken : ∃ t, exec .secondCount (withHold (.held hold9 100001) ready) = .next t ∧
    ready.supply = true ∧ ready.clock.isSet = true := ⟨_, rfl, rfl, rfl⟩

theorem witness_dayRollsOver :
    (unset.supply = true ∧ unset.clock.isSet = false) ∧ (ready.clock.isSet = true ∧ (100000 - 18000) / 86400 ≤ ready.clock.day) ∧
    (∀ n ∈ [1, 7], let s := withQueue n (lateDay (18000 + 86400 * 6) ready)
      s.supply = true ∧ s.clock.isSet = true ∧ s.clock.day < (s.clock.shipTime - s.clock.offset) / 86400 ∧ s.NoticeRoom 1 ∧
      (∀ r ∈ s.store.queue, r ≠ .day) ∧ 0 < s.store.queue.length ∧ s.store.queue.length < 8) ∧
    (∀ q ∈ [[], (withQueue 7 ready).store.queue, (withQueue 8 ready).store.queue, [StoreReq.day]],
      let s := (lateDay (18000 + 86400 * 6) ready).withStore { ready.store with queue := q }
      s.supply = true ∧ s.clock.isSet = true ∧ s.clock.day < (s.clock.shipTime - s.clock.offset) / 86400 ∧
      (q.length < 8 ∨ 8 ≤ q.length) ∧ (.day ∈ s.store.queue ↔ q = [StoreReq.day])) := by
  simp only [State.NoticeRoom]
  decide

/-- Both retries waiting, due at 61,000 ms. -/
def retrying (n : Nat) : State :=
  let s := withQueue n ready
  (s.withClock { s.clock with dayRetry := some 61000, dayOutstanding := true }).withEmu { s.emu with retry := some 61000, outstanding := true }

theorem witness_writesRetried :
    (ready.supply = true ∧ ready.clock.dayRetry = none ∧ ready.emu.retry = none) ∧
    (∀ n ∈ [1, 7, 8], let s := retrying n
      s.clock.dayRetry = some 61000 ∧ (∀ r ∈ s.store.queue, r ≠ .day) ∧ s.emu.retry = some 61000 ∧ .muster ∉ s.store.queue ∧
      s.store.queue.length = n) ∧
    (let s := (retrying 1).withStore { State.reset.store with queue := [.muster] };
      s.emu.retry = some 61000 ∧ .muster ∈ s.store.queue) ∧
    (let s := retrying 0; s.clock.dayRetry = some 61000 ∧ s.emu.retry = some 61000 ∧ s.store.queue = []) ∧
    (let s := (retrying 1).withStore { State.reset.store with queue := [.day] };
      s.clock.dayRetry = some 61000 ∧ .day ∈ s.store.queue ∧ .muster ∉ s.store.queue) := by
  decide

theorem witness_timeSetSteps :
    (∀ s ∈ [unset, ready], s.Accepts (hd 4) 4) ∧ unset.clock.isSet = false ∧ (100000 - unset.clock.offset) / 86400 ≤ 5 ∧
    (∀ time ∈ [99999, 100000, 100001], (time - ready.clock.offset) / 86400 ≤ ready.clock.day ∧
      dueNow (ready.withClock { ready.clock with shipTime := time, isSet := true, secondStart := ready.now }) = []) ∧
    ((18000 - unset.clock.offset) / 86400 ≤ unset.clock.day ∧
      dueNow (unset.withClock { unset.clock with shipTime := 18000, isSet := true, secondStart := unset.now }) = []) := by
  simp only [accepts_iff, enlists_iff]
  decide

theorem witness_dayNeverFalls : ∃ t, exec .secondCount ready = .next t := ⟨_, rfl⟩

/-! ### Portals -/

def terminal : Portal := { defaultPortal with cls := some .terminal, state := .secure }

/-- The latch set, the condition false. -/
def latched (s : State) : State := s.withEmu { s.emu with latch := true }

/-- The condition true by the host's declaration. -/
def declared (s : State) : State := s.withEmu { s.emu with declared := true, condition := true, latch := true }

theorem witness_presentationsRefusedAtOnce :
    (∀ s ∈ [unset, ready, withDoor { door .outOfService with disabled := true } ready, withDoor terminal ready, latched ready,
      withDoor { terminal with disabled := true, state := .outOfService } ready], s.Accepts (hd 6) 6 ∧ s.Accepts (hd 12) 12) ∧
    unset.clock.isSet = false ∧ (ready.clock.isSet = true ∧ (ready.portal 2).cls = none) ∧
    ((withDoor { door .outOfService with disabled := true } ready).portal 2).disabled = true ∧
    ((withDoor terminal ready).portal 2).cls = some .terminal ∧ ((latched ready).clock.isSet = true ∧ (latched ready).emu.latch = true) ∧
    (ready.emu.latch = false ∧ (ready.portal 2).cls ≠ some .terminal) := by
  simp only [accepts_iff, enlists_iff]
  decide

theorem witness_doorAdmits :
    (∀ time ∈ [50000, 100000, 200000], ∀ p ∈ [door .secure, { door .secure with zone := 0 },
        { door .secure with cls := some .cabin, cabin := 12, zone := 0 }],
      (lateDay time (withDoor p (withPerson 3 aboard3 stocked))).Accepts (hd 6) 6 ∧
      (lateDay time (withDoor p (withPerson 3 aboard3 stocked))).clock.isSet = true ∧
      (p.cls = some .venueDoor ∨ p.cls = some .cabin) ∧ p.disabled = false ∧ p.state = .secure ∧
      (lateDay time (withDoor p (withPerson 3 aboard3 stocked))).Holds 9 1 card9 ∧ card9.validFrom ≤ time ∧ time ≤ card9.validUntil ∧
      ((lateDay time (withDoor p (withPerson 3 aboard3 stocked))).person 3).state = .aboard) ∧
    card9.suspect = false ∧ card9.codeDiff = 0 ∧ card9.revoked = false ∧
    (.zone 5 ∈ card9.grants ∧ .cabin 12 ∈ card9.grants ∧ (door .secure).zone = 5) := by
  simp only [accepts_iff, enlists_iff, holds_iff]
  decide

/-- A PORTAL-SET of portal 2 with this class. -/
def config (cls : Nat) : PortalConfig := ⟨2, cls, 9999, 63, 2, 32, 7, true, true, 2, true⟩

theorem witness_portalConfigured :
    (∀ st ∈ [PortalState.secure, .outOfService, .released], (withDoor (door st) ready).Accepts (hd 12) 12 ∧
      (withDoor (door st) ready).Canonical ∧ ((withDoor (door st) ready).portal 2).state = st) ∧
    (∀ cls ≤ 5, ¬ (5 < (config cls).cls ∨ (cls = 0 ∧ ((config cls).cabin = 0 ∨ 9999 < (config cls).cabin)) ∨
      (cls = 1 ∧ ((config cls).zone = 0 ∨ 63 < (config cls).zone)) ∨ (cls = 2 ∧ 63 < (config cls).zone) ∨
      (cls = 3 ∧ 2 < (config cls).direction) ∨ (cls = 4 ∧ ((config cls).station = 0 ∨ 32 < (config cls).station)) ∨
      (cls ≤ 2 ∧ (7 < (config cls).timingSet ∨ 2 < (config cls).preset)))) ∧
    (5 < (config 6).cls) ∧ (∀ cls ≤ 5, portalClasses[cls]? ≠ none) ∧ laneDirections[(config 3).direction]? = some .toggle ∧
    presets[(config 0).preset]? = some .lockdown ∧ ready.emu.condition = false ∧ (door .secure).disabled = false := by
  simp only [accepts_iff, enlists_iff, canonical_iff]
  decide

theorem witness_portalServiceChanges :
    (ready.Accepts (hd 1) 1 ∧ ready.Canonical ∧ (ready.portal 2).cls = none) ∧
    (∀ st ∈ portalStates, (withDoor (door st) ready).Accepts (hd 1) 1 ∧ (withDoor (door st) ready).Canonical ∧
      ((withDoor (door st) ready).portal 2).cls ≠ none ∧ ((withDoor (door st) ready).portal 2).disabled = false ∧
      ((withDoor (door st) ready).portal 2).state = st) ∧
    (∀ st ∈ [PortalState.emergency, .outOfService],
      (withDoor { door st with disabled := true } ready).Accepts (hd 1) 1 ∧ (withDoor { door st with disabled := true } ready).Canonical ∧
      ((withDoor { door st with disabled := true } ready).portal 2).disabled = true) ∧ ready.emu.condition = false := by
  simp only [accepts_iff, enlists_iff, canonical_iff]
  decide

theorem witness_contactApplied :
    (∀ st ∈ portalStates, (withDoor (door st) ready).Accepts (hd 2) 2 ∧ (withDoor (door st) ready).Canonical ∧
      ((withDoor (door st) ready).portal 2).isDoor = true ∧ ((withDoor (door st) ready).portal 2).state = st) ∧
    (ready.Accepts (hd 2) 2 ∧ ready.Canonical ∧ (ready.portal 2).isDoor = false ∧ (1 : Nat) < 2) ∧
    ((withDoor { door .emergency with preset := .lockdown } ready).portal 2).preset = .lockdown ∧
    ((withDoor (door .emergency) ready).portal 2).preset = .release := by
  simp only [accepts_iff, enlists_iff, canonical_iff]
  decide

/-- A released door that awaits its confirmation; both timers run. -/
def released : Portal := { door .released with
  captured := ⟨5, 60, 1000⟩, releaseTimer := some ⟨58000, 5000⟩, strikePending := true, strikeTimer := some ⟨58000, 2500⟩ }

theorem witness_lockRequestsAnswered :
    (∀ p ∈ [defaultPortal, released, { released with strikePending := false, strikeTimer := none }, { door .outOfService with disabled := true },
        { door .emergency with preset := .lockdown }] ++ portalStates.map door, (withDoor p ready).Accepts (hd 1) 1 ∧
      (withDoor p ready).portal 2 = p) ∧
    defaultPortal.isDoor = false ∧ (released.isDoor = true ∧ released.state = .released ∧ released.strikePending = true) ∧
    ((door .secure).isDoor = true ∧ (door .secure).disabled = false) := by
  simp only [accepts_iff, enlists_iff]
  decide

theorem witness_timingStaged :
    (ready.Accepts (hd 12) 12 ∧ (7 : Nat) < 8) ∧
    (let p := { released with strikePending := false, strikeTimer := none, timingSet := 7 };
      let s := withDoor p ready;
      s.Accepts (hd 12) 12 ∧ s.ptu.portals = [(2, p)] ∧ p.isDoor = true ∧ p.timingSet = 7 ∧ p.state = .released ∧
      p.releaseTimer = some ⟨58000, 5000⟩ ∧ p.heldOpenTimer = none ∧ p.captured.release ≠ 3 ∧ s.now < 58000 + 1000 * 3 ∧ s.NoticeRoom 1) := by
  simp only [accepts_iff, enlists_iff, State.NoticeRoom]
  decide

theorem witness_doorTimersExpire :
    (∀ p ∈ [released, { released with strikePending := false, strikeTimer := none }, { door .opened with heldOpenTimer := some ⟨58000, 60000⟩ },
      door .secure], (withDoor p ready).supply = true ∧ (withDoor p ready).portal 2 = p) ∧
    (released.releaseTimer = some ⟨58000, 5000⟩ ∧ released.strikeTimer = some ⟨58000, 2500⟩ ∧ (door .secure).releaseTimer = none) := by
  decide

/-! ### The presence roll -/

theorem witness_settingsTaken :
    (ready.Accepts (hd 2) 2 ∧ ready.Accepts (hd 4) 4 ∧ unset.Accepts (hd 4) 4) ∧
    ((86399 : Nat) < 86400 ∧ unset.clock.isSet = false ∧ (ready.clock.shipTime - 86399) / 86400 ≤ ready.clock.day) := by
  simp only [accepts_iff, enlists_iff]
  decide

/-- The roll with these totals aboard, the warning level 10. -/
def roll (total : Nat) (standing armed : Bool) : State :=
  ready.withRoll { ready.roll with aboardGuests := total, level := 10, standing := standing, armed := armed }

/-- The deadline at this ship time. -/
def deadlineAt (time : Nat) (s : State) : State := s.withRoll { s.roll with deadline := some time }

theorem witness_capacityAndDeadline :
    (∀ s ∈ [roll 9 false true, roll 10 false false, roll 10 false true, roll 9 true true, roll 10 true true, unset],
      s.Accepts (hd 0) 0 ∧ s.Accepts (hd 5) 5) ∧
    ((8191 : Nat) ≤ 8191 ∧ (255 : Nat) ≤ 255 ∧ ¬ (8192 : Nat) ≤ 8191) ∧
    ((roll 9 false true).roll.standing = false ∧ (roll 9 false true).roll.aboardGuests + (roll 9 false true).roll.aboardCrew < 10) ∧
    ((roll 10 false false).roll.armed = false ∧ (roll 10 false true).roll.armed = true) ∧
    ((roll 9 true true).roll.standing = true ∧ (9 : Nat) + 1 ≤ 10 ∧ (10 : Nat) < 9 + 2) ∧
    (ready.clock.isSet = true ∧ unset.clock.isSet = false ∧ (100000 : Nat) ≤ ready.clock.shipTime ∧ ready.clock.shipTime < 100001) ∧
    (∀ time ∈ [100000, 100001], (deadlineAt time ready).supply = true ∧ (deadlineAt time ready).roll.deadline = some time ∧
      (deadlineAt time ready).roll.passed = false) := by
  simp only [accepts_iff, enlists_iff]
  decide

theorem witness_rollCorrected :
    (∀ p ∈ [defaultSlot, aboard3, { aboard3 with state := .ashore }], ∀ q ≤ 7, q = 0 ∨ q = 7 →
      let s := withQueue q (withPerson 8191 p ready);
      s.Accepts (hd 4) 4 ∧ s.Accepts (hd 2) 2 ∧ s.Accepts (hd 3) 3 ∧ s.beforeImage 8191 = none ∧ s.store.queue.length < 8 ∧
      s.person 8191 = p ∧ openHolds s = [] ∧
      s.roll.aboardGuests + s.roll.aboardCrew + s.roll.departures + 1 ≤ s.roll.limit) ∧
    personKinds[1]? = some .crew := by
  simp only [accepts_iff, enlists_iff]
  decide

/-- A gangway lane. -/
def lane (d : LaneDirection) : Portal := { defaultPortal with cls := some .gangway, direction := some d, state := .secure }

theorem witness_crossingAccepted :
    (∀ x ∈ [(LaneDirection.outbound, aboard3), (.toggle, { aboard3 with state := .ashore }), (.inbound, ⟨.ashore, .guest, none, 99990, some 2⟩)],
      let s := withDoor (lane x.1) (withPerson 3 x.2 stocked);
      s.Accepts (hd 6) 6 ∧ s.clock.isSet = true ∧ (s.portal 2).cls = some .gangway ∧ (s.portal 2).disabled = false ∧
      (s.portal 2).direction = some x.1 ∧ s.Holds 9 1 card9 ∧ s.emu.record.active = false ∧ s.emu.latch = false ∧ s.person 3 = x.2 ∧
      ¬ (x.2.lastLane = some 2 ∧ x.2.lastTime ≤ s.clock.shipTime ∧ s.clock.shipTime < x.2.lastTime + s.roll.guard) ∧
      s.beforeImage 3 = none ∧ s.store.queue.length < 8 ∧ s.roll.passed = false ∧
      s.roll.aboardGuests + s.roll.aboardCrew + s.roll.departures + 1 ≤ s.roll.limit) ∧
    (card9.gen = 2 ∧ card9.validFrom ≤ 100000 ∧ 100000 ≤ card9.validUntil) := by
  simp only [accepts_iff, enlists_iff, holds_iff]
  decide

/-- The write of person 3's slot under way, its before image kept. -/
def slotWriting (cause : SlotCause) (second : Bool) : State :=
  let s := withPerson 3 { aboard3 with state := .ashore } ready
  (s.withRoll { s.roll with before := [(3, some aboard3)], departures := 1, ashoreGuests := 1 }).withStore
    { s.store with
      queue := [.slot 3 ⟨{ aboard3 with state := .ashore }, 0⟩ cause (some ⟨Kind.present, 9⟩)],
      write := some ⟨.slot 3 ⟨{ aboard3 with state := .ashore }, 0⟩, second⟩ }

theorem witness_slotWriteEnds :
    (∀ cause ∈ [SlotCause.correction, .crossing 2 9 .outbound false, .mark 2 9 false], ∀ x ∈ [(true, false), (false, true)],
      let s := slotWriting cause x.2;
      s.supply = true ∧ s.beforeImage 3 = some aboard3 ∧ (x.1 = true ∨ x.2 = true)) ∧
    (∃ t, exec (.storeAttemptEnd true) (slotWriting .correction false) = .next t) ∧
    (∃ t, exec (.storeAttemptEnd false) (slotWriting (.mark 2 9 false) true) = .next t) :=
  ⟨by decide, ⟨_, rfl⟩, ⟨_, rfl⟩⟩

/-! ### Emergency and muster -/

/-- Line A with this filter and debounce time, its source enabled or not. -/
def lineA (f : LineFilter) (debounce : Nat) : State := ready.withEmu { ready.emu with lineA := f, debounce := debounce, startsMuster := false }

theorem witness_alarmLinesFiltered :
    (State.reset.starting = true ∧ (State.reset.emu.line .ema).since = none) ∧
    (let s := lineA ⟨true, false, some 59901, true⟩ 100;
      s.supply = true ∧ s.starting = false ∧ (s.emu.line .ema).since = some 59901 ∧ s.now < 59901 + s.emu.debounce ∧
      (!false) ≠ (s.emu.line .ema).active ∧ (!true) = (s.emu.line .ema).active ∧ 0 < s.emu.debounce) ∧
    (let s := lineA ⟨false, false, none, false⟩ 0;
      s.supply = true ∧ s.starting = false ∧ (s.emu.line .ema).since = none ∧ s.emu.debounce = 0 ∧
      conditionNow (s.emu.setLine .ema ⟨true, true, none, false⟩) = s.emu.condition) ∧
    (let s := lineA ⟨true, false, some 59900, false⟩ 100;
      s.supply = true ∧ (s.emu.line .ema).since = some 59900 ∧
      conditionNow (s.emu.setLine .ema ⟨true, true, none, false⟩) = s.emu.condition) ∧
    (let s := lineA ⟨true, false, some 59900, true⟩ 100;
      s.supply = true ∧ (s.emu.line .ema).since = some 59900 ∧ conditionNow (s.emu.setLine .ema ⟨true, true, none, true⟩) = true ∧
      s.emu.condition = false ∧ s.ptu.portals = [] ∧ Table.wf defaultPortal s.ptu.portals = true ∧ s.emu.startsMuster = false) ∧
    (let s := lineA ⟨true, false, some 59901, true⟩ 100;
      s.Accepts (hd 5) 5 ∧ yesCode true = 1 ∧ (s.now : Nat) < 59901 + min 1000 65535 ∧ s.emu.lineB.since = none ∧
      conditionNow (s.withEmu { s.emu with debounce := 1000 }).emu = s.emu.condition) := by
  simp only [accepts_iff, enlists_iff]
  decide

theorem witness_emergencyDeclared :
    (∀ s ∈ [ready, declared ready, withDoor (door .secure) ready, withDoor (door .released) (lineA ⟨false, false, none, true⟩ 100)],
      s.Accepts (hd 1) 1 ∧ s.Canonical ∧ s.NoticeRoom 1) ∧ (declared ready).emu.condition = true ∧
    ((withDoor (door .secure) ready).emu.condition = false ∧ (withDoor (door .secure) ready).emu.startsMuster = true ∧
      ready.emu.record.active = false) ∧
    ((lineA ⟨false, false, none, true⟩ 100).emu.condition = false ∧ (lineA ⟨false, false, none, true⟩ 100).emu.startsMuster = false) := by
  simp only [accepts_iff, enlists_iff, canonical_iff, State.NoticeRoom]
  decide

theorem witness_latchCleared :
    (∀ s ∈ [declared ready, latched ready, ready], s.Accepts (hd 0) 0) ∧ (declared ready).emu.condition = true ∧
    ((latched ready).emu.condition = false ∧ (latched ready).emu.latch = true) ∧ (ready.emu.condition = false ∧ ready.emu.latch = false) := by
  simp only [accepts_iff, enlists_iff]
  decide

theorem witness_doorsResumed :
    (∀ s ∈ [declared ready, ready, withDoor (door .secure) ready, withDoor (door .emergency) ready,
      withDoor { door .emergency with disabled := true } ready], s.Accepts (hd 2) 2 ∧ s.Canonical) ∧
    (declared ready).emu.condition = true ∧ (ready.emu.condition = false ∧ (ready.portal 2).isDoor = false) ∧
    ((door .secure).isDoor = true ∧ (door .secure).state ≠ .emergency ∧ (door .emergency).state = .emergency) := by
  simp only [accepts_iff, enlists_iff, canonical_iff]
  decide

/-- A muster active, its number 6. -/
def mustering (s : State) : State := s.withEmu { s.emu with record := ⟨true, 6, 90000⟩ }

/-- A record write waiting at the end of a full queue. -/
def recordWaiting (s : State) : State :=
  s.withStore { s.store with queue := (withQueue 7 s).store.queue ++ [.muster] }

theorem witness_musterStartsAndEnds :
    (∀ s ∈ [withQueue 8 ready, withQueue 7 ready, recordWaiting ready, withQueue 8 (mustering ready), withQueue 7 (mustering ready),
      recordWaiting (mustering ready)], s.Accepts (hd 0) 0 ∧ s.Canonical) ∧
    (.muster ∉ (withQueue 8 ready).store.queue ∧ 8 ≤ (withQueue 8 ready).store.queue.length) ∧
    ((withQueue 7 ready).store.queue.length < 8 ∧ .muster ∈ (recordWaiting ready).store.queue) ∧
    (ready.emu.record.active = false ∧ (mustering ready).emu.record.active = true) := by
  simp only [accepts_iff, enlists_iff, canonical_iff]
  decide

/-! ### Charges, folios and holds -/

theorem witness_chargeComputed : (5000 : Nat) ≤ 5000 ∧ (999999 : Nat) ≤ 999999 ∧ (2500 : Nat) ≤ 2500 := by decide

/-- Terminal 2 with card 9's entry, its holder aboard and folio 4 open. -/
def till (e : CardEntry) : State :=
  withDoor terminal (withPerson 3 aboard3 ((ready.setFolio 4 ⟨.opened, 300000, 0, 0⟩).setEntry (setIndex 9) 1 (some e)))

/-- Card 9 with one hold open. -/
def held9 : CardEntry := { card9 with holdCount := 1 }

/-- Amounts that come to tier 0, tier 2 with the PIN, and tier 3 with a staff override. -/
def amounts : List ChargeAmounts := [⟨4250, 1, 1, false, false⟩, ⟨42300, 0, 1, true, false⟩, ⟨169000, 11, 0, false, true⟩]

/-- What `chargeOf` makes of them for a guest, and the tier the total comes to. -/
def total (a : ChargeAmounts) : Nat := (chargeOf a.subtotal defaultTariff.guest.discount (defaultTariff.gratuity.getD a.gratuityClass 0)).total
def tier (a : ChargeAmounts) : Nat :=
  [defaultTariff.guest.b1, defaultTariff.guest.b2, defaultTariff.guest.b3, defaultTariff.guest.b4].countP (· ≤ 100 + total a)

theorem witness_chargeApproved :
    ((till held9).Accepts (hd 12) 12 ∧ (till held9).clock.isSet = true ∧ (till held9).emu.latch = false) ∧
    (((till held9).portal 2).cls = some .terminal ∧ ((till held9).portal 2).disabled = false ∧ (till held9).Holds 9 1 held9) ∧
    (((till held9).person 3).state = .aboard ∧ (till held9).folio 4 = ⟨.opened, 300000, 0, 0⟩ ∧
      (till held9).purse.active = defaultTariff ∧ (till held9).holdSlot 0 = defaultHoldSlot ∧ held9.holdCount < 2) ∧
    ((openHolds (till held9)).length + (till held9).journal.entries.length < 512 ∧ (till held9).clock.shipTime < 4294967295 ∧
      0 < (till held9).purse.holdTime) ∧
    (∀ a ∈ amounts, 1 ≤ a.subtotal ∧ a.subtotal ≤ 999999 ∧ a.alcohol ≤ 15 ∧ a.gratuityClass ≤ 7 ∧
      1 + a.alcohol ≤ defaultTariff.guest.alcoholCap ∧ 100 + total a ≤ held9.cap ∧ (total a : Int) ≤ (300000 : Nat) - 0 - (0 : Nat) ∧
      (tier a ≤ 1 ∨ (tier a = 2 ∧ a.pinVerified = true) ∨ (tier a = 3 ∧ a.staffOverride = true))) ∧
    amounts.map tier = [0, 2, 3] ∧
    (held9.suspect = false ∧ held9.codeDiff = 0 ∧ held9.gen = 2 ∧ held9.revoked = false ∧ held9.validFrom ≤ 100000) ∧
    (100000 ≤ held9.validUntil ∧ held9.chargeEnabled = true ∧ held9.drinkingAge = true ∧ held9.dayStamp = ready.clock.day) := by
  simp only [accepts_iff, enlists_iff, holds_iff]
  decide

/-- The commit part that a COMMITTING slot holds. -/
def commit9 : CommitPart := ⟨1000, 1000, 180, 1180, 1, 80, false⟩

theorem witness_holdCommits :
    (∀ b ∈ [HoldBody.free, .held hold9 100080, .committing hold9 commit9], (withHold b ready).Accepts (hd 5) 5 ∧
      ((withHold b ready).holdSlot (98 % 32)).body = b ∧ ((withHold b ready).holdSlot (98 % 32)).reuse = 98 / 32 ∧
      ((withHold b ready).holdSlot (66 % 32)).reuse ≠ 66 / 32) ∧
    (let s := ready.setHoldSlot 2 ⟨.free, 3, .expired⟩; s.Accepts (hd 5) 5 ∧ (s.holdSlot 2).lastEnd = .expired ∧ (s.holdSlot 2).body = .free) ∧
    (¬ (0 : Nat) < 0 ∧ (1000 : Nat) ≤ hold9.subtotal ∧ 1 ≤ hold9.alcohol ∧ ¬ (1001 : Nat) ≤ hold9.subtotal ∧ (15 : Nat) ≤ 15) ∧
    (∀ n ∈ [7, 8], (withQueue n (withHold (.held hold9 100080) ready)).Accepts (hd 5) 5 ∧
      (withQueue n ready).journal.next = some 1 ∧ 1 + (withQueue n ready).store.queue.countP (fun r => match r with | .entry _ _ _ => true | _ => false)
        ≤ 4294967295 ∧ (withQueue n ready).store.queue.length = n) ∧
    (let s := (withHold (.held hold9 100080) ready).withJournal { ready.journal with next := none };
      s.Accepts (hd 5) 5 ∧ s.journal.next = none) := by
  simp only [accepts_iff, enlists_iff]
  decide

theorem witness_holdReleased :
    (∀ s ∈ [withHold (.held hold9 100000) ready, withHold (.held hold9 100001) (ready.setEntry (setIndex 9) 1 (some { card9 with holdCount := 1 }))],
      s.Accepts (hd 1) 1 ∧ s.Canonical ∧ (s.holdSlot 2).reuse < 8 ∧ s.supply = true ∧ s.clock.isSet = true) ∧
    ((withHold (.held hold9 100000) ready).Lacks 9 ∧ (100000 : Nat) ≤ ready.clock.shipTime) ∧
    ((withHold (.held hold9 100000) (ready.setEntry (setIndex 9) 1 (some { card9 with holdCount := 1 }))).Holds 9 1 { card9 with holdCount := 1 } ∧
      (ready.way 1).enabled = true ∧ card9.suspect = false ∧ card9.codeDiff = 0) ∧ ready.clock.shipTime < 100001 ∧
    (withHold (.held hold9 100000) ready).holdSlot 2 = ⟨.held hold9 100000, 3, .none⟩ := by
  simp only [accepts_iff, enlists_iff, canonical_iff, lacks_iff, holds_iff]
  decide

theorem witness_foliosManaged :
    (∀ s ∈ [ready, withFolio .opened 0 ready, withFolio .frozen 5 ready], s.Accepts (hd 9) 9 ∧ s.Accepts (hd 5) 5 ∧ s.Accepts (hd 2) 2) ∧
    ((ready.folio 4).state = .closed ∧ ((withFolio .opened 0 ready).folio 4).state ≠ .closed ∧ ((withFolio .opened 0 ready).folio 4).exposure = 0 ∧
      0 < ((withFolio .frozen 5 ready).folio 4).exposure) ∧
    ((4095 : Nat) < 4096 ∧ ¬ (16777216 : Nat) ≤ 16777215 ∧ (16777215 : Int) - 0 ≤ 16777215 ∧ ¬ (16777215 : Int) - -1 ≤ 16777215) ∧
    ((ready.journal.entries.filter (·.folio = 4)).map (·.total)).sum ≤ 16777215 ∧
    (let s := ready.withJournal { ready.journal with entries := [⟨1, 4, 9, 3, 2, 9000000, 0, 9000000, 0, 90000, 5⟩, ⟨2, 4, 9, 3, 2, 9000000, 0, 9000000, 0, 90000, 5⟩] };
      s.Accepts (hd 9) 9 ∧ 16777215 < ((s.journal.entries.filter (·.folio = 4)).map (·.total)).sum) := by
  simp only [accepts_iff, enlists_iff]
  decide

theorem witness_tariffStaged :
    (ready.Accepts (hd 0) 0 ∧ ready.Accepts (hd 92) 92) ∧
    (let flat := { defaultTariff with crew := { defaultRates 6 with b2 := 20000 } };
      let rows := [flat.guest, flat.youth, flat.crew, flat.officer, flat.visitor];
      ¬ (flat.crew.b1 < flat.crew.b2) ∧ rows[2]? = some flat.crew ∧ ∀ j < 2, ∀ x ∈ rows[j]?, x.b1 < x.b2 ∧ x.b2 < x.b3 ∧ x.b3 < x.b4) ∧
    (∀ r ∈ [defaultTariff.guest, defaultTariff.youth, defaultTariff.crew, defaultTariff.officer, defaultTariff.visitor],
      r.b1 < r.b2 ∧ r.b2 < r.b3 ∧ r.b3 < r.b4) := by
  simp only [accepts_iff, enlists_iff]
  decide

/-! ### The journal and the store -/

def journalEntry (seq folio total : Nat) : JournalEntry := ⟨seq, folio, 9, 3, 2, total, 0, total, 0, 90000, 5⟩

/-- Three entries, two of them of folio 4. -/
def journalled : State :=
  ready.withJournal ⟨[journalEntry 5 4 100, journalEntry 6 8 200, journalEntry 7 4 300], some 8, none⟩

/-- The settlement of the first two, its write under way. -/
def settling (second : Bool) : State :=
  (journalled.withJournal { journalled.journal with settle := some ⟨2, 6⟩ }).withStore
    ⟨[.settle 6 (some ⟨Kind.settle, 9⟩)], some ⟨.settle 6, second⟩, 0, 0⟩

theorem witness_journalSettles :
    ((settling false).Accepts (hd 4) 4 ∧ (settling false).journal.settle ≠ none) ∧
    (journalled.Accepts (hd 4) 4 ∧ journalled.journal.settle = none ∧ journalled.journal.entries.head? = some (journalEntry 5 4 100) ∧ 4 < (journalEntry 5 4 100).seq) ∧
    (∀ n ∈ [7, 8], (withQueue n journalled).Accepts (hd 4) 4 ∧ (withQueue n journalled).store.queue.length = n ∧
      (withQueue n journalled).journal.entries = [journalEntry 5 4 100] ++ journalEntry 6 8 200 :: [journalEntry 7 4 300] ∧
      (∀ e ∈ [journalEntry 5 4 100] ++ [journalEntry 6 8 200], e.seq ≤ 6) ∧ 6 < (journalEntry 7 4 300).seq) ∧
    ((∃ t, exec (.storeAttemptEnd true) (settling false) = .next t) ∧ ∃ t, exec (.storeAttemptEnd false) (settling true) = .next t) := by
  simp only [accepts_iff, enlists_iff]
  exact ⟨by decide, by decide, by decide, ⟨_, rfl⟩, ⟨_, rfl⟩⟩

/-- This request alone in the queue, no write under way. -/
def queued (r : StoreReq) (s : State) : State := s.withStore ⟨[r], none, 0, 0⟩

theorem witness_writesBegin :
    (ready.supply = true ∧ ready.store.queue = []) ∧ (settling false).store.write ≠ none ∧
    (∀ r ∈ [StoreReq.slot 3 ⟨aboard3, 0⟩ .correction none, .settle 6 none, .day, .muster, .entry 2 ⟨4, 9, 3, 2, 1000, 180, 1180, 1⟩ none],
      (queued r journalled).store.queue = r :: [] ∧ (queued r journalled).store.write = none ∧
      (queued r journalled).choices = 0 :: [0, 0, 0] ∧ 0 % 2 = 0) ∧
    (journalled.journal.next = some 8 ∧ placeFree journalled.image 0 = true) := by
  decide

/-- A day write under way. -/
def dayWriting (second : Bool) : State := ready.withStore ⟨[.day], some ⟨.day 5, second⟩, 0, 0⟩

theorem witness_attemptsEnd :
    (ready.supply = true ∧ ready.store.queue = []) ∧
    (∀ second ∈ [false, true], (dayWriting second).store.queue = .day :: [] ∧ (dayWriting second).store.write = some ⟨.day 5, second⟩ ∧
      (dayWriting second).choices = 0 :: [0, 0, 0] ∧ 5 = (dayWriting second).clock.day ∧ (dayWriting second).clock.lastFailedDay ≠ some 5) := by
  decide

/-! ### The fault recorder, the link and the resets -/

/-- Every notice slot taken. -/
def noSlots (s : State) : State :=
  s.withLink { s.link with tx := List.replicate 48 (.notice (.cardWanted 0 1 1)), sending := true }

theorem witness_faultsRecorded :
    (∀ s ∈ [ready, noSlots ready], s.RecorderSound) ∧ (ready.frc.rowOf .strikeFault).severity = .alert ∧
    (ready.frc.rowOf .cardCheck).severity ≠ .alert ∧ ready.NoticeRoom 1 ∧ ¬ (noSlots ready).NoticeRoom 1 := by
  simp only [recorderSound_iff, State.NoticeRoom]
  decide

theorem witness_recorderManaged :
    ready.Accepts (hd 2) 2 ∧ (ready.frc.rows[15]? = some ⟨.note, 0, false⟩ ∧ ready.frc.rows.length = 16) ∧
    ready.Accepts (hd 0) 0 ∧ ready.RecorderSound ∧ ∃ t, exec (.faultClear (hd 0)) ready = .next t := by
  simp only [accepts_iff, enlists_iff, recorderSound_iff]
  exact ⟨by decide, by decide, by decide, by decide, _, rfl⟩

theorem witness_stepTakesFront : ready.pending = [] := rfl

/-- This many requests outstanding and BUSY answers waiting. -/
def loaded (outstanding busy : Nat) : State :=
  ready.withLink { ready.link with
    outstanding := (List.range outstanding).map fun n => ⟨Kind.ping, 100 + n⟩, busy := (List.range busy).map fun n => ⟨Kind.ping, 200 + n⟩ }

theorem witness_requestsJudged :
    (Instr.request? (.cardRevoke (hd 4) 9) = some (Kind.cardRevoke, hd 4) ∧ (hd 4).len = Instr.required (.cardRevoke (hd 4) 9) ∧
      (hd 3).len ≠ Instr.required (.cardRevoke (hd 3) 9)) ∧
    (ready.supply = true ∧ ready.pins.resetHigh = true) ∧ (loaded 1 1).link.tags.contains 100 ∧ (loaded 1 1).link.tags.contains 200 ∧
    (∀ n ∈ [7, 8], (hd 4).tag ∉ (loaded 16 n).link.tags ∧ 16 ≤ (loaded 16 n).link.outstanding.length ∧ (loaded 16 n).link.busy.length = n) ∧
    (∀ s ∈ [ready, loaded 15 8, State.reset], s.Enlists (hd 4) ∧ s.Enlists (hd 0)) ∧ State.reset.starting = true := by
  simp only [enlists_iff]
  decide

theorem witness_queriesOnlyRead :
    (∀ n ∈ [0, 1, 2, 4, 5], ready.Accepts (hd n) n) ∧
    (ready.purse.staged = none ∧ (ready.withPurse { ready.purse with staged := some defaultTariff }).purse.staged = some defaultTariff ∧
      (ready.withPurse { ready.purse with staged := some defaultTariff }).Accepts (hd 1) 1) ∧
    (personStates[2]? = some .ashore ∧ personKinds[1]? = some .crew ∧ (8191 : Nat) ≤ 8191 ∧ (0 : Nat) < 8 ∧ (8 : Nat) ≤ 8) := by
  simp only [accepts_iff, enlists_iff]
  decide

theorem witness_badFramesReported : ready.supply = true ∧ ready.pins.resetHigh = true ∧ ready.link.rx = .hunting ∧
    ¬ ({ ready with supply := false }).supply = true ∧ ([0x04, 0x12] : List Byte).length < 3 := by decide

/-- This frame being sent, a notice waiting behind it. -/
def sending (f : Frame) : State :=
  ready.withLink { ready.link with tx := [f, .notice (.cardWanted 0 1 1)], sending := true, outstanding := [⟨Kind.holdScan, 9⟩], busy := [⟨Kind.ping, 8⟩] }

theorem witness_framesLeave :
    (∀ f ∈ [Frame.reply ⟨Kind.holdScan, 9⟩ (.plain .done (List.replicate 100 (.n4 0))) 0, .reply ⟨Kind.holdScan, 9⟩ (.plain .done []) 0,
      .busy ⟨Kind.ping, 8⟩, .notice (.cardWanted 0 1 1)],
      (sending f).supply = true ∧ (sending f).pins.resetHigh = true ∧ (sending f).link.sending = true ∧
      (sending f).link.tx = f :: [.notice (.cardWanted 0 1 1)]) ∧
    (0 + 1 < Body.parts (.plain .done (List.replicate 100 (.n4 0))) ∧ Body.parts (.plain .done []) ≤ 0 + 1) ∧
    (let s := (sending (.busy ⟨Kind.ping, 8⟩)).withLink { (sending (.busy ⟨Kind.ping, 8⟩)).link with sending := false };
      s.supply = true ∧ s.link.sending = false ∧ s.link.tx ≠ [] ∧ s.pins.resetHigh = true) ∧ ready.link.tx = [] := by
  decide

theorem witness_powerResets : ({ ready with supply := false } : State).supply = false ∧ ∀ c ∈ [Instr.frameSent, .storeScan, .ping (hd 0)],
    c ≠ .powerLoss ∧ (∀ check straps, c ≠ .coldReset check straps) ∧ c ≠ .resetAsserted ∧ (∀ straps, c ≠ .warmReset straps) ∧
    (∀ high, c ≠ .holdLineChange high) ∧ ∀ l high, c ≠ .alarmLineChange l high := by
  simp

theorem witness_scanRebuilds :
    (let s := { State.reset with image := { freshImage with entries := [(3, some ⟨journalEntry 5 4 100, some 6⟩)], settledThrough := 4 } };
      s.supply = true ∧ s.Canonical ∧ s.starting = true ∧ s.roll.slots = [] ∧ s.link.tx = []) ∧ ready.starting = false := by
  simp only [canonical_iff]
  decide

theorem witness_warmResets :
    (ready.supply = true ∧ ready.starting = false ∧ (withDoor (door .released) ready).Canonical) ∧
    (State.reset.supply = true ∧ State.reset.starting = true) ∧
    (withDoor (door .released) ready).Accepts (hd 0) 0 := by
  simp only [accepts_iff, enlists_iff, canonical_iff]
  decide

/-! ### What every step keeps -/

theorem witness_tablesStayCanonical : (stocked.withPending [.secondCount]).Canonical ∧ ∃ t, step (stocked.withPending [.secondCount]) = .next t := by
  simp only [canonical_iff]
  exact ⟨by decide, _, rfl⟩

theorem witness_boundsKept : let s := (loaded 16 8).withPending [.frameSent];
    s.LinkBounded ∧ s.StoreBounded ∧ s.RecorderSound ∧ ∃ t, step s = .next t :=
  ⟨⟨by decide, by decide, by decide, by decide, by decide, by decide⟩, ⟨by decide, by decide⟩, ⟨by decide, by decide, by decide⟩, _, rfl⟩

/-- Person 3 aboard and marked at station 4. -/
def marked : State :=
  let s := withPerson 3 { aboard3 with mark := some 4 } ready
  (s.withRoll { s.roll with aboardGuests := 1 }).withEmu { s.emu with stations := [(4, 1)], mustered := 1 }

theorem marked_slots : marked.roll.slots = [(3, { aboard3 with mark := some 4 })] := rfl

theorem witness_countsFollowSlots : let s := marked.withPending [.discharge (hd 2) 3];
    s.RollCounted ∧ s.MusterCounted ∧ s.MarkedAboard ∧ s.Canonical ∧ ∃ t, step s = .next t := by
  refine ⟨⟨by decide, by decide, by decide, by decide, by decide⟩, ⟨by decide, by decide, fun k => ?_, by decide⟩, ⟨fun n h => ?_, fun n p h => ?_⟩,
    canonical_iff.2 (by decide), _, rfl⟩
  · show Table.read 0 [(4, 1)] k = (marked.roll.slots.filter fun p => decide (p.2.mark = some k)).length
    rw [marked_slots]
    by_cases h : 4 = k <;> simp [Table.read, h]
  · have read : ∀ m, Table.read defaultSlot marked.roll.slots m = if 3 = m then { aboard3 with mark := some 4 } else defaultSlot := by
      intro m; rw [marked_slots]; rfl
    change (Table.read defaultSlot marked.roll.slots n).mark.isSome = true at h
    change (Table.read defaultSlot marked.roll.slots n).state = .aboard
    rw [read] at h ⊢
    by_cases h3 : 3 = n
    · rw [if_pos h3]; rfl
    · rw [if_neg h3] at h; cases h
  · cases h

theorem witness_portalsStaySound : let s := (withDoor (door .emergency) (declared ready)).withPending [.emergencyDeclare (hd 1) 1];
    s.PortalsSound ∧ s.Canonical ∧ ∃ t, step s = .next t :=
  ⟨portalsSound_of (by simp only [portalSound_iff]; decide) (by decide) (by decide), canonical_iff.2 (by decide), _, rfl⟩

theorem witness_framesRoundTrip : WellFormed (.folioPost (hd 5) 4095 (-8388608)) = true ∧
    Instr.request? (.folioPost (hd 5) 4095 (-8388608)) = some (Kind.folioPost, hd 5) ∧
    (hd 5).len = Instr.required (.folioPost (hd 5) 4095 (-8388608)) := by decide

/-! ### The further clauses of a statement, each with the boundary of its range -/

/-- A record that R16 refuses, for each of its grounds. -/
def badRecords : List CardRecord :=
  [{ record9 with card := 0 }, { record9 with gen := 16 }, { record9 with person := 8192 }, { record9 with folio := 4096 },
    { record9 with cls := 5 }, { record9 with grantCount := 5, grants := [16385, 16385, 16385, 16385, 16385] }] ++
  [0, 10000, 16384, 16448, 49152, 65535].map fun g => { record9 with grants := [g] }

theorem witness_cardLoadInstalls_bad : ∀ r ∈ badRecords, ready.Accepts (hd (29 + 2 * r.grants.length)) (cardLoadLength r.grantCount) ∧
    BadRecord r := by
  simp only [accepts_iff, enlists_iff, BadRecord, BadGrant]
  decide

/-- The entry `record9` makes when it is installed. -/
def fresh9 : CardEntry := recordEntry record9 .guest [.zone 5] 5 100 1

theorem witness_fetchesStartAndExpire_load :
    (∀ s ∈ [fetching stocked 4, fetching ready 4, fetching (crowded card9) 4, fetching (crowded { card9 with resident := true }) 4],
      s.Accepts (hd 31) (cardLoadLength record9.grantCount) ∧ s.Fetches 9 3 (fetch9 4) ∧ s.Canonical ∧
      ∀ v < 4, (s.entry (setIndex 9) v).all (fun e => e.codeDiff = 0) = true) ∧
    GoodRecord record9 .guest [.zone 5] ∧ (fetching stocked 4).Holds 9 1 card9 ∧
    (∀ s ∈ [fetching ready 4, fetching (crowded card9) 4, fetching (crowded { card9 with resident := true }) 4], s.Lacks 9) ∧
    (∃ u, ((fetching ready 4).taken Kind.cardLoad (hd 31)).Installs u fresh9 0) ∧
    (∃ u, ((fetching (crowded card9) 4).taken Kind.cardLoad (hd 31)).Installs u fresh9 0) ∧
    (∀ v < 4, ∃ e, (crowded { card9 with resident := true }).entry (setIndex 9) v = some e ∧ e.resident = true) := by
  simp only [accepts_iff, enlists_iff, goodRecord_iff, fetches_iff, holds_iff, lacks_iff, canonical_iff]
  refine ⟨by decide, by decide, by decide, by decide, ⟨_, .inl ⟨by decide, by decide, by decide, rfl⟩⟩,
    ⟨_, .inr ⟨by decide, by decide, 0, by decide, { card9 with card := 300 }, rfl, ⟨rfl, _, rfl, rfl, rfl⟩, by decide, rfl, rfl⟩⟩, fun v hv => ?_⟩
  interval_cases v <;> exact ⟨_, rfl, rfl⟩

/-- Card 9's entry failing its check in way 1, whose health is this, beside another card's entry of the way. -/
def wayOneFailing (h : WayHealth) : State :=
  (((ready.setEntry (setIndex 9) 1 (some { card9 with codeDiff := 1 })).setEntry 8 1 (some { card9 with card := 8 })).setWay 1 h)

theorem witness_failedCheckHandled_retires :
    (∀ h ∈ [WayHealth.mk 3 true, ⟨3, false⟩, ⟨4, false⟩], (wayOneFailing h).Accepts (hd 5) 5 ∧ (wayOneFailing h).Canonical ∧
      (wayOneFailing h).entry (setIndex 9) 1 = some { card9 with codeDiff := 1 } ∧ (wayOneFailing h).way 1 = h ∧
      openHolds (wayOneFailing h) = []) ∧ setIndex 9 < 256 ∧
    (∀ set v x, v < 4 → (wayOneFailing ⟨3, true⟩).entry set v = some x → ¬ (set = setIndex 9 ∧ v = 1) → x.Sound) ∧
    (wayOneFailing ⟨3, true⟩).NoticeRoom (2 + 2) := by
  simp only [accepts_iff, enlists_iff, canonical_iff, State.NoticeRoom]
  refine ⟨by decide, by decide, fun set v x hv hx hn => ?_, by decide⟩
  have := (by decide : ∀ p ∈ (wayOneFailing ⟨3, true⟩).cards.entries, p.1 = 37 ∨ p.2.all (fun e => e.codeDiff = 0) = true) _ (entry_mem hx)
  rcases this with h | h
  · refine absurd ⟨?_, ?_⟩ hn
    · show set = 9; simp only at h; omega
    · simp only at h; omega
  · exact .inr (by simpa using h)

theorem witness_flushAndWays_query : ∀ w ∈ [3, 4], stocked.Accepts (WayRequest.mk (hd 1) w).toHdr 1 ∧ stocked.TableSound :=
  fun w _ => ⟨accepts_iff.2 ⟨enlists_iff.2 (by decide : stocked.supply = true ∧ stocked.pins.resetHigh = true ∧ (hd 1).tag ≠ 0 ∧
    (hd 1).tag ∉ stocked.link.tags ∧ stocked.link.outstanding.length < 16), rfl, rfl⟩, tableSound_of (by decide)⟩

theorem witness_dueEventsTaken_each :
    let s := (deadlineAt 100001 ready).withPurse { ready.purse with holds :=
      [(2, ⟨.held hold9 100001, 3, .none⟩), (31, ⟨.held hold9 100002, 3, .none⟩)] };
    s.supply = true ∧ s.clock.isSet = true ∧ min maxTime (s.clock.shipTime + 1) = 100001 ∧
    (s.holdSlot 2).body = .held hold9 100001 ∧ (s.holdSlot 31).body = .held hold9 100002 ∧ s.roll.deadline = some 100001 ∧
    (deadlineAt 100002 ready).roll.deadline = some 100002 ∧ (s.holdSlot 0).body = .free := by
  decide

/-- A muster station. -/
def station4 : Portal := { defaultPortal with cls := some .muster, station := 4, state := .secure }

/-- Each route a card may take that its set does not answer for: at a door, a lane, a station with a muster active and a terminal. -/
def routes : List (Portal × Job) :=
  [(door .secure, .door), (lane .toggle, .gangway), (station4, .muster), (terminal, .charge ⟨100, 0, 1, false, false⟩)]

/-- Card 9 presented at portal 2 of the route, its set holding this. -/
def atRoute (x : Portal × Job) (e : Option CardEntry) : State :=
  withDoor x.1 (mustering ((ready.setEntry (setIndex 9) 1 e).setPointer (setIndex 9) 1))

theorem witness_fetchesStartAndExpire_routes : ∀ e ∈ [none, some { card9 with suspect := true, holdCount := 1 }, some card9],
    (∀ x ∈ routes.take 3, (atRoute x e).Presents (hd 6) (.present (hd 6) 2 9 3) ⟨7, 2, 9, 3, x.2⟩) ∧
    (atRoute (terminal, .door) e).Presents (hd 12) (.authorize (hd 12) 2 9 3 ⟨100, 0, 1, false, false⟩)
      ⟨7, 2, 9, 3, .charge ⟨100, 0, 1, false, false⟩⟩ ∧
    (∀ x ∈ routes, ∃ u, (atRoute x e).Misses 9 3 u) ∧ ∀ x ∈ routes, (atRoute x e).NoFetch 9 ∧ (atRoute x e).fetch 0 = none := by
  intro e he
  refine ⟨fun x hx => presents_of ?_, authorizes_of ?_, fun x hx => ?_, ?_⟩
  · revert e x; decide
  · revert e; decide
  · simp only [List.mem_cons, List.not_mem_nil, or_false] at he
    rcases he with rfl | rfl | rfl
    · exact ⟨_, .inl ⟨lacks_iff.2 (by revert x; decide), rfl⟩⟩
    · exact ⟨_, .inr (.inl ⟨1, { card9 with suspect := true, holdCount := 1 }, holds_iff.2 (by revert x; decide), rfl, rfl⟩)⟩
    · exact ⟨_, .inr (.inr ⟨1, card9, hits_iff_B.2 (by revert x; decide), by decide, rfl⟩)⟩
  · simp only [noFetch_iff]; revert e; decide

/-- Each route a PRESENT may take, with the clock not set, and disabled with the clock set. -/
theorem witness_presentationsRefusedAtOnce_routes :
    (∀ x ∈ [(door .secure, Job.door), (lane .toggle, .gangway), (station4, .muster)], ∀ s ∈ [withDoor x.1 unset,
        withDoor { x.1 with disabled := true, state := .outOfService } ready], s.Accepts (hd 6) 6 ∧
      (((s.portal 2).isDoor = true ∧ x.2 = .door) ∨ ((s.portal 2).cls = some .gangway ∧ x.2 = .gangway) ∨
        ((s.portal 2).cls = some .muster ∧ x.2 = .muster)) ∧
      (s.clock.isSet = false ∨ (s.portal 2).disabled = true)) ∧
    (unset.clock.isSet = false ∧ (unset.portal 2).cls = none ∧ (withDoor terminal unset).clock.isSet = false ∧
      ((withDoor terminal unset).portal 2).cls = some .terminal) := by
  simp only [accepts_iff, enlists_iff]
  decide

theorem witness_presentationsRefusedAtOnce_cards :
    (∀ x ∈ [(withDoor station4 stocked, Job.muster)], x.1.Accepts (hd 6) 6 ∧ x.1.clock.isSet = true ∧ (x.1.portal 2).disabled = false ∧
      (x.1.portal 2).cls = some .muster ∧ x.1.emu.record.active = false) ∧
    (∀ x ∈ [(withDoor (door .secure) stocked, Job.door), (withDoor (lane .toggle) stocked, .gangway), (withDoor station4 (mustering stocked), .muster)],
      x.1.Accepts (hd 6) 6 ∧ x.1.clock.isSet = true ∧ (x.1.portal 2).disabled = false ∧ (x.2 ≠ .muster ∨ x.1.emu.record.active = true) ∧
      (((x.1.portal 2).isDoor = true ∧ x.2 = .door) ∨ ((x.1.portal 2).cls = some .gangway ∧ x.2 = .gangway) ∨
        ((x.1.portal 2).cls = some .muster ∧ x.2 = .muster)) ∧ x.1.Hits 9 1 1 card9) ∧
    (let s := withDoor terminal stocked; s.Accepts (hd 12) 12 ∧ s.clock.isSet = true ∧ s.emu.latch = false ∧
      (s.portal 2).cls = some .terminal ∧ (s.portal 2).disabled = false ∧ s.Hits 9 1 1 card9) ∧ 1 < card9.gen ∧ (15 : Nat) < 16 := by
  simp only [accepts_iff_B, hits_iff_B]
  decide

/-- A door, card 9's entry and its holder, with the answer of the first check that fails. -/
def doorRefusals : List (Portal × CardEntry × PersonSlot × Result) :=
  [(door .secure, { card9 with revoked := true, validFrom := 100001 }, aboard3, .revoked),
    (door .secure, { card9 with validFrom := 100001, grants := [] }, aboard3, .notYetValid),
    (door .secure, { card9 with validUntil := 99999 }, aboard3, .expired),
    ({ door .released with zone := 6, strict := true }, card9, defaultSlot, .noGrant),
    ({ door .opened with cls := some .crewDoor, zone := 0 }, card9, aboard3, .noGrant),
    ({ door .emergency with strict := true }, card9, { aboard3 with state := .ashore }, .notAboard)]

/-- The same where none fails: each state, and a person who is not aboard. -/
def doorAdmissions : List (Portal × PersonSlot) :=
  ([.secure, .released, .opened, .heldOpen, .forced, .emergency].map fun st => (door st, { aboard3 with state := .ashore })) ++
  [({ door .emergency with preset := .lockdown }, aboard3), ({ door .secure with strict := true, strikeRequired := true }, aboard3)]

/-- Card 9's entry at door 2 with this person. -/
def atDoor (p : Portal) (e : CardEntry) (q : PersonSlot) : State :=
  withDoor p (withPerson 3 q (ready.setEntry (setIndex 9) 1 (some e)))

theorem witness_doorAdmits_each :
    (∀ x ∈ doorRefusals, let s := atDoor x.1 x.2.1 x.2.2.1;
      s.Accepts (hd 6) 6 ∧ s.Canonical ∧ s.clock.isSet = true ∧ (x.1.cls = some .venueDoor ∨ x.1.cls = some .crewDoor) ∧ s.portal 2 = x.1 ∧
      x.1.isDoor = true ∧ x.1.disabled = false ∧ s.Hits 9 2 1 x.2.1 ∧
      FirstOf (doorChecks s (x.1.cls.getD .cabin) x.1 x.2.1) x.2.2.2) ∧
    (∀ x ∈ doorAdmissions, let s := atDoor x.1 card9 x.2;
      s.Accepts (hd 6) 6 ∧ s.Canonical ∧ s.clock.isSet = true ∧ x.1.cls = some .venueDoor ∧ s.portal 2 = x.1 ∧ x.1.disabled = false ∧
      s.Hits 9 2 1 card9 ∧ NoneOf (doorChecks s .venueDoor x.1 card9)) := by
  simp only [accepts_iff_B, canonical_iff, hits_iff_B, FirstOf, NoneOf, doorChecks, grants_iff, List.forall_mem_cons,
    List.not_mem_nil, false_implies, implies_true, and_true]
  decide

/-- A lane with card 9's entry and its holder, changed by `f`, with the answer of the first check that fails and its direction. -/
def laneRefusals : List (LaneDirection × CardEntry × PersonSlot × (State → State) × Result × Nat) :=
  [(.toggle, { card9 with revoked := true }, aboard3, id, .revoked, 0),
    (.toggle, { card9 with validFrom := 100001 }, aboard3, id, .notYetValid, 0),
    (.toggle, { card9 with validUntil := 99999 }, aboard3, id, .expired, 0),
    (.toggle, card9, aboard3, mustering, .muster, 0), (.toggle, card9, aboard3, latched, .emergency, 0),
    (.toggle, card9, { aboard3 with lastLane := some 2, lastTime := 99991 }, id, .repeated, 0),
    (.toggle, card9, aboard3, fun s => s.withRoll { s.roll with before := [(3, some aboard3)] }, .storeBusy, 0),
    (.toggle, card9, defaultSlot, id, .notAboard, 0),
    (.outbound, card9, { aboard3 with state := .ashore }, id, .alreadyAshore, 2),
    (.toggle, card9, aboard3, fun s => s.withRoll { s.roll with passed := true }, .sailing, 2),
    (.inbound, card9, aboard3, id, .alreadyAboard, 1),
    (.toggle, card9, { aboard3 with state := .ashore }, fun s => s.withRoll { s.roll with limit := 0 }, .capacity, 1),
    (.outbound, card9, aboard3, withQueue 8, .storeBusy, 2), (.inbound, card9, { aboard3 with state := .ashore }, withQueue 8, .storeBusy, 1)]

/-- The lane's state with the notice and the fault of a refusal. -/
def laneEnd (s : State) (q : PersonSlot) (r : Result) : State :=
  let hit := (s.afterHit 9 1).taken Kind.present (hd 6)
  let fields : FaultFields := { portal := some 2, card := some 9, person := some 3 }
  match r with
  | .alreadyAshore => report .laneAnomaly fields (notify (.laneAnomaly 2 9 3 q.state .outbound s.clock.shipTime) hit)
  | .alreadyAboard => report .laneAnomaly fields (notify (.laneAnomaly 2 9 3 q.state .inbound s.clock.shipTime) hit)
  | .capacity => report .capacityRefused fields hit
  | _ => hit

theorem witness_crossingAccepted_refusals : ∀ x ∈ laneRefusals,
    let s := x.2.2.2.1 (atDoor (lane x.1) x.2.1 x.2.2.1);
    let hit := (s.afterHit 9 1).taken Kind.present (hd 6);
    s.Accepts (hd 6) 6 ∧ s.clock.isSet = true ∧ (s.portal 2).cls = some .gangway ∧ (s.portal 2).disabled = false ∧
    (s.portal 2).direction = some x.1 ∧ s.Hits 9 2 1 x.2.1 ∧
    FirstOf (laneChecks s hit 2 9 x.1 x.2.1) (x.2.2.2.2.1, x.2.2.2.2.2, laneEnd s x.2.2.1 x.2.2.2.2.1) := by
  simp only [accepts_iff_B, hits_iff_B, laneRefusals, List.forall_mem_cons, List.not_mem_nil, false_implies, implies_true, and_true]
  refine ⟨?_, ?_, ?_, ?_, ?_, ?_, ?_, ?_, ?_, ?_, ?_, ?_, ?_, ?_⟩ <;>
    refine ⟨by decide, rfl, rfl, rfl, rfl, by decide, ?_⟩ <;>
    repeat (first | exact .inl ⟨by decide, rfl⟩ | refine .inr ⟨by decide, ?_⟩)

/-- Card 9 and its holder at a muster station with a muster active. -/
def atStation (e : CardEntry) (q : PersonSlot) : State := mustering (atDoor station4 e q)

def musterRefusals : List (CardEntry × PersonSlot × (State → State) × Result) :=
  [({ card9 with revoked := true }, aboard3, id, .revoked), ({ card9 with validFrom := 100001 }, aboard3, id, .notYetValid),
    ({ card9 with validUntil := 99999 }, aboard3, id, .expired), (card9, defaultSlot, id, .notAboard),
    (card9, { aboard3 with mark := some 5 }, id, .repeated),
    (card9, aboard3, fun s => s.withRoll { s.roll with before := [(3, some aboard3)] }, .storeBusy), (card9, aboard3, withQueue 8, .storeBusy)]

theorem witness_crossingAccepted_muster :
    (∀ x ∈ musterRefusals, let s := x.2.2.1 (atStation x.1 x.2.1);
      s.Accepts (hd 6) 6 ∧ s.clock.isSet = true ∧ (s.portal 2).cls = some .muster ∧ (s.portal 2).disabled = false ∧
      s.emu.record.active = true ∧ s.Hits 9 2 1 x.1 ∧ FirstOf (musterChecks s x.1) x.2.2.2) ∧
    (∀ q ∈ [aboard3, { aboard3 with state := .ashore, lastLane := some 4 }], let s := withQueue 7 (atStation card9 q);
      s.Accepts (hd 6) 6 ∧ s.clock.isSet = true ∧ (s.portal 2).cls = some .muster ∧ (s.portal 2).disabled = false ∧
      s.emu.record.active = true ∧ s.Hits 9 2 1 card9 ∧ NoneOf (musterChecks s card9)) := by
  simp only [accepts_iff_B, hits_iff_B, FirstOf, NoneOf, musterChecks, musterRefusals, List.forall_mem_cons, List.not_mem_nil, false_implies,
    implies_true, and_true]
  refine ⟨⟨?_, ?_, ?_, ?_, ?_, ?_, ?_⟩, ?_⟩ <;> decide

theorem witness_slotWriteEnds_image :
    (slotWriting .correction false).store.write = some ⟨.slot 3 ⟨{ aboard3 with state := .ashore }, 0⟩, false⟩ := rfl

/-- Line A changing with the condition true of it alone, and doors held in EMERGENCY. -/
def falling : State :=
  let s := (withDoor { door .emergency with autoResume := true } ready).setPortal 7 { door .emergency with preset := .lockdown }
  s.withEmu { s.emu with lineA := ⟨false, true, some 59900, true⟩, condition := true, latch := true }

theorem witness_alarmLinesFiltered_moves :
    (let s := withDoor (door .released) (ready.withEmu { ready.emu with lineA := ⟨true, false, some 59900, true⟩ });
      s.supply = true ∧ (s.emu.line .ema).since = some 59900 ∧ s.Canonical ∧ s.emu.condition = false ∧ s.emu.startsMuster = true ∧
      conditionNow (s.emu.setLine .ema ⟨true, true, none, true⟩) = true) ∧
    (falling.supply = true ∧ (falling.emu.line .ema).since = some 59900 ∧ falling.Canonical ∧ falling.emu.condition = true ∧
      conditionNow (falling.emu.setLine .ema ⟨false, false, none, true⟩) = false) := by
  simp only [canonical_iff]
  decide

theorem witness_emergencyDeclared_off :
    (∀ s ∈ [ready, declared ready, falling], s.Accepts (hd 1) 1 ∧ s.Canonical) ∧
    ready.emu.condition = ((ready.emu.lineA.enabled && ready.emu.lineA.active) || (ready.emu.lineB.enabled && ready.emu.lineB.active)) ∧
    (falling.emu.condition = true ∧ (falling.emu.lineA.enabled && falling.emu.lineA.active) = true) ∧
    (let s := withDoor { door .emergency with autoResume := true } (declared ready);
      s.Accepts (hd 1) 1 ∧ s.Canonical ∧ s.emu.condition = true ∧
      ((s.emu.lineA.enabled && s.emu.lineA.active) || (s.emu.lineB.enabled && s.emu.lineB.active)) = false) := by
  simp only [accepts_iff, enlists_iff, canonical_iff]
  decide

/-- An entry, amounts and a change of the till, with the outcome of the first check that fails. -/
def chargeRefusals : List (CardEntry × ChargeAmounts × (State → State) × Result) :=
  let a : ChargeAmounts := ⟨1000, 0, 1, false, false⟩
  [({ held9 with revoked := true }, a, id, .revoked), ({ held9 with validFrom := 100001 }, a, id, .notYetValid),
    ({ held9 with validUntil := 99999 }, a, id, .expired), ({ held9 with chargeEnabled := false }, a, id, .chargeDisabled),
    (held9, a, withPerson 3 defaultSlot, .notAboard), (held9, a, withFolio .closed 0, .folioClosed),
    (held9, a, withFolio .frozen 0, .folioFrozen), (held9, { a with subtotal := 1000000 }, id, .badAmount),
    ({ held9 with drinkingAge := false }, { a with alcohol := 1 }, id, .age), (held9, { a with alcohol := 12 }, id, .pacing),
    ({ held9 with cap := 1279 }, a, id, .dailyCap), (held9, a, fun s => s.setFolio 4 ⟨.opened, 1179, 0, 0⟩, .limit),
    (held9, { a with subtotal := 42300 }, id, .verify), (held9, { a with subtotal := 169000, pinVerified := true }, id, .verify),
    ({ held9 with cap := 900000 }, { a with subtotal := 430000, staffOverride := true }, fun s => s.setFolio 4 ⟨.opened, 900000, 0, 0⟩, .ceiling),
    (held9, a, fun s => s.withPurse { s.purse with
      holds := (List.range 32).map fun n => (n, ⟨.held { hold9 with card := 77 } 100180, 1, .none⟩) }, .holdsFull),
    ({ held9 with holdCount := 2 }, a, id, .cardHolds),
    (held9, a, fun s => s.withJournal { s.journal with entries := List.replicate 512 ⟨1, 8, 9, 3, 2, 1, 0, 1, 0, 1, 5⟩ }, .journalFull)]

/-- The reply of a refused charge, with the fields that its rule names, and the till as it leaves it. -/
def chargeEnd (s : State) (e : CardEntry) (a : ChargeAmounts) (r : Result) : Decision × State :=
  let hit := (s.afterHit 9 1).taken Kind.authorize (hd 12)
  let c := chargeOf a.subtotal 0 1800
  let d : Decision := { outcome := r, portal := 2, person := some 3, folio := some 4 }
  let d' : Decision := { d with amounts := true, net := c.net, gratuity := c.gratuity, total := c.total }
  match r with
  | .age | .pacing => (d', hit)
  | .dailyCap => ({ d' with room := e.cap - 100 }, hit)
  | .limit => ({ d' with room := 1179 }, hit)
  | .verify => let tier := if a.pinVerified then 3 else 2; ({ d' with detail := tier, tier := tier }, hit)
  | .ceiling => ({ d' with tier := 4 }, hit)
  | .holdsFull | .cardHolds => (d', hit)
  | .journalFull =>
    (d', report .journalFull { portal := some 2, card := some 9, person := some 3, req := some ⟨Kind.authorize, 7⟩ } hit)
  | _ => (d, hit)

theorem witness_chargeApproved_refusals : ∀ x ∈ chargeRefusals,
    let s := x.2.2.1 (till x.1);
    let hit := (s.afterHit 9 1).taken Kind.authorize (hd 12);
    let y := chargeEnd s x.1 x.2.1 x.2.2.2;
    s.Accepts (hd 12) 12 ∧ s.clock.isSet = true ∧ s.emu.latch = false ∧ (s.portal 2).cls = some .terminal ∧
    (s.portal 2).disabled = false ∧ s.Hits 9 2 1 x.1 ∧ FirstOf (chargeChecks s hit (hd 12) 2 9 x.2.1 x.1) (y.1, y.2) := by
  simp only [accepts_iff_B, hits_iff_B, chargeRefusals, List.forall_mem_cons, List.not_mem_nil, false_implies, implies_true, and_true]
  refine ⟨?_, ?_, ?_, ?_, ?_, ?_, ?_, ?_, ?_, ?_, ?_, ?_, ?_, ?_, ?_, ?_, ?_, ?full⟩
  case full =>
    refine ⟨by decide, rfl, rfl, rfl, rfl, by decide, ?_⟩
    repeat (first | exact .inl ⟨by decide +kernel, rfl⟩ | refine .inr ⟨by decide +kernel, ?_⟩)
  all_goals
    refine ⟨by decide, rfl, rfl, rfl, rfl, by decide, ?_⟩
    repeat (first | exact .inl ⟨by decide, rfl⟩ | refine .inr ⟨by decide, ?_⟩)

/-- The hold in slot 2 with this many requests queued, the first an append, and this next sequence number. -/
def lastNumbers (next : Option Nat) (n : Nat) : State :=
  let s := withQueue n (withHold (.held hold9 100080) ready)
  (s.withJournal { s.journal with next := next }).withStore { s.store with
    queue := .entry 5 ⟨4, 9, 3, 2, 1000, 180, 1180, 1⟩ none :: s.store.queue.drop 1 }

theorem witness_holdCommits_numbers :
    -- one append is queued: the last but one number leaves one for this append, the last leaves none
    (∀ n ∈ [7, 8], let s := lastNumbers (some 4294967294) n;
      s.Accepts (hd 5) 5 ∧ (s.holdSlot 2).body = .held hold9 100080 ∧ (s.holdSlot 2).reuse = 98 / 32 ∧ s.journal.next = some 4294967294 ∧
      4294967294 + (s.store.queue.countP fun r => match r with | .entry _ _ _ => true | _ => false) = 4294967295 ∧ s.store.queue.length = n) ∧
    (∀ next ∈ [none, some 4294967295], let s := lastNumbers next 7; s.Accepts (hd 5) 5 ∧ (s.holdSlot 2).body = .held hold9 100080) ∧
    (let s := lastNumbers (some 4294967295) 7; s.journal.next = some 4294967295 ∧ s.store.write = none ∧
      4294967295 < 4294967295 + ((s.store.queue.drop 0).countP fun r => match r with | .entry _ _ _ => true | _ => false)) := by
  simp only [accepts_iff, enlists_iff]
  decide

/-- The append of slot 2's COMMITTING hold under way, its card and folio holding their shares. -/
def appending (c : CommitPart) (second : Bool) : State :=
  let s := withHold (.committing hold9 c) ((journalled.setEntry (setIndex 9) 1 (some { held9 with daySpend := 1280 })).setFolio 4 ⟨.opened, 100000, 0, 1580⟩)
  s.withStore ⟨[.entry 2 ⟨4, 9, 3, 8, 1000, 180, 1180, 1⟩ (some ⟨Kind.commit, 9⟩), .day],
    some ⟨.entry 3 ⟨8, 4, 9, 3, 8, 1000, 180, 1180, 1, 100000, 5⟩ (some 9), second⟩, 0, 0⟩

theorem witness_attemptsEnd_append :
    (∀ x ∈ [(commit9, false), (commit9, true), ({ commit9 with orphaned := true }, true)], let s := appending x.1 x.2;
      s.supply = true ∧ s.Canonical ∧ (s.holdSlot 2).body = .committing hold9 x.1 ∧ s.clock.isSet = true ∧ 0 < x.1.remaining ∧
      s.clock.shipTime < 4294967295 ∧ s.store.queue.length = 2 ∧ s.store.write.map (·.second) = some x.2 ∧
      s.Holds 9 1 { held9 with daySpend := 1280 } ∧ (s.way 1).enabled = true ∧ s.NoticeRoom 3) ∧
    ((appending commit9 true).withCards ready.cards).Lacks 9 := by
  simp only [canonical_iff, holds_iff, lacks_iff, State.NoticeRoom]
  decide

/-- The write of the muster record 6, which has moved on or not, with one request carried and one not. -/
def recordWriting (moved second : Bool) : State :=
  (ready.withEmu { ready.emu with
    record := ⟨!moved, 6, 90000⟩, outstanding := true, waiters := [⟨⟨Kind.musterStart, 9⟩, 6, true⟩, ⟨⟨Kind.musterEnd, 10⟩, 6, false⟩] }).withStore
      ⟨.muster :: (List.range 7).map (fun p => .slot (100 + p) ⟨defaultSlot, 0⟩ .correction none), some ⟨.muster ⟨true, 6, 90000⟩, second⟩, 0, 0⟩

theorem witness_attemptsEnd_record : ∀ moved ∈ [false, true], ∀ x ∈ [(true, false), (true, true), (false, true)],
    let s := recordWriting moved x.2;
    s.supply = true ∧ s.store.queue.head? = some .muster ∧ s.store.queue.length = 8 ∧
    s.store.write = some ⟨.muster ⟨true, 6, 90000⟩, x.2⟩ ∧ (x.1 = true ∨ x.2 = true) ∧
    (s.emu.record = ⟨true, 6, 90000⟩ ↔ moved = false) := by
  decide

/-- Section 3.4's doors, sound: one released with its confirmation awaited, one without, one open. -/
theorem witness_timingStaged_each :
    let t : PortalState → Portal := fun st => { door st with preset := .normal, timingSet := 5, captured := ⟨8, 120, 2000⟩ };
    ∀ s ∈ [((ready.setPortal 61 { t .released with releaseTimer := some ⟨58800, 8000⟩ }).setPortal 62
        { t .released with releaseTimer := some ⟨55500, 8000⟩, strikePending := true, strikeTimer := some ⟨55500, 9000⟩ }).setPortal 63
        { t .opened with heldOpenTimer := some ⟨10000, 120000⟩ }],
      s.Accepts (hd 12) 12 ∧ s.Canonical ∧ s.PortalsSound ∧ s.NoticeRoom (4 * 3) := by
  simp only [List.forall_mem_cons, List.not_mem_nil, false_implies, implies_true, and_true, accepts_iff_B, canonical_iff, State.NoticeRoom]
  refine ⟨by decide, by decide, portalsSound_of ?_ (by decide) (by decide), by decide⟩
  simp only [portalSound_iff]
  decide

theorem witness_scanRebuilds_marker : ∀ m ∈ [Marker.mk .entry 4294967295, ⟨.slot, 3⟩, ⟨.day, 42⟩], ∀ c ∈ [[0, 1], [1, 1], [1, 0]],
    let s := { State.reset with choices := c ++ [7], image := { freshImage with
      marker := some m, entries := [(3, some ⟨journalEntry 5 4 100, some 6⟩), (4, some ⟨journalEntry 6 4 100, none⟩)], settledThrough := 4 } };
    s.supply = true ∧ s.Canonical ∧ s.starting = true ∧ s.roll.slots = [] ∧ s.link.tx = [] ∧ s.image.marker = some m ∧ s.choices.drop 2 = [7] := by
  simp only [canonical_iff]
  decide

theorem witness_warmResets_restart :
    let g : RestartRequest := ⟨hd 0, ⟨true, false⟩⟩;
    let s := withHold (.held hold9 100080) (ready.setEntry (setIndex 9) 1 (some { held9 with daySpend := 1280 }));
    s.Accepts g.toHdr 0 ∧ s.Canonical ∧ s.TableBounded ∧ ∀ set, ∀ w < 4, ∀ e, s.entry set w = some e →
      (e.suspect = true ∨ e.codeDiff = 0) ∧ setIndex e.card = set ∧ e.daySpend ≤ 16777215 ∧ e.dayAlcohol ≤ 255 := by
  refine ⟨accepts_iff_B.2 (by decide), canonical_iff.2 (by decide), tableBounded_of (by decide) (by decide) (by decide), fun set w hw e he => ?_⟩
  have h := entry_mem he
  have a : (4 * set + w) / 4 = set := by omega
  have := (by decide : ∀ p ∈ ([(37, some { held9 with daySpend := 1280 })] : Table (Option CardEntry)), p.2.all (fun e =>
    decide (e.codeDiff = 0) && decide (setIndex e.card = p.1 / 4) && decide (e.daySpend ≤ 16777215) && decide (e.dayAlcohol ≤ 255)) = true) _ h
  simp only [Option.all_some, Bool.and_eq_true, decide_eq_true_eq, a] at this
  exact ⟨.inr this.1.1.1, this.1.1.2, this.1.2, this.2⟩

theorem witness_countsFollowSlots_money : let s := (appending commit9 true).withPending [.storeAttemptEnd true];
    s.HoldsCounted ∧ s.TableBounded ∧ s.Canonical ∧ s.MoneyKept ∧ s.RoomForAppends ∧ s.pending.head? ≠ some .storeScan ∧
    ∃ t, step s = .next t :=
  ⟨holdsCounted_of (by decide) (by decide) (by decide), tableBounded_of (by decide) (by decide) (by decide), canonical_iff.2 (by decide),
    moneyKept_of (by decide) (by decide) rfl (by decide) (by decide) (by decide) (by rintro _ _ _ _ _ _ _ _ ⟨⟩ ⟨⟩; exact ⟨rfl, rfl⟩), (by decide : _ ≤ 512),
    by decide, _, rfl⟩

theorem witness_framesRoundTrip_straps : let g : RestartRequest := ⟨hd 0, ⟨true, false⟩⟩;
    WellFormed (.restart g) = true ∧ Instr.request? (.restart g) = some (Kind.restart, g.toHdr) ∧ g.toHdr.len = Instr.required (.restart g) := by
  decide

/-- A door configured while the condition is true, in service or disabled; and the same with its preset NORMAL or the condition
false. -/
theorem witness_portalConfigured_held :
    (∀ s ∈ [declared (withDoor (door .secure) ready), declared (withDoor { door .outOfService with disabled := true } ready),
        withDoor { door .outOfService with disabled := true } ready], s.Accepts (hd 12) 12 ∧ s.Canonical ∧
      ((s.portal 2).state = .secure ∨ (s.portal 2).state = .outOfService)) ∧
    (declared ready).emu.condition = true ∧ presets[(config 0).preset]? = some .lockdown ∧ presets[1]? = some .release ∧
    presets[0]? = some .normal := by
  simp only [accepts_iff, enlists_iff, canonical_iff]
  decide

theorem witness_portalServiceChanges_held : ∀ preset ∈ [Preset.release, .lockdown],
    let s := declared (withDoor { door .outOfService with disabled := true, preset := preset } ready);
    s.Accepts (hd 1) 1 ∧ s.Canonical ∧ (s.portal 2).cls ≠ none ∧ (s.portal 2).disabled = true ∧ (s.portal 2).state = .outOfService ∧
    (s.portal 2).isDoor = true ∧ (s.portal 2).preset ≠ .normal ∧ s.emu.condition = true := by
  simp only [accepts_iff, enlists_iff, canonical_iff]
  decide

/-- Person 3's slot, changed by `f`. -/
def correcting (p : PersonSlot) (f : State → State) : State := f (withPerson 3 p ready)

/-- Each check of the three corrections, first at the boundary of its range, with the result of the one that fails first; then those
that pass them all. -/
theorem witness_rollCorrected_refusals :
    let taken (k : Nat) (s : State) : State := s.taken k (hd 0)
    let pending (s : State) : State := s.withRoll { s.roll with before := [(3, some aboard3)] }
    let cramped (s : State) : State := s.withRoll { s.roll with limit := 0 }
    let ashore : PersonSlot := { aboard3 with state := .ashore }
    let refuses (r : Result) (s : State) (checks : State → List (Prop × Result × List Fld × State)) : Prop :=
      ∃ fs u, FirstOf (checks (taken 0 s)) (r, fs, u)
    (refuses .badValue ready (enrolChecks ready (hd 4) 8192 0 1) ∧ refuses .badValue ready (enrolChecks ready (hd 4) 8191 2 1) ∧
      refuses .badValue ready (enrolChecks ready (hd 4) 8191 0 0) ∧ refuses .badValue ready (dischargeChecks ready (hd 2) 8192) ∧
      refuses .badValue ready (presenceChecks ready (hd 3) 3 3)) ∧
    (let s := correcting aboard3 pending;
      refuses .storeBusy s (enrolChecks s (hd 4) 3 0 1) ∧ refuses .storeBusy s (dischargeChecks s (hd 2) 3) ∧
      refuses .storeBusy s (presenceChecks s (hd 3) 3 2)) ∧
    (let s := correcting aboard3 id;
      refuses .listed s (enrolChecks s (hd 4) 3 0 1) ∧ refuses .notListed s (dischargeChecks s (hd 2) 4) ∧
      refuses .notListed s (presenceChecks s (hd 3) 4 1) ∧ refuses .done s (presenceChecks s (hd 3) 3 1)) ∧
    (let s := correcting ashore cramped;
      refuses .capacity s (enrolChecks s (hd 4) 4 0 1) ∧ refuses .capacity s (presenceChecks s (hd 3) 3 1)) ∧
    (let s := correcting ashore (withQueue 8);
      refuses .storeBusy s (enrolChecks s (hd 4) 4 1 2) ∧ refuses .storeBusy s (dischargeChecks s (hd 2) 3) ∧
      refuses .storeBusy s (presenceChecks s (hd 3) 3 1)) ∧
    (let s := withHold (.held hold9 100001) (correcting ashore id); refuses .busy s (dischargeChecks s (hd 2) 3)) := by
  dsimp only
  refine ⟨⟨?_, ?_, ?_, ?_, ?_⟩, ⟨?_, ?_, ?_⟩, ⟨?_, ?_, ?_, ?_⟩, ⟨?_, ?_⟩, ⟨?_, ?_, ?_⟩, ?_⟩ <;>
    exact ⟨_, _, by repeat (first | exact .inl ⟨by decide, rfl⟩ | refine .inr ⟨by decide, ?_⟩)⟩

theorem witness_rollCorrected_passes :
    (∀ q ∈ [withQueue 0, withQueue 7], ∀ p ∈ [aboard3, { aboard3 with state := .ashore }], let s := correcting p q;
      s.Accepts (hd 4) 4 ∧ s.Accepts (hd 2) 2 ∧ s.Accepts (hd 3) 3 ∧ NoneOf (enrolChecks s (hd 4) 8191 1 1 s) ∧
      NoneOf (enrolChecks s (hd 4) 0 0 2 s) ∧ NoneOf (dischargeChecks s (hd 2) 3 s) ∧
      NoneOf (presenceChecks s (hd 3) 3 (if p.state = .ashore then 1 else 2) s)) := by
  simp only [accepts_iff_B, NoneOf, enrolChecks, dischargeChecks, presenceChecks, correctionChecks, List.cons_append, List.nil_append,
    List.forall_mem_cons, List.not_mem_nil, false_implies, implies_true, and_true]
  and_intros <;> decide

/-- A late return and a mark of a person found ashore, whose writes complete. -/
theorem witness_slotWriteEnds_told : ∀ cause ∈ [SlotCause.crossing 2 9 .inbound true, .mark 2 9 true],
    (slotWriting cause false).NoticeRoom 3 ∧ (slotWriting cause false).beforeImage 3 = some aboard3 := by
  simp only [State.NoticeRoom]
  decide

/-- A change of the level at a debounce time of 0, and an ALARM-SET that ends a pending change, enables a source or takes it away. -/
theorem witness_alarmLinesFiltered_sets :
    (let s := withDoor (door .released) (ready.withEmu { ready.emu with debounce := 0 });
      s.supply = true ∧ s.starting = false ∧ s.Canonical ∧ s.emu.condition = false ∧ (s.emu.line .ema).since = none ∧
      conditionNow (s.emu.setLine .ema ⟨true, true, none, true⟩) = true) ∧
    (let s := falling.withEmu { falling.emu with debounce := 0, lineA := ⟨true, true, none, true⟩ };
      s.supply = true ∧ s.starting = false ∧ s.Canonical ∧ s.emu.condition = true ∧ (s.emu.line .ema).since = none ∧
      conditionNow (s.emu.setLine .ema ⟨false, false, none, true⟩) = false) ∧
    (∀ since ∈ [59900, 59901], let s := withDoor (door .heldOpen) (ready.withEmu { ready.emu with lineA := ⟨true, false, some since, true⟩ });
      s.Accepts (hd 5) 5 ∧ s.Canonical ∧ s.emu.condition = false ∧ s.emu.lineA.since = some since ∧
      ((since + min 1000 100 ≤ s.now ∧ conditionNow (s.emu.setLine .ema ⟨true, true, none, true⟩) = true) ∨
        (s.now < since + min 1000 100 ∧ conditionNow s.emu = false))) ∧
    (falling.Accepts (hd 5) 5 ∧ falling.Canonical ∧ falling.emu.condition = true ∧
      conditionNow { falling.emu with lineA := { falling.emu.lineA with enabled := false } } = false) := by
  simp only [accepts_iff_B, canonical_iff]
  decide

/-- Doors that a declaration takes into EMERGENCY from an alarm state, and room for all that they tell. -/
def alarmed : State := ((withDoor (door .forced) ready).setPortal 7 { door .heldOpen with preset := .lockdown }).setPortal 9 (door .secure)

theorem witness_emergencyDeclared_doors :
    alarmed.Accepts (hd 1) 1 ∧ alarmed.Canonical ∧ alarmed.emu.condition = false ∧ (entering alarmed).length = 5 ∧
    alarmed.NoticeRoom (5 + 3) := by
  simp only [accepts_iff_B, canonical_iff, State.NoticeRoom]
  decide

theorem witness_doorsResumed_all :
    let s := (withDoor (door .emergency) ready).setPortal 7 { door .emergency with autoResume := true };
    s.Accepts (hd 2) 2 ∧ s.Canonical ∧ s.emu.condition = false ∧ relocks (fun _ => true) s = [.portalDrive 2 .relock, .portalDrive 7 .relock] ∧
    s.NoticeRoom 2 := by
  simp only [accepts_iff_B, canonical_iff, State.NoticeRoom]
  decide

/-! ## One step of the commands, on the worked examples of the spec -/

/-- The state a command gives. -/
def after (c : Instr) (s : State) : State := match exec c s with
  | .next t => t
  | _ => s

/-- Tag 30, with this LENGTH. -/
def rq (len : Nat) : Hdr := ⟨30, len⟩

/-- The reply of the request with this tag, if it stands in the transmit queue. -/
def replyTo (tag : Nat) (s : State) : Option Body := s.link.tx.findSome? fun f => match f with
  | .reply id b _ => if id.tag = tag then some b else none
  | _ => none

def resultOf (tag : Nat) (s : State) : Option Result := (replyTo tag s).map fun b => match b with
  | .plain r _ => r
  | .decision d => d.outcome

def notices (s : State) : List Notice := s.link.tx.filterMap fun f => match f with
  | .notice n => some n
  | _ => none

/-! ### Chapter 1: one set through five loads, and one fetch with two endings -/

def card (n : Nat) : CardEntry := { card9 with card := n, daySpend := 0, dayAlcohol := 0 }

/-- Set 8 as section 1.4's example has it: A resident, B with a hold, C with 2,400 and one unit today, way 3 empty, the
pointer at 2. The four bytes of each card number exclusive-or to 8. -/
def set8 : State :=
  (((ready.setEntry 8 0 (some { card 0x0800 with resident := true })).setEntry 8 1 (some { card 0x08010100 with holdCount := 1 })).setEntry 8 2
    (some { card 0x080000 with daySpend := 2400, dayAlcohol := 1 })).setPointer 8 2

def load (n : Nat) : Instr := .cardLoad (rq 31) { record9 with card := n, daySpend := 0, dayAlcohol := 0 }

/-- Step 2: E evicts C, past the resident A and the hold-locked B, with C's DAY-TALLY. -/
theorem test_cardLoad_evicts :
    let t := after (load 0x08000000) ((set8.setEntry 8 3 (some (card 8))).setPointer 8 0)
    ((t.entry 8 2).map (·.card), t.pointer 8, notices t) = (some 0x08000000, 3, [.dayTally 0x080000 5 2400 1]) := by decide

/-- Step 5: the fourth fault of way 3 retires it; D has no hold and its entry, which fails its check, is gone. -/
theorem test_cardQuery_retires :
    let t := after (.cardQuery (rq 5) 0 8) ((set8.setEntry 8 3 (some { card 8 with codeDiff := 1 })).setWay 3 ⟨3, true⟩)
    (t.entry 8 3, t.way 3, resultOf 30 t, (t.frc.rowOf .wayRetired).count) = (none, ⟨4, false⟩, some .notPresent, 1) := by decide

/-- Card K of section 1.6's example with its three presentations waiting on fetch 0; the charge's is at a terminal. -/
def cardK : Nat := 305419896
def fetchK : State := (withPerson 3 aboard3 (withDoor (door .secure) ready)).setFetch 0
  (some ⟨cardK, 2, false, [⟨11, 2, cardK, 2, .door⟩, ⟨12, 8, cardK, 2, .charge ⟨100, 0, 1, false, false⟩⟩, ⟨13, 4, cardK, 1, .gangway⟩], 60400⟩)

/-- First ending: the record answers the fetch; the counters of an earlier day read zero, and the lower generation is
refused SUPERSEDED. -/
theorem test_cardLoad_answersFetch :
    let t := after (.cardLoad (rq 31) { record9 with card := cardK, dayStamp := 4, daySpend := 9000 }) fetchK
    ((t.entry 8 0).map fun e => (e.dayStamp, e.daySpend), t.fetch 0, resultOf 11 t, resultOf 13 t, resultOf 30 t) =
      (some (5, 0), none, some .admitted, some .superseded, some .installed) := by decide

/-- Second ending: the expiry refuses the three OFFLINE, in joining order, and records FETCH-TIMEOUT. -/
theorem test_fetchExpiry_offline :
    let t := after (.fetchExpiry 0) fetchK
    (t.link.tx.map fun f => match f with
      | .reply id (.decision d) _ => (id.tag, d.outcome)
      | _ => (0, .done)) = [(11, .offline), (12, .offline), (13, .offline)] ∧
    (t.frc.rowOf .fetchTimeout).count = 1 ∧ t.now = 60400 := by decide

/-- R27, R25, R11: a revoked fetch, a fetch the host does not know, a way taken out of use, FLUSH and its DAY-TALLY. -/
theorem test_cardRevoke : ((after (.cardRevoke (rq 4) cardK) fetchK).fetch 0).map (·.revoked) = some true := by decide
/-- R53, R210: a door presentation that waited while its portal became a disabled terminal tells the state after the decision. -/
theorem test_cardUnknown_disabledTerminal :
    (replyTo 11 (after (.cardUnknown (rq 4) cardK) (withDoor { terminal with disabled := true, state := .outOfService } fetchK))).map (fun b => match b with
      | .decision d => (d.outcome, d.portalState)
      | .plain r _ => (r, 0)) = some (.noRecord, 6) := by decide
theorem test_cardUnknown : resultOf 12 (after (.cardUnknown (rq 4) cardK) fetchK) = some .noRecord := by decide
theorem test_wayDisable : let t := after (.wayDisable (rq 1) 2) set8
    (t.entry 8 2, notices t, (t.way 2).enabled) = (none, [.dayTally 0x080000 5 2400 1], false) := by decide
theorem test_flush : let t := after (.flush (rq 0)) set8
    (t.cards.entries.map (·.1), replyTo 30 t) = ([32, 33], some (.plain .done [.n2 1])) := by decide
theorem test_cardResident : resultOf 30 (after (.cardResident (rq 5) 0x08010100 0) set8) = some .done := by decide

/-! ### Chapter 2: a port day and two clock steps -/

def day29 (time : Nat) : State := (ready.withClock { ready.clock with shipTime := time, day := 29 }).withPurse
  { ready.purse with staged := some { defaultTariff with crew := defaultRates 5 } }

theorem test_secondCount_rolls : let t := after .secondCount (day29 2609999)
    (t.clock.day, t.clock.dayOutstanding, t.purse.active.crew.alcoholCap, t.purse.staged, notices t) =
      (30, true, 5, none, [.dayRolled 29 30 2610000 true]) := by decide
theorem test_timeSet_back : let t := after (.timeSet (rq 4) 2606400) ((day29 2610000).withClock { (day29 2610000).clock with day := 30 })
    (t.clock.shipTime, t.clock.day, (t.frc.rowOf .clockStep).count) = (2606400, 30, 1) := by decide
theorem test_timeSet_forward : let t := after (.timeSet (rq 4) 2700000) ((day29 2610000).withClock { (day29 2610000).clock with day := 30 })
    (t.clock.day, t.store.queue) = (31, [.day]) := by decide
theorem test_rolloverSet : resultOf 30 (after (.rolloverSet (rq 4) 86400) ready) = some .badValue := by decide

/-! ### Chapter 3: one card at doors, a door through one release, a shorter window -/

/-- Section 3.2's card: grants CABIN 7112 and ZONE 12. -/
def visitor (p : Portal) : State :=
  withDoor p (withPerson 3 aboard3 (ready.setEntry 9 1 (some { card9 with grants := [.cabin 7112, .zone 12] })))

theorem test_present_doors :
    ([{ door .secure with cls := some .cabin, cabin := 7112 }, { door .secure with cls := some .cabin, cabin := 7114 },
      { door .secure with cls := some .crewDoor, zone := 12 }, { door .secure with cls := some .crewDoor, zone := 4 },
      { door .secure with zone := 12 }, { door .secure with zone := 0 }].map fun p => resultOf 30 (after (.present (rq 6) 2 9 2) (visitor p))) =
    [some .admitted, some .noGrant, some .admitted, some .noGrant, some .admitted, some .admitted] := by decide

/-- Cabin door 2 of section 3.3's example in this state, its captured window 5 s. -/
def cabinDoor (st : PortalState) : Portal := { door st with cls := some .cabin, cabin := 12, strikeRequired := true, preset := .normal }

theorem test_strikeAck : let t := after (.strikeAck (rq 1) 2) (withDoor released ready)
    ((t.portal 2).strikePending, (t.portal 2).strikeTimer, (t.portal 2).state) = (false, none, .released) := by decide
theorem test_contact_opens : let t := after (.contact (rq 2) 2 0) (withDoor { cabinDoor .released with releaseTimer := some ⟨58000, 5000⟩ } ready)
    ((t.portal 2).state, (t.portal 2).heldOpenTimer, (t.portal 2).releaseTimer) = (.opened, some ⟨60000, 60000⟩, none) := by decide
theorem test_heldOpenExpiry : let t := after (.heldOpenExpiry 2) (withDoor { cabinDoor .opened with heldOpenTimer := some ⟨58000, 60000⟩ } ready)
    ((t.portal 2).state, (notices t).head?, (t.frc.rowOf .doorHeld).count, alertLine t) =
      (.heldOpen, some (.doorAlarm 2 .held .heldOpen 100000), 1, true) := by decide
theorem test_contact_forces : let t := after (.contact (rq 2) 2 0) (withDoor (cabinDoor .secure) ready)
    ((t.portal 2).state, (notices t).head?) = (.forced, some (.doorAlarm 2 .forced .forced 100000)) := by decide
theorem test_strikeConfirmExpiry : let t := after (.strikeConfirmExpiry 2) (withDoor released ready)
    ((t.portal 2).state, (notices t).getLast?) = (.secure, some (.portalDrive 2 .relock)) := by decide

/-- Section 3.4's example: doors 61 and 62 of set 5, 1,200 ms and 4,500 ms into their release, and door 63 open for 50 s. -/
def deck : State :=
  let p (st : PortalState) : Portal := { door st with timingSet := 5, captured := ⟨8, 120, 2000⟩ }
  ((ready.setPortal 61 { p .released with releaseTimer := some ⟨58800, 8000⟩ }).setPortal 62
    { p .released with releaseTimer := some ⟨55500, 8000⟩ }).setPortal 63 { p .opened with heldOpenTimer := some ⟨10000, 120000⟩ }

theorem test_timingStage_retimes : let t := after (.timingStage (rq 12) 5 3 45 2000 1) deck
    ([61, 62, 63].map fun n => (t.portal n).state) = [.released, .secure, .heldOpen] ∧
    (notices t).take 3 = [.portalDrive 61 (.release 2), .portalDrive 62 .relock, .doorAlarm 63 .held .heldOpen 100000] ∧
    replyTo 30 t = some (.plain .done [.n4 3, .n4 45, .n2 2000, .n2 3]) := by decide

/-! ### Chapter 4: two lanes near the limit -/

def nearLimit (guests crew departures : Nat) (d : LaneDirection) (p : PersonSlot) : State :=
  let s := withDoor (lane d) (withPerson 3 p stocked)
  s.withRoll { s.roll with
    aboardGuests := guests, aboardCrew := crew, ashoreGuests := 192, ashoreCrew := 60, departures := departures, limit := 7751, level := 7750, hysteresis := 20 }

/-- Step 3: the crossing that brings the total to the level asserts the warning, once. -/
theorem test_crossing_warns :
    let t := after (.present (rq 6) 2 9 2) (nearLimit 5809 1940 0 .inbound { aboard3 with state := .ashore, kind := .crew })
    (t.roll.aboardCrew, t.roll.ashoreCrew, t.roll.standing, t.roll.armed, notices t, replyTo 30 t) =
      (1941, 59, true, false, [.capacityWarning 7750 5809 1941 7750 7751 100000], none) := by decide

theorem test_deadlineEvent : let t := after .deadlineEvent (deadlineAt 100000 (roll 9 false true))
    (t.roll.passed, notices t) = (true, [.allAboardMissing 100000 100000 0 0 9]) := by decide
theorem test_enrol : let t := after (.enrol (rq 4) 77 1 2) ready
    ((t.person 77).state, t.roll.ashoreCrew, t.store.queue.length) = (.ashore, 1, 1) := by decide

/-! ### Chapter 5: an alarm during sailaway -/

def sailaway : State :=
  let s := ((ready.setPortal 12 { door .released with cls := some .crewDoor, autoResume := true, releaseTimer := some ⟨58000, 5000⟩ }).setPortal 30
    { door .forced with cls := some .crewDoor, preset := .lockdown }).setPortal 40 (cabinDoor .secure)
  s.withEmu { s.emu with lineA := ⟨true, false, some 59900, true⟩, record := ⟨false, 6, 0⟩ }

theorem test_debounceExpiry : let t := after (.debounceExpiry .ema) sailaway
    ([12, 30, 40].map fun n => (t.portal n).state) = [.emergency, .emergency, .secure] ∧
    (t.emu.condition, t.emu.latch, t.emu.record, t.emu.cause) = (true, true, ⟨true, 7, 100000⟩, some .alarm) ∧
    notices t = [.emergencyState true true true false false 100000, .portalDrive 12 .holdReleased, .doorAlarm 30 .forcedCleared .emergency 100000,
      .portalDrive 30 .relock, .musterState ⟨true, 7, 100000⟩ (some .alarm) 0] := by decide

/-- R102, R103, R109: the notices of a declaration, the doors in ascending number. -/
theorem test_emergencyDeclare : notices (after (.emergencyDeclare (rq 1) 0) alarmed) =
    [.emergencyState true true false false true 100000, .doorAlarm 2 .forcedCleared .emergency 100000, .portalDrive 2 .holdReleased,
      .doorAlarm 7 .heldCleared .emergency 100000, .portalDrive 7 .relock, .portalDrive 9 .holdReleased,
      .musterState ⟨true, 1, 100000⟩ (some .alarm) 0] := by decide

theorem test_musterEnd : let t := after (.musterEnd (rq 0)) (mustering marked)
    ((t.person 3).mark, t.station 4, t.emu.record, t.emu.outstanding) = (none, 0, ⟨false, 6, 90000⟩, true) := by decide
theorem test_resume : let t := after (.resume (rq 2) 0 2) (withDoor (door .emergency) ready)
    ((t.portal 2).state, notices t) = (.secure, [.portalDrive 2 .relock]) := by decide

/-! ### Chapters 6 and 7: the crew round, a guest's amounts, a commit that fails -/

/-- R127's and R128's rows. -/
theorem test_chargeOf : ([(4250, 1500), (10000, 3333), (1, 5000), (3, 5000), (999999, 5000)].map fun x => (chargeOf x.1 x.2 0).net) =
      [3613, 6667, 1, 2, 500000] ∧
    ([(2, 1800), (3, 1800), (25, 1800), (7, 2500), (3613, 1800), (999999, 2500)].map fun x => (chargeOf x.1 0 x.2).gratuity) =
      [0, 1, 5, 2, 650, 250000] := by decide

/-- The crew bar on day 41: slots 0 to 4 in use, the folio with 12,500 available. -/
def crewBar : State :=
  let s := withDoor terminal (withPerson 3 aboard3 ready)
  let used := (List.range 5).foldl (fun s n => s.setHoldSlot n ⟨.held { hold9 with card := 77, folio := 9 } 100180, 1, .none⟩) s
  (((used.withClock { used.clock with day := 41 }).setFolio 4 ⟨.opened, 150000, 96500, 41000⟩).setEntry 9 1
    (some { card9 with cls := .crew, cap := 60000, dayStamp := 41, daySpend := 12000, dayAlcohol := 2 })).withPurse
    { holds := used.purse.holds, folios := [(4, ⟨.opened, 150000, 96500, 41000⟩)], holdTime := 180, staged := none,
      active := { defaultTariff with crew := ⟨1500, 4, 10000, 20000, 50000, 100000⟩ } }

def crewReply : Decision :=
  { outcome := .approved, portal := 2, person := some 3, folio := some 4, hold := some 37, sign := true, amounts := true,
    net := 3613, gratuity := 650, total := 4263, tier := 1 }

theorem test_authorize_crewRound : let t := after (.authorize (rq 12) 2 9 2 ⟨4250, 1, 2, false, false⟩) crewBar
    ((t.folio 4).exposure, (t.entry 9 1).map fun e => (e.daySpend, e.dayAlcohol, e.holdCount)) = (45263, some (16263, 3, 1)) ∧
    replyTo 30 t = some (.decision crewReply) := by decide

/-- The guest with 140,000 spent: VERIFY by tier, and the daily cap before the tier. -/
theorem test_authorize_judgements :
    let s := (till { card9 with daySpend := 140000, dayAlcohol := 0 }).setFolio 4 ⟨.opened, 500000, 100000, 20000⟩
    ([⟨8000, 0, 1, false, false⟩, ⟨8000, 0, 1, true, false⟩, ⟨8000, 0, 1, false, true⟩, ⟨12000, 0, 1, true, false⟩, ⟨12000, 0, 1, false, true⟩,
      ⟨60000, 0, 1, false, true⟩].map fun a => resultOf 30 (after (.authorize (rq 12) 2 9 2 a) s)) =
    [some .verify, some .approved, some .verify, some .verify, some .approved, some .dailyCap] := by decide

/-- Hold 37 of the crew round, with 75 s left, and its card. -/
def crewHold (b : HoldBody) : State :=
  ((crewBar.setHoldSlot 5 ⟨b, 1, .none⟩).setFolio 4 ⟨.opened, 150000, 96500, 45263⟩).setEntry 9 1
    (some { card9 with cls := .crew, cap := 60000, dayStamp := 41, daySpend := 16263, dayAlcohol := 3, holdCount := 1 })

def round : Hold := ⟨2, 9, 3, 4, 4250, 4263, 1, 1500, 1800, 41⟩

theorem test_commit_crewRound : let t := after (.commit (rq 5) 37 4000 1) (crewHold (.held round 100075))
    ((t.holdSlot 5).body, t.store.queue.length, replyTo 30 t) = (.committing round ⟨4000, 3400, 612, 4012, 1, 75, false⟩, 1, none) := by
  decide

/-- The append completes: exposure 45,012, the card's 16,012, 3 and no hold, and 251 released. -/
theorem test_storeAttemptEnd_append :
    let s := (crewHold (.committing round ⟨4000, 3400, 612, 4012, 1, 75, false⟩)).withStore
      ⟨[.entry 5 ⟨4, 9, 3, 2, 3400, 612, 4012, 1⟩ (some ⟨Kind.commit, 9⟩)], some ⟨.entry 0 ⟨885, 4, 9, 3, 2, 3400, 612, 4012, 1, 100000, 41⟩ (some 886), false⟩, 0, 0⟩
    let t := after (.storeAttemptEnd true) s
    ((t.folio 4).exposure, (t.entry 9 1).map fun e => (e.daySpend, e.dayAlcohol, e.holdCount)) = (45012, some (16012, 3, 0)) ∧
    (t.holdSlot 5 = ⟨.free, 1, .committed⟩ ∧ t.journal.entries.map (·.seq) = [885] ∧ resultOf 9 t = some .approved) := by decide

/-- Section 7.4's hold 105 (slot 9, counter 3) with its card and folio. -/
def hold105 (b : HoldBody) : State :=
  let s := ((ready.setHoldSlot 9 ⟨b, 3, .none⟩).setFolio 4 ⟨.opened, 100000, 0, 12360⟩).setEntry 9 1
    (some { card9 with dayStamp := 63, daySpend := 7360, dayAlcohol := 2, holdCount := 1 })
  s.withClock { s.clock with shipTime := 1000180, day := 63 }

def bar : Hold := ⟨2, 9, 3, 4, 2000, 2360, 2, 0, 1800, 63⟩

theorem test_secondCount_expires : let t := after .secondCount (hold105 (.held bar 1000181))
    (t.holdSlot 9, (t.folio 4).exposure, (t.entry 9 1).map fun e => (e.daySpend, e.dayAlcohol, e.holdCount), notices t) =
      (⟨.free, 3, .expired⟩, 10000, some (5000, 0, 0), [.holdExpired 105 2 9 3 4 2360 2 1000181 .timeout]) := by decide

theorem test_commit_tooLate : let s := hold105 .free
    let s := s.setHoldSlot 9 ⟨.free, 3, .expired⟩
    (resultOf 30 (after (.commit (rq 5) 105 2000 2) s), resultOf 30 (after (.voidHold (rq 1) 105) s)) = (some .tooLate, some .unknownHold) := by
  decide

theorem test_voidHold : let t := after (.voidHold (rq 1) 105) (hold105 (.held bar 1000181))
    ((t.folio 4).exposure, (t.holdSlot 9).lastEnd) = (10000, .voided) := by decide

/-! ### Chapters 8 to 11: a settlement, a cold start, the recorder and the link -/

/-- Section 8.5's journal of four entries with 884 joined, the settlement of 880 to 882 being written. -/
def settle882 : State :=
  let e (seq folio total : Nat) := journalEntry seq folio total
  (((ready.withJournal ⟨[e 880 17 4012, e 881 33 2500, e 882 17 1300, e 883 58 900, e 884 17 2000], some 885, some ⟨3, 882⟩⟩).setFolio 17
    ⟨.opened, 150000, 96500, 7312⟩).setFolio 58 ⟨.opened, 100000, 0, 900⟩).withStore
    ⟨[.settle 882 (some ⟨Kind.settle, 9⟩)], some ⟨.settle 882, false⟩, 0, 0⟩

theorem test_storeAttemptEnd_settle : let t := after (.storeAttemptEnd true) settle882
    (t.journal.entries.map (·.seq), t.folio 17, t.folio 33, t.image.settledThrough, t.journal.settle) =
      ([883, 884], ⟨.opened, 150000, 101812, 2000⟩, defaultFolio, 882, none) := by decide

/-- Section 8.6's cold start: records 880 to 884 and 886, settled through 882. -/
theorem test_storeScan_journal :
    let r (n next : Nat) : Option EntryRecord := some ⟨journalEntry n 17 100, some next⟩
    let s := { State.reset with image := { freshImage with settledThrough := 882, entries :=
      [(0, r 880 881), (1, r 881 882), (2, r 886 887), (3, r 883 884), (4, r 884 885), (5, r 882 883)] } }
    let t := after .storeScan s
    (t.journal.entries.map (·.seq), t.journal.next, t.starting) = ([883, 884, 886], some 887, false) := by decide

/-- Section 9.4's cold start: the marker names DAY 42, and entry 885 carries that day. -/
theorem test_storeScan_marker :
    let s := { State.reset with choices := [0, 0], image := { freshImage with marker := some ⟨.day, 42⟩, day := some 41, entries :=
      [(0, some ⟨{ journalEntry 885 17 100 with day := 42 }, some 886⟩)] } }
    let t := after .storeScan s
    (t.clock.day, t.image.day, t.image.marker, notices t) = (42, some 41, none, [.storeInterrupted .day 42,
      .fault .storeInterrupted .alert 0 {} 1 true, .restarted .power ⟨false, false⟩]) := by decide

theorem test_storeWriteBegin : let t := after .storeWriteBegin (queued (.entry 2 ⟨4, 9, 3, 2, 1000, 180, 1180, 1⟩ none) journalled)
    (t.journal.next, t.image.marker, t.store.write.map (·.second)) = (some 9, some ⟨.entry, 8⟩, some false) := by decide

/-- R191: the first ALERT replaces a NOTE in the capture, and a second ALERT does not. -/
theorem test_report_capture :
    let s := report .cardCheck { card := some 9 } ready
    let t := report .doorForced { portal := some 2 } s
    let u := report .doorHeld { portal := some 3 } t
    (s.frc.capture.map (·.kind), t.frc.capture.map (·.kind), u.frc.capture.map (·.kind), u.frc.summary.length) =
      (some .cardCheck, some .doorForced, some .doorForced, 3) := by decide

/-- R200: the sixteenth request is taken, the seventeenth answered BUSY. -/
theorem test_request_busy : (after (.ping (rq 0)) (loaded 15 0)).link.outstanding.length = 16 ∧
    (after (.ping (rq 0)) (loaded 16 0)).link.busy = [⟨Kind.ping, 30⟩] := by decide

theorem test_badLength : resultOf 30 (after (.cardRevoke (rq 3) 9) ready) = some .badLength := by decide

/-- R198, R212: TXD idles high; a frame begins with SYNC, 0xC3, its start bit low and its bits least significant first. -/
theorem test_txd : (List.range 12).map ready.txd = List.replicate 12 true ∧
    (List.range 12).map (sending (.busy ⟨Kind.ping, 8⟩)).txd =
      [false, true, true, false, false, false, false, true, true, true, false, true] := by decide

/-- R201, R204: each part of a reply that waits is a frame. -/
theorem test_linkQuery : (replyTo 30 (after (.linkQuery (rq 0)) (sending (.reply ⟨Kind.holdScan, 9⟩ (.plain .done (List.replicate 100 (.n4 0))) 0)))).map
    (fun b => match b with
      | .plain _ fs => fs[4]?
      | .decision _ => none) = some (some (.n1 3)) := by decide

/-- R11: WAY-QUERY names a way, which is judged. -/
theorem test_wayQuery : resultOf 30 (after (.wayQuery ⟨rq 1, 4⟩) ready) = some .badValue ∧
    resultOf 30 (after (.wayQuery ⟨rq 1, 3⟩) ready) = some .done := by decide

/-- R185, R208: a person number and a day are two bytes of STORE-INTERRUPTED, a sequence number and a muster number four. -/
theorem test_identifierSizes : [StoreKind.slot, .entry, .settle, .muster, .day].map (fun k =>
    (Notice.storeInterrupted k 258).layout.2.flatMap Fld.bytes) =
      [[0, 1, 2], [1, 0, 0, 1, 2], [2, 0, 0, 1, 2], [3, 0, 0, 1, 2], [4, 1, 2]] := by decide

/-- R41, R210: the portal state is no field of a reply at a portal that is no door, lane or station. -/
theorem test_portalState : ([ready, withDoor { door .outOfService with disabled := true } ready].map fun s =>
    (replyTo 30 (after (.present (rq 6) 2 9 1) s)).map fun b => match b with
      | .decision d => (d.outcome, d.portalState)
      | .plain r _ => (r, 0)) = [some (.outOfService, 0), some (.outOfService, 6)] := by decide

/-- R205, R206: RESTART clears the link, tells its source, reads the straps and releases the holds. -/
theorem test_restart : let t := after (.restart ⟨rq 0, ⟨true, false⟩⟩) (withHold (.held hold9 100180) (loaded 3 2))
    (t.link.outstanding, (notices t).head?, (t.holdSlot 2).lastEnd, t.link.straps) =
      ([], some (.restarted (.request 30) ⟨false, false⟩), .released, ⟨true, false⟩) := by decide

end Sys2Proof.Tests
end

namespace Sys2Proof.Machine

open Sys2Proof

/-! ## The card table's requests, once the link has taken them (R200)

A request that `Accepts` lets through reaches its owner with the request on the outstanding list; the words of the
statements about cards and fetches hold of that state as they held before. -/

section Taken

variable {s : State} {h : Hdr} {need kind : Nat}

theorem exec_cardLoad {r : CardRecord} (a : s.Accepts h (cardLoadLength r.grantCount)) :
    exec (.cardLoad h r) s = .next (cardLoad r ⟨Kind.cardLoad, h.tag⟩ (s.taken Kind.cardLoad h)) :=
  congrArg _ (accept_owner a)

theorem exec_cardUnknown {card : Nat} (a : s.Accepts h 4) :
    exec (.cardUnknown h card) s = .next (cardUnknown card ⟨Kind.cardUnknown, h.tag⟩ (s.taken Kind.cardUnknown h)) :=
  congrArg _ (accept_owner a)

theorem exec_cardRevoke {card : Nat} (a : s.Accepts h 4) :
    exec (.cardRevoke h card) s = .next (cardRevoke card ⟨Kind.cardRevoke, h.tag⟩ (s.taken Kind.cardRevoke h)) :=
  congrArg _ (accept_owner a)

theorem exec_cardResident {card value : Nat} (a : s.Accepts h 5) :
    exec (.cardResident h card value) s =
      .next (cardResident card value ⟨Kind.cardResident, h.tag⟩ (s.taken Kind.cardResident h)) :=
  congrArg _ (accept_owner a)

theorem exec_cardQuery {form key : Nat} (a : s.Accepts h 5) :
    exec (.cardQuery h form key) s = .next (cardQuery form key ⟨Kind.cardQuery, h.tag⟩ (s.taken Kind.cardQuery h)) :=
  congrArg _ (accept_owner a)

theorem exec_flush (a : s.Accepts h 0) :
    exec (.flush h) s = .next (flush ⟨Kind.flush, h.tag⟩ (s.taken Kind.flush h)) := congrArg _ (accept_owner a)

theorem exec_wayDisable {w : Nat} (a : s.Accepts h 1) :
    exec (.wayDisable h w) s = .next (wayDisable w ⟨Kind.wayDisable, h.tag⟩ (s.taken Kind.wayDisable h)) :=
  congrArg _ (accept_owner a)

theorem exec_wayRestore {w : Nat} (a : s.Accepts h 1) :
    exec (.wayRestore h w) s = .next (wayRestore w ⟨Kind.wayRestore, h.tag⟩ (s.taken Kind.wayRestore h)) :=
  congrArg _ (accept_owner a)

theorem exec_wayQuery {g : WayRequest} (a : s.Accepts g.toHdr 1) :
    exec (.wayQuery g) s = .next (wayQuery g.way ⟨Kind.wayQuery, g.tag⟩ (s.taken Kind.wayQuery g.toHdr)) :=
  congrArg _ (accept_owner a)

theorem exec_present {portal card gen : Nat} (a : s.Accepts h 6) :
    exec (.present h portal card gen) s =
      .next (presentAt portal card gen ⟨Kind.present, h.tag⟩ (s.taken Kind.present h)) := congrArg _ (accept_owner a)

theorem exec_authorize {portal card gen : Nat} {x : ChargeAmounts} (a : s.Accepts h 12) :
    exec (.authorize h portal card gen x) s =
      .next (authorize portal card gen x ⟨Kind.authorize, h.tag⟩ (s.taken Kind.authorize h)) := congrArg _ (accept_owner a)

theorem State.Lacks.taken {c : Nat} (x : s.Lacks c) : (s.taken kind h).Lacks c := x

theorem State.NoFetch.taken {c : Nat} (x : s.NoFetch c) : (s.taken kind h).NoFetch c := x

theorem State.TableSound.taken (x : s.TableSound) : (s.taken kind h).TableSound := x

theorem State.Holds.taken {c w : Nat} {e : CardEntry} (x : s.Holds c w e) : (s.taken kind h).Holds c w e :=
  ⟨x.way, x.entry, x.card, x.found, x.only⟩

theorem State.Hits.taken {c gen w : Nat} {e : CardEntry} (x : s.Hits c gen w e) : (s.taken kind h).Hits c gen w e :=
  ⟨x.number, x.generation, x.found.taken, x.suspect, x.code⟩

theorem State.Fetches.taken {c n : Nat} {f : Fetch} (x : s.Fetches c n f) : (s.taken kind h).Fetches c n f :=
  ⟨x.number, x.fetch, x.card, x.only⟩

/-- The answer to a request whose owner has changed the part. -/
theorem answer_replied (k : Nat) (r : Result) (fs : List Fld) (t : State) :
    answer ⟨k, h.tag⟩ r fs t = t.replied k h r fs := answer_eq _ _ _ _

end Taken

/-! ## Writes of an entry (R2, R3) -/

section Writes

variable {s : State}

/-- A write of a valid entry leaves it up to date, changed, and with its check code recomputed. -/
theorem writeEntry_some {set way : Nat} {e : CardEntry} (f : CardEntry → CardEntry) (h : s.entry set way = some e) :
    writeEntry set way f s = s.setEntry set way (some { f (e.refresh s.clock.day) with codeDiff := 0 }) := by
  simp [writeEntry, h]

theorem writeEntry_none {set way : Nat} (f : CardEntry → CardEntry) (h : s.entry set way = none) :
    writeEntry set way f s = s := by simp [writeEntry, h]

end Writes

/-! ## Records (R16, R209) -/

theorem recordParts_good {r : CardRecord} {cls : CardClass} {grants : List Grant} (g : GoodRecord r cls grants) :
    recordParts r = some (cls, grants) := by
  obtain ⟨card, gen, person, folio, hcls, count, hgrants⟩ := g
  have ranges : ¬ (r.card = 0 ∨ 15 < r.gen ∨ 8191 < r.person ∨ 4095 < r.folio) := by omega
  simp [recordParts, enumOf, grantsOf, hcls, hgrants, count, card, show ¬ 15 < r.gen by omega,
    show ¬ 8191 < r.person by omega, show ¬ 4095 < r.folio by omega]

/-- A grant's two bytes name no grant where R16 refuses them. -/
theorem grantOf_bad {g : Nat} (h : BadGrant g) : grantOf g = none := by
  unfold grantOf
  rcases h with ⟨h, b⟩ | ⟨h1, h2, b⟩ | h
  · have kind : g / 16384 = 0 := by omega
    have number : g % 16384 = g := by omega
    have range : ¬ (1 ≤ g ∧ g ≤ 9999) := by omega
    simpa [kind, number] using range
  · have kind : g / 16384 = 1 := by omega
    have range : ¬ (1 ≤ g % 16384 ∧ g % 16384 ≤ 63) := by omega
    simpa [kind] using range
  · rcases hq : g / 16384 with _ | _ | _ | n
    · omega
    · omega
    · omega
    · rfl

/-- One value that names nothing leaves a whole list unnamed. -/
theorem mapM_eq_none {α β : Type} {f : α → Option β} {x : α} {l : List α} (mem : x ∈ l) (hx : f x = none) : l.mapM f = none := by
  induction l with
  | nil => cases mem
  | cons y l ih =>
    rw [List.mapM_cons]
    rcases List.mem_cons.1 mem with rfl | mem
    · simp [hx]
    · cases f y <;> simp [ih mem]

theorem grantsOf_bad {r : CardRecord} (h : 4 < r.grantCount ∨ ∃ g ∈ r.grants, BadGrant g) : grantsOf r = none := by
  unfold grantsOf
  split
  · rcases h with h | ⟨g, hg, bad⟩
    · omega
    · exact mapM_eq_none hg (grantOf_bad bad)
  · rfl

theorem recordParts_bad {r : CardRecord} (h : BadRecord r) : recordParts r = none := by
  unfold recordParts
  split
  · rfl
  · rename_i ok
    simp only [Bool.or_eq_true, decide_eq_true_eq, not_or] at ok
    rcases h with h | h | h | h | h | h
    · omega
    · omega
    · omega
    · omega
    · have : enumOf cardClasses r.cls = none := List.getElem?_eq_none h
      simp [this]
    · have : grantsOf r = none := grantsOf_bad h
      cases enumOf cardClasses r.cls <;> simp [this]

/-! ## The rows of the requests, in the words of the statements -/

section Rows

variable {s : State} {h : Hdr}

theorem cardLoad_bad {r : CardRecord} {id : ReqId} (b : BadRecord r) : cardLoad r id s = answer id .badRecord [] s := by
  simp [cardLoad, recordParts_bad b]

theorem cardLoad_noFetch {r : CardRecord} {cls : CardClass} {grants : List Grant} {id : ReqId} (g : GoodRecord r cls grants)
    (n : s.NoFetch r.card) : cardLoad r id s = loadRecord id (entryOf r cls grants s.clock.day) s := by
  simp [cardLoad, recordParts_good g, fetchOf_none n]

theorem cardLoad_fetch {r : CardRecord} {cls : CardClass} {grants : List Grant} {id : ReqId} {n : Nat} {f : Fetch}
    (g : GoodRecord r cls grants) (x : s.Fetches r.card n f) :
    cardLoad r id s = answerFetch id n f (entryOf r cls grants s.clock.day) s := by
  simp [cardLoad, recordParts_good g, fetchOf_fetches x]

end Rows

end Sys2Proof.Machine

namespace Sys2Proof.Machine

open Sys2Proof

/-! ## Updating in place (R17) -/

/-- The merge of an entry with a record's entry takes the larger of the counters where the record's are of the day. -/
theorem merge_refresh_recordEntry (e : CardEntry) (r : CardRecord) (cls : CardClass) (grants : List Grant) (day : Nat)
    (rev : Bool) :
    let today : Bool := r.dayStamp = day
    let spend := if e.dayStamp = day then e.daySpend else 0
    let alcohol := if e.dayStamp = day then e.dayAlcohol else 0
    { (e.refresh day).merge { entryOf r cls grants day with revoked := rev } with codeDiff := 0 } =
      { recordEntry r cls grants day (if today then max spend r.daySpend else spend)
          (if today then max alcohol r.dayAlcohol else alcohol) with
        revoked := rev, resident := e.resident, holdCount := e.holdCount } := by
  by_cases today : r.dayStamp = day <;>
    simp [CardEntry.merge, CardEntry.refresh, CardEntry.spend, CardEntry.alcohol, entryOf, recordEntry, today]

/-- Settles O2. -/
theorem cardLoadUpdates : Obligations.CardLoadUpdates := by
  intro s h r cls grants w e acc good noFetch holds sound today spend alcohol updated
  have place := placeRecord_holds (fresh := entryOf r cls grants s.clock.day) (holds.taken (h := h) (kind := Kind.cardLoad)) sound
  rw [exec_cardLoad acc, cardLoad_noFetch good noFetch.taken]
  simp only [loadRecord, State.taken_clock, place]
  rw [writeEntry_some _ (by exact holds.entry), State.taken_setEntry, answer_taken]
  exact congrArg (fun x => Host.Outcome.next ((s.setEntry (setIndex r.card) w (some x)).replies Kind.cardLoad h .updated []))
    (merge_refresh_recordEntry e r cls grants s.clock.day r.revoked)

/-! ## The end of a fetch (R25, R26) -/

section RefuseFetch

variable {s : State}

/-- A decision about a presentation does not read the fetches or the link. -/
@[simp] theorem decisionFor_setFetch (p : Presentation) (r : Result) (n : Option Nat) (k : Nat) (f : Option Fetch) :
    decisionFor p r n (s.setFetch k f) = decisionFor p r n s := by
  unfold decisionFor; cases p.job <;> rfl

@[simp] theorem decisionFor_taken (p : Presentation) (r : Result) (n : Option Nat) (k : Nat) (h : Hdr) :
    decisionFor p r n (s.taken k h) = decisionFor p r n s := by
  unfold decisionFor; cases p.job <;> rfl

/-- The refusals of a fetch that ends without a record, in joining order; none where nothing waits. -/
theorem refuseFetch_eq (n : Nat) (f : Fetch) (r : Result) :
    refuseFetch n f r s = if f.waiting = [] then s.setFetch n none else (s.setFetch n none).transmits
      (f.waiting.map fun p => p.frame (decisionFor p (if f.revoked then .revoked else r) none s)) := by
  simp [refuseFetch, refuse_all]

/-- The refusals with the frames that follow them. -/
theorem refuseFetch_transmits (n : Nat) (f : Fetch) (r : Result) (fs : List Frame) :
    (refuseFetch n f r s).transmits fs = (s.setFetch n none).transmits
      ((f.waiting.map fun p => p.frame (decisionFor p (if f.revoked then .revoked else r) none s)) ++ fs) := by
  rw [refuseFetch_eq]
  split
  · simp [*]
  · simp

end RefuseFetch

/-- Settles O4. -/
theorem cardUnknownEndsFetch : Obligations.CardUnknownEndsFetch := by
  intro s h card acc
  refine ⟨fun n f fetches => ?_, fun noFetch => ?_⟩
  · rw [exec_cardUnknown acc]
    simp [cardUnknown, fetchOf_fetches fetches.taken, answer_eq, refuseFetch_transmits]
  · rw [exec_cardUnknown acc]
    simp [cardUnknown, fetchOf_none noFetch.taken, answer_taken]

/-! ## CARD-REVOKE (R27) -/

section Revoke

variable {s : State} {card : Nat} {id : ReqId}

/-- A write of an entry changes no fetch, and a fetch's is found as it was. -/
theorem fetchOf_setEntry (set way : Nat) (e : Option CardEntry) (c : Nat) : fetchOf (s.setEntry set way e) c = fetchOf s c := rfl

/-- The card's entry with the record of a revocation. -/
def CardEntry.revokedOn (e : CardEntry) (day : Nat) : CardEntry := { e.refresh day with revoked := true, codeDiff := 0 }

theorem cardRevoke_holds {w : Nat} {e : CardEntry} (x : s.Holds card w e) (ok : e.Sound) (none : fetchOf s card = none) :
    cardRevoke card id s =
      answer id .done [.n1 1, .n1 0] (s.setEntry (setIndex card) w (some (e.revokedOn s.clock.day))) := by
  have write := writeEntry_some (fun e => { e with revoked := true }) x.entry
  simp [cardRevoke, readCard_holds x ok, write, fetchOf_setEntry, none, yesCode, CardEntry.revokedOn]

theorem cardRevoke_both {w n : Nat} {e : CardEntry} {f : Fetch} (x : s.Holds card w e) (ok : e.Sound)
    (hf : fetchOf s card = some (n, f)) :
    cardRevoke card id s = answer id .done [.n1 1, .n1 1]
      ((s.setEntry (setIndex card) w (some (e.revokedOn s.clock.day))).setFetch n (some { f with revoked := true })) := by
  have write := writeEntry_some (fun e => { e with revoked := true }) x.entry
  simp [cardRevoke, readCard_holds x ok, write, fetchOf_setEntry, hf, yesCode, CardEntry.revokedOn]

theorem cardRevoke_fetch {n : Nat} {f : Fetch} (x : s.Lacks card) (hf : fetchOf s card = some (n, f)) :
    cardRevoke card id s = answer id .done [.n1 0, .n1 1] (s.setFetch n (some { f with revoked := true })) := by
  simp [cardRevoke, readCard_lacks x, hf, yesCode]

theorem cardRevoke_neither (x : s.Lacks card) (none : fetchOf s card = none) :
    cardRevoke card id s = answer id .notPresent [] s := by
  simp [cardRevoke, readCard_lacks x, none]

end Revoke

/-- Settles O5. -/
theorem cardRevokeMarks : Obligations.CardRevokeMarks := by
  intro s h card acc
  refine ⟨fun w e holds sound => ⟨fun noFetch => ?_, fun n f fetches => ?_⟩,
    fun lacks => ⟨fun n f fetches => ?_, fun noFetch => ?_⟩⟩
  · rw [exec_cardRevoke acc, cardRevoke_holds holds.taken sound (fetchOf_none noFetch.taken)]
    simp [answer_taken, CardEntry.revokedOn]
  · rw [exec_cardRevoke acc, cardRevoke_both holds.taken sound (fetchOf_fetches fetches.taken)]
    simp [answer_taken, CardEntry.revokedOn]
  · rw [exec_cardRevoke acc, cardRevoke_fetch lacks.taken (fetchOf_fetches fetches.taken)]
    simp [answer_taken]
  · rw [exec_cardRevoke acc, cardRevoke_neither lacks.taken (fetchOf_none noFetch.taken), answer_taken]

/-! ## CARD-RESIDENT (R15) -/

section Resident

variable {s : State} {card value : Nat} {id : ReqId}

theorem onOff?_zero : onOff? 0 = some true := rfl
theorem onOff?_one : onOff? 1 = some false := rfl
theorem onOff?_none {n : Nat} (h : 1 < n) : onOff? n = none := List.getElem?_eq_none h

theorem onOff?_some {n : Nat} (h : n ≤ 1) : ∃ on, onOff? n = some on := by
  rcases Nat.le_one_iff_eq_zero_or_eq_one.1 h with rfl | rfl
  · exact ⟨true, rfl⟩
  · exact ⟨false, rfl⟩

theorem cardResident_lacks (hv : value ≤ 1) (x : s.Lacks card) :
    cardResident card value id s = answer id .notPresent [] s := by
  obtain ⟨on, hon⟩ := onOff?_some hv
  simp [cardResident, hon, readCard_lacks x]

theorem cardResident_suspect {w : Nat} {e : CardEntry} (hv : value ≤ 1) (x : s.Holds card w e) (hs : e.suspect = true) :
    cardResident card value id s = answer id .notPresent [] s := by
  obtain ⟨on, hon⟩ := onOff?_some hv
  simp [cardResident, hon, readCard_holds x (.inl hs), hs]

/-- The row of a valid entry that is not suspect: only pinning one more than the set may hold is refused. -/
theorem cardResident_holds {w : Nat} {e : CardEntry} {on : Bool} (hon : onOff? value = some on) (x : s.Holds card w e)
    (hs : e.suspect = false) (ok : e.codeDiff = 0) :
    cardResident card value id s =
      if on && e.resident then answer id .done [] s
      else if on && 3 ≤ residents s (setIndex card) then answer id .tableFull [] s
      else answer id .done [] (s.setEntry (setIndex card) w
        (some { e.refresh s.clock.day with resident := on, codeDiff := 0 })) := by
  have write := writeEntry_some (fun e => { e with resident := on }) x.entry
  simp [cardResident, hon, readCard_holds x (.inr ok), hs, write]

end Resident

/-- Settles O6. -/
theorem cardResidentRows : Obligations.CardResidentRows := by
  intro s h card value acc answers
  show _ ∧ _
  simp only [answers, exec_cardResident acc]
  refine ⟨fun bad => ?_, fun hv lacks => ?_, fun w e hv holds hs => ?_, fun w e holds hs code => ?_⟩
  · simp [cardResident, onOff?_none bad, answer_taken]
  · rw [cardResident_lacks hv lacks.taken, answer_taken]
  · rw [cardResident_suspect hv holds.taken hs, answer_taken]
  · refine ⟨?_, ?_, ?_, ?_⟩
    · rintro rfl pinned
      simp [cardResident_holds onOff?_zero holds.taken hs code, pinned, answer_taken]
    · rintro rfl free few
      have few : residents (s.taken Kind.cardResident h) (setIndex card) < 3 := few
      simp [cardResident_holds onOff?_zero holds.taken hs code, free, few, answer_taken]
    · rintro rfl free many
      have many : 3 ≤ residents (s.taken Kind.cardResident h) (setIndex card) := many
      simp [cardResident_holds onOff?_zero holds.taken hs code, free, many, answer_taken]
    · rintro rfl
      simp [cardResident_holds onOff?_one holds.taken hs code, answer_taken]

/-! ## CARD-QUERY (R20) -/

section Query

variable {s : State} {id : ReqId}

/-- The set and the way that a key of the second form names (R209). -/
theorem querySet_key {set way low : Nat} (hw : way < 256) (hl : low < 65536) :
    querySet (set * 16777216 + way * 65536 + low) = set := by unfold querySet; omega

theorem queryWay_key {set way low : Nat} (hw : way < 256) (hl : low < 65536) :
    queryWay (set * 16777216 + way * 65536 + low) = way := by unfold queryWay; omega

theorem queryPlace_none {set way : Nat} (hw : way ≤ 3) (x : s.entry set way = none) :
    queryPlace set way id s = answer id .notPresent (fetchFields none) s := by
  simp [queryPlace, show ¬ 3 < way by omega, verify_none x, x]

theorem queryPlace_sound {set way : Nat} {e : CardEntry} (hw : way ≤ 3) (x : s.entry set way = some e) (ok : e.Sound) :
    queryPlace set way id s = answer id .done (entryFields set way e s ++ fetchFields none) s := by
  simp [queryPlace, show ¬ 3 < way by omega, verify_sound x ok, x]

theorem queryPlace_bad {set way : Nat} (hw : 3 < way) : queryPlace set way id s = answer id .badValue [] s := by
  simp [queryPlace, hw]

end Query

/-- Settles O7. -/
theorem cardQueryReads : Obligations.CardQueryReads := by
  intro s h form key acc answers
  simp only [answers, exec_cardQuery acc]
  refine ⟨?_, ?_, ?_, fun bad => ?_⟩
  · rintro w e rfl holds sound
    simp only [cardQuery, queryCard, readSeen_holds holds.taken sound, answer_taken]
    rfl
  · rintro rfl lacks
    simp only [cardQuery, queryCard, readSeen_lacks lacks.taken, answer_taken]
    rfl
  · rintro set way low rfl rfl hw hl
    simp only [cardQuery, querySet_key hw hl, queryWay_key hw hl]
    refine ⟨fun bad => ?_, fun ok x => ?_, fun e ok x sound => ?_⟩
    · rw [queryPlace_bad bad, answer_taken]
    · rw [queryPlace_none (s := s.taken _ h) ok x, answer_taken]
    · rw [queryPlace_sound (s := s.taken _ h) ok x sound, answer_taken]
      rfl
  · match form, bad with
    | n + 2, _ => simp [cardQuery, answer_taken]

/-! ## Allocation (R12 to R14, R18) -/

section Install

variable {s : State}

/-- The lowest of a set's four ways that meets a condition is where the search ends. -/
theorem find?_range4 {p : Nat → Bool} {w : Nat} (hw : w < 4) (hp : p w = true) (before : ∀ v < w, p v = false) :
    (List.range 4).find? p = some w := by
  rcases lt4_cases hw with rfl | rfl | rfl | rfl <;> simp_all [List.range, List.range.loop, List.find?]

/-- A set with an enabled way that has no valid entry takes the lowest such way. -/
theorem chooseWay_free {set w : Nat} (hw : w < 4) (on : (s.way w).enabled = true) (empty : s.entry set w = none)
    (lowest : ∀ v < w, (s.way v).enabled = true → s.entry set v ≠ none) : chooseWay s set = some w := by
  have : (List.range 4).find? (fun w => (s.way w).enabled && (s.entry set w).isNone) = some w :=
    find?_range4 hw (by simp [on, empty]) fun v hv => by
      cases he : (s.way v).enabled with
      | false => rfl
      | true => simpa [he] using Option.ne_none_iff_isSome.1 (lowest v hv he)
  simp [chooseWay, this]

/-- A set with none is walked from its pointer. -/
theorem chooseWay_walk {set : Nat} (full : ∀ v < 4, (s.way v).enabled = true → s.entry set v ≠ none) :
    chooseWay s set = ((List.range 4).map fun i => (s.pointer set + i) % 4).find? fun w =>
      (s.way w).enabled && (s.entry set w).any fun e => !e.resident && e.holdCount = 0 := by
  have : (List.range 4).find? (fun w => (s.way w).enabled && (s.entry set w).isNone) = none := by
    rw [List.find?_eq_none]
    intro v hv
    have := full v (List.mem_range.1 hv)
    simpa [Option.ne_none_iff_isSome] using this
  simp [chooseWay, this]

/-- What the walk looks for. -/
theorem mayGo_iff {set w : Nat} :
    ((s.way w).enabled && (s.entry set w).any fun e => !e.resident && e.holdCount = 0) = true ↔
      (s.way w).enabled = true ∧ ∃ e, s.entry set w = some e ∧ e.resident = false ∧ e.holdCount = 0 := by
  cases s.entry set w <;> simp

/-- The walk ends at the first way whose entry may go. -/
theorem chooseWay_evict {set k : Nat} (full : ∀ v < 4, (s.way v).enabled = true → s.entry set v ≠ none) (hk : k < 4)
    (goes : (s.way ((s.pointer set + k) % 4)).enabled = true ∧
      ∃ e, s.entry set ((s.pointer set + k) % 4) = some e ∧ e.resident = false ∧ e.holdCount = 0)
    (stay : ∀ j < k, ¬ ((s.way ((s.pointer set + j) % 4)).enabled = true ∧
      ∃ e, s.entry set ((s.pointer set + j) % 4) = some e ∧ e.resident = false ∧ e.holdCount = 0)) :
    chooseWay s set = some ((s.pointer set + k) % 4) := by
  rw [chooseWay_walk full, List.find?_map, Option.map_eq_some_iff]
  exact ⟨k, find?_range4 hk (mayGo_iff.2 goes) fun j hj => Bool.not_eq_true _ ▸ (mayGo_iff.not.2 (stay j hj)), rfl⟩

/-- A set none of whose entries may go has no way for a new one. -/
theorem chooseWay_none {set : Nat} (full : ∀ v < 4, (s.way v).enabled = true → s.entry set v ≠ none)
    (stay : ∀ v < 4, ¬ ((s.way v).enabled = true ∧ ∃ e, s.entry set v = some e ∧ e.resident = false ∧ e.holdCount = 0)) :
    chooseWay s set = none := by
  rw [chooseWay_walk full, List.find?_eq_none]
  intro w hw
  obtain ⟨i, _, rfl⟩ := List.mem_map.1 hw
  exact mayGo_iff.not.2 (stay _ (Nat.mod_lt _ (by omega)))

theorem leaveTable_none {set w : Nat} (h : s.entry set w = none) : leaveTable set w s = s := by simp [leaveTable, h]

theorem leaveTable_some {set w : Nat} {e : CardEntry} (h : s.entry set w = some e) :
    leaveTable set w s = (if e.tallies s.clock.day then notify e.tally s else s).setEntry set w none := by
  simp [leaveTable, h, CardEntry.tallies, CardEntry.tally]

/-- With room for its DAY-TALLY, a valid entry leaves the table with that frame or with none. -/
theorem leaveTable_room {set w : Nat} {e : CardEntry} (h : s.entry set w = some e) (room : s.NoticeRoom 1) :
    leaveTable set w s = if e.tallies s.clock.day then (s.setEntry set w none).transmits [.notice e.tally]
      else s.setEntry set w none := by
  rw [leaveTable_some h]
  split
  · rw [notify_room _ _ room, State.transmits_setEntry]
  · rfl

theorem install_free {e : CardEntry} {w : Nat} (choice : chooseWay s (setIndex e.card) = some w)
    (empty : s.entry (setIndex e.card) w = none) :
    install e s = (some w, (s.setEntry (setIndex e.card) w (some e)).setPointer (setIndex e.card) ((w + 1) % 4)) := by
  simp [install, choice, leaveTable_none empty]

theorem install_none {e : CardEntry} (choice : chooseWay s (setIndex e.card) = none) : install e s = (none, s) := by
  simp [install, choice]

end Install

/-- Settles O1. -/
theorem cardLoadInstalls : Obligations.CardLoadInstalls := by
  refine ⟨?_, fun s h r acc bad => ?_⟩
  · intro s h r cls grants acc good noFetch lacks sound canonical set today fresh mayGo
    let u := s.taken Kind.cardLoad h
    have place : placeRecord fresh u = match install fresh u with
        | (some w, s) => (.installed w, s)
        | (none, s) => (.failed, s) := placeRecord_lacks (s := u) lacks.taken sound
    rw [exec_cardLoad acc, cardLoad_noFetch good noFetch.taken]
    change (∀ w < 4, _ → _ → _ → Host.Outcome.next (loadRecord _ fresh u) = _) ∧
      (_ → _ → _ → (∀ k < 4, ∀ old, _ → _ → _ → Host.Outcome.next (loadRecord _ fresh u) = _) ∧
        (_ → Host.Outcome.next (loadRecord _ fresh u) = _))
    refine ⟨fun w hw on empty lowest => ?_, fun full _ room => ⟨fun k hk old goes stay entry => ?_, fun stay => ?_⟩⟩
    · have ins := install_free (s := u) (e := fresh) (chooseWay_free hw on empty lowest) empty
      simp only [loadRecord, place, ins, u, State.taken_setEntry, State.taken_setPointer, answer_taken]
      rfl
    · have choice : chooseWay u set = some ((s.pointer set + k) % 4) := chooseWay_evict (s := u) full hk goes stay
      have twice := State.setEntry_setEntry s set ((s.pointer set + k) % 4) none (some fresh) canonical.entries
      have leave := leaveTable_room (s := u) entry room
      simp only [loadRecord, place, install, show setIndex fresh.card = set from rfl, choice, leave, answer_eq]
      cases ht : old.tallies s.clock.day <;> simp [twice, u, ht]
    · have ins := install_none (s := u) (e := fresh) (chooseWay_none (s := u) full stay)
      simp only [loadRecord, place, ins, u, answer_taken]
  · rw [exec_cardLoad acc, cardLoad_bad bad, answer_taken]

end Sys2Proof.Machine

namespace Sys2Proof.Machine

open Sys2Proof

/-! ## Settings (R22, R35, R82, R150) -/

section Settings

variable {s : State} {h : Hdr}

theorem exec_fetchWaitSet {ms : Nat} (a : s.Accepts h 2) :
    exec (.fetchWaitSet h ms) s =
      .next (fetchWaitSet ms ⟨Kind.fetchWaitSet, h.tag⟩ (s.taken Kind.fetchWaitSet h)) := congrArg _ (accept_owner a)

theorem exec_guardSet {v : Nat} (a : s.Accepts h 4) :
    exec (.guardSet h v) s = .next (guardSet v ⟨Kind.guardSet, h.tag⟩ (s.taken Kind.guardSet h)) :=
  congrArg _ (accept_owner a)

theorem exec_holdTimeSet {v : Nat} (a : s.Accepts h 4) :
    exec (.holdTimeSet h v) s = .next (holdTimeSet v ⟨Kind.holdTimeSet, h.tag⟩ (s.taken Kind.holdTimeSet h)) :=
  congrArg _ (accept_owner a)

theorem exec_rolloverSet {offset : Nat} (a : s.Accepts h 4) :
    exec (.rolloverSet h offset) s =
      .next (rolloverSet offset ⟨Kind.rolloverSet, h.tag⟩ (s.taken Kind.rolloverSet h)) := congrArg _ (accept_owner a)

/-- The day stays where the clock is NOT-SET or the computed day does not pass it (R32). -/
theorem evaluateDay_stays (x : s.clock.isSet = false ∨ (s.clock.shipTime - s.clock.offset) / 86400 ≤ s.clock.day) :
    evaluateDay s = s := by
  rcases x with x | x
  · simp [evaluateDay, x]
  · simp [evaluateDay, computedDay, Nat.not_lt.2 x]

end Settings

/-- Settles O24. -/
theorem settingsTaken : Obligations.SettingsTaken := by
  refine ⟨fun s h v => ⟨fun a => ?_, fun a => ?_, fun a => ?_⟩, fun s h offset a => ⟨fun bad => ?_, fun ok stays => ?_⟩⟩
  · simp [exec_fetchWaitSet a, fetchWaitSet, clampTo, answer_taken, Nat.mul_comm]
  · simp [exec_guardSet a, guardSet, clampTo, answer_taken]
  · simp [exec_holdTimeSet a, holdTimeSet, clampTo, answer_taken]
  · simp [exec_rolloverSet a, rolloverSet, bad, answer_taken]
  · have day := evaluateDay_stays (s := (s.taken Kind.rolloverSet h).withClock { s.clock with offset := offset }) stays
    rw [exec_rolloverSet a]
    simp only [rolloverSet, Nat.not_lt.2 ok, if_false, State.taken_clock, day]
    simp [answer_taken]

/-! ## The first power-on (R28, R39, R69, R82, R116, R133, R141, R148, R162, R188, R197, R205) -/

/-- Settles O51: every value is one of the record that `State.reset` writes out. -/
theorem resetValues : Obligations.ResetValues := by
  refine ⟨rfl, rfl, rfl, rfl, fun _ _ => rfl, rfl, fun _ => ⟨rfl, rfl, rfl⟩, fun _ => rfl, fun _ => ⟨rfl, rfl⟩, rfl, rfl, rfl,
    rfl, rfl, fun _ => rfl, fun _ => rfl, rfl, rfl, rfl, rfl, rfl, rfl, rfl, rfl, rfl, rfl⟩

section AtReset

theorem reset_canonical : State.reset.Canonical := by constructor <;> rfl

theorem reset_linkBounded : State.reset.LinkBounded :=
  ⟨Nat.zero_le _, Nat.zero_le _, Nat.zero_le _, List.nodup_nil, List.not_mem_nil, nofun⟩

theorem reset_storeBounded : State.reset.StoreBounded := ⟨Nat.zero_le _, nofun⟩

theorem reset_recorderSound : State.reset.RecorderSound := ⟨rfl, by decide, nofun⟩

theorem reset_rollCounted : State.reset.RollCounted := by constructor <;> rfl

theorem reset_musterCounted : State.reset.MusterCounted := ⟨rfl, rfl, fun _ => rfl, rfl⟩

theorem reset_markedAboard : State.reset.MarkedAboard := ⟨nofun, nofun⟩

theorem defaultPortal_sound : defaultPortal.Sound where
  unconfigured _ := ⟨rfl, rfl⟩
  plain := by decide
  disabled := nofun
  served := nofun
  release := nofun
  heldOpen := nofun
  strike := rfl
  awaited := nofun

theorem reset_portalsSound : State.reset.PortalsSound := ⟨fun _ => defaultPortal_sound, rfl, nofun⟩

theorem reset_entry (set way : Nat) : State.reset.entry set way = none := rfl

theorem reset_tableBounded : State.reset.TableBounded where
  one _ _ _ _ _ _ _ h := nomatch h
  residents _ := by simp [reset_entry]
  fetches _ _ _ _ _ _ h := nomatch h

theorem reset_holdsCounted : State.reset.HoldsCounted := ⟨nofun, nofun, nofun, nofun, nofun, nofun⟩

theorem reset_moneyKept : State.reset.MoneyKept where
  exposure _ h := absurd rfl h
  unloaded _ _ := rfl
  starting _ _ := rfl
  appends := nofun
  single := List.nodup_nil
  idle _ := rfl
  written := nofun

theorem reset_roomForAppends : State.reset.RoomForAppends := Nat.zero_le _

end AtReset

/-- Settles O55: every table is empty, every count 0. -/
theorem invariantsAtReset : Obligations.InvariantsAtReset :=
  ⟨reset_canonical, reset_linkBounded, reset_storeBounded, reset_recorderSound, reset_rollCounted, reset_musterCounted,
    reset_markedAboard, reset_portalsSound, reset_tableBounded, reset_holdsCounted, reset_moneyKept, reset_roomForAppends⟩

end Sys2Proof.Machine

namespace Sys2Proof.Machine

open Sys2Proof

/-! ## The route of a presentation (R48) -/

section Routes

variable {p : Portal} {s : State} {portal card gen : Nat} {id : ReqId}

/-- The routes that the statements name: a door, a gangway lane or a muster station. -/
def Portal.Routes (p : Portal) (job : Job) : Prop :=
  (p.isDoor = true ∧ job = .door) ∨ (p.cls = some .gangway ∧ job = .gangway) ∨ (p.cls = some .muster ∧ job = .muster)

theorem jobOf_door (h : p.isDoor = true) : jobOf p = some .door := by
  unfold Portal.isDoor at h
  unfold jobOf
  rcases hc : p.cls with _ | c
  · simp [hc] at h
  · cases c <;> simp_all [PortalClass.isDoor]

/-- A portal that is routed is handed to the block the statements name. -/
theorem jobOf_routes {job : Job} (h : p.Routes job) : jobOf p = some job := by
  rcases h with ⟨h, rfl⟩ | ⟨h, rfl⟩ | ⟨h, rfl⟩
  · exact jobOf_door h
  · simp [jobOf, h]
  · simp [jobOf, h]

theorem jobOf_none (h : p.cls = none ∨ p.cls = some .terminal) : jobOf p = none := by
  rcases h with h | h <;> simp [jobOf, h]

theorem presentAt_none (h : jobOf (s.portal portal) = none) :
    presentAt portal card gen id s =
      reply id (.decision { outcome := if s.clock.isSet then .outOfService else .clockUnset, portal := portal }) s := by
  simp [presentAt, h]

/-- A routed presentation meets the clock, then the portal's service, then, at a station, the muster (R48, R111). -/
theorem presentAt_routed {job : Job} (h : jobOf (s.portal portal) = some job) :
    presentAt portal card gen id s =
      if s.clock.isSet = false then refuse ⟨id.tag, portal, card, gen, job⟩ .clockUnset s
      else if (s.portal portal).disabled = true then refuse ⟨id.tag, portal, card, gen, job⟩ .outOfService s
      else if job = .muster ∧ s.emu.record.active = false then refuse ⟨id.tag, portal, card, gen, job⟩ .outOfService s
      else present ⟨id.tag, portal, card, gen, job⟩ s := by
  simp [presentAt, h]

/-- A routed presentation that passes the three checks comes to the card lookup. -/
theorem presentAt_looks {job : Job} (h : jobOf (s.portal portal) = some job) (clock : s.clock.isSet = true)
    (service : (s.portal portal).disabled = false) (muster : job ≠ .muster ∨ s.emu.record.active = true) :
    presentAt portal card gen id s = present ⟨id.tag, portal, card, gen, job⟩ s := by
  rw [presentAt_routed h, if_neg (by simp [clock]), if_neg (by simp [service]), if_neg (by rcases muster with m | m <;> simp [m])]

end Routes

/-! ## The lookup of a presentation (R7, R8, R13) -/

section Looks

variable {s : State} {p : Presentation}

/-- A generation above 15 and card number 0 are refused ahead of any lookup. -/
theorem present_noRecord (h : 15 < p.gen ∨ p.card = 0) : present p s = refuse p .noRecord s := by
  unfold present
  split
  · rfl
  · have : p.card = 0 := by omega
    simp [askCard, this]

theorem lookup_hits {c gen w : Nat} {e : CardEntry} (h : s.Hits c gen w e) : lookup c s = (some e, s.afterHit c w) :=
  lookup_hit h.found h.suspect h.code

/-- A presentation waits on the fetch it started or joined, or is refused FETCH-FULL (R22). -/
def orFull (p : Presentation) : Bool × State → State
  | (true, t) => t
  | (false, t) => refuse p .fetchFull t

@[simp] theorem orFull_true (p : Presentation) (t : State) : orFull p (true, t) = t := rfl

@[simp] theorem orFull_false (p : Presentation) (t : State) : orFull p (false, t) = refuse p .fetchFull t := rfl

/-- What a hit of a presentation leads to, by the generations (R8). -/
theorem present_hits {w : Nat} {e : CardEntry} (h : s.Hits p.card p.gen w e) :
    present p s = if p.gen < e.gen then refuse p .superseded (s.afterHit p.card w)
      else if p.gen = e.gen then handBack p e (s.afterHit p.card w)
      else orFull p (startFetch p (s.afterHit p.card w)) := by
  have gen := Nat.not_lt.2 h.generation
  by_cases newer : p.gen < e.gen
  · simp [present, askCard, gen, h.number, lookup_hits h, newer]
  · by_cases same : p.gen = e.gen
    · simp [present, askCard, same ▸ gen, h.number, lookup_hits h, same]
    · rcases hf : startFetch p (s.afterHit p.card w) with ⟨_ | _, t⟩ <;>
        simp [present, askCard, gen, h.number, lookup_hits h, newer, same, hf]

/-- The hit moves a pointer, and no block but CTB reads it. -/
theorem afterHit_eq (c w : Nat) : ∃ x, s.afterHit c w = s.withCards { s.cards with pointers := x } := by
  unfold State.afterHit
  split
  · exact ⟨_, rfl⟩
  · exact ⟨s.cards.pointers, rfl⟩

@[simp] theorem decisionFor_withCards (q : Presentation) (r : Result) (n : Option Nat) (x : Cards) :
    decisionFor q r n (s.withCards x) = decisionFor q r n s := by
  unfold decisionFor; cases q.job <;> rfl

@[simp] theorem decisionFor_afterHit (q : Presentation) (r : Result) (n : Option Nat) (c w : Nat) :
    decisionFor q r n (s.afterHit c w) = decisionFor q r n s := by
  obtain ⟨x, hx⟩ := afterHit_eq (s := s) c w
  rw [hx, decisionFor_withCards]

@[simp] theorem afterHit_taken (c w kind : Nat) (h : Hdr) : (s.taken kind h).afterHit c w = (s.afterHit c w).taken kind h := by
  by_cases x : s.pointer (setIndex c) = w <;> simp [State.afterHit, x]

end Looks

/-- The request of a presentation that no charge makes is a PRESENT. -/
theorem frame_present {tag portal card gen : Nat} {job : Job} (d : Decision) (h : ∀ a, job ≠ .charge a) :
    (⟨tag, portal, card, gen, job⟩ : Presentation).frame d = .reply ⟨Kind.present, tag⟩ (.decision d) 0 := by
  cases job with
  | charge a => exact absurd rfl (h a)
  | door | gangway | muster => rfl

theorem Portal.Routes.not_charge {p : Portal} {job : Job} (h : p.Routes job) (a : ChargeAmounts) : job ≠ .charge a := by
  rcases h with ⟨_, rfl⟩ | ⟨_, rfl⟩ | ⟨_, rfl⟩ <;> nofun

/-- The refusal of a charge ahead of the hand-back names the portal alone. -/
theorem refuse_charge (tag portal card gen : Nat) (a : ChargeAmounts) (r : Result) (s : State) :
    refuse ⟨tag, portal, card, gen, .charge a⟩ r s =
      s.transmits [.reply ⟨Kind.authorize, tag⟩ (.decision { outcome := r, portal := portal }) 0] := refuse_eq _ _ _

/-- AUTHORIZE meets the clock, the latch and the terminal before the lookup (R119, R120). -/
theorem authorize_eq (portal card gen : Nat) (a : ChargeAmounts) (id : ReqId) (s : State) :
    let p : Presentation := ⟨id.tag, portal, card, gen, .charge a⟩
    authorize portal card gen a id s =
      if s.clock.isSet = false then refuse p .clockUnset s
      else if s.emu.latch = true then refuse p .emergency s
      else if (s.portal portal).cls ≠ some .terminal ∨ (s.portal portal).disabled = true then refuse p .outOfService s
      else present p s := by
  have serves : ((s.portal portal).serves .terminal = false) =
      ((s.portal portal).cls ≠ some .terminal ∨ (s.portal portal).disabled = true) := by
    cases hd : (s.portal portal).disabled <;> simp [Portal.serves, hd]
  simp [authorize, serves]

section Reaches

variable {s : State} {h : Hdr} {portal card gen : Nat}

/-- A PRESENT that passes the checks ahead of the lookup (R48, R111). -/
theorem exec_present_looks {job : Job} (acc : s.Accepts h 6) (routes : (s.portal portal).Routes job)
    (clock : s.clock.isSet = true) (service : (s.portal portal).disabled = false)
    (muster : job ≠ .muster ∨ s.emu.record.active = true) :
    exec (.present h portal card gen) s = .next (present ⟨h.tag, portal, card, gen, job⟩ (s.taken Kind.present h)) := by
  rw [exec_present acc, presentAt_looks (s := s.taken Kind.present h) (jobOf_routes routes) clock service muster]

/-- An AUTHORIZE that does (R119, R120). -/
theorem exec_authorize_looks {a : ChargeAmounts} (acc : s.Accepts h 12) (clock : s.clock.isSet = true)
    (latch : s.emu.latch = false) (cls : (s.portal portal).cls = some .terminal) (service : (s.portal portal).disabled = false) :
    exec (.authorize h portal card gen a) s =
      .next (present ⟨h.tag, portal, card, gen, .charge a⟩ (s.taken Kind.authorize h)) := by
  simp [exec_authorize acc, authorize_eq, clock, latch, cls, service]

end Reaches

/-- Settles O16. -/
theorem presentationsRefusedAtOnce : Obligations.PresentationsRefusedAtOnce := by
  refine ⟨?_, ?_, ?_, ?_⟩
  · intro s h portal card gen a
    simp only [exec_present a]
    refine ⟨fun unrouted => ?_, fun job (routes : (s.portal portal).Routes job) => ?_⟩
    · have none := presentAt_none (s := s.taken Kind.present h) (card := card) (gen := gen) (id := ⟨Kind.present, h.tag⟩)
        (jobOf_none unrouted)
      refine ⟨fun clock => ?_, fun clock => ?_⟩ <;> simp [none, clock, reply_eq]
    · have route := presentAt_routed (s := s.taken Kind.present h) (card := card) (gen := gen) (id := ⟨Kind.present, h.tag⟩)
        (jobOf_routes routes)
      refine ⟨fun clock => ?_, fun clock out => ?_⟩ <;>
        simp_all [refuse_eq, frame_present _ routes.not_charge]
  · intro s h portal card gen a acc
    simp only [exec_authorize acc, authorize_eq, refuse_charge]
    refine ⟨fun clock => ?_, fun clock latch => ?_, fun clock latch out => ?_⟩
    · simp [clock]
    · simp [clock, latch]
    · simp [clock, latch, out]
  · intro s h portal card gen job acc clock p service (routes : (s.portal portal).Routes job) pr
    refine ⟨fun station idle => ?_, fun muster => ?_⟩
    · have route := presentAt_routed (s := s.taken Kind.present h) (card := card) (gen := gen) (id := ⟨Kind.present, h.tag⟩)
        (jobOf_routes routes)
      simp_all [exec_present acc, refuse_eq, p, pr]
    · simp only [exec_present_looks acc routes clock service muster]
      refine ⟨fun bad => ?_, fun w e hits newer => ?_⟩
      · rw [present_noRecord bad, refuse_eq, decisionFor_taken]
      · rw [present_hits (by exact hits.taken), if_pos newer, refuse_eq, decisionFor_afterHit, decisionFor_taken, afterHit_taken]
  · intro s h portal card gen a acc clock latch cls service
    simp only [exec_authorize_looks acc clock latch cls service]
    refine ⟨fun bad => ?_, fun w e hits newer => ?_⟩
    · rw [present_noRecord bad, refuse_charge]
    · rw [present_hits (by exact hits.taken), if_pos newer, refuse_charge, afterHit_taken]

end Sys2Proof.Machine

namespace Sys2Proof.Machine

open Sys2Proof

/-! ## What notices and reports touch (R187, R193, R202) -/

section Told

variable (s : State)

/-- `t` is `s` but for the link and the recorder. -/
def Tells (s t : State) : Prop := ∃ l r, t = (s.withLink l).withFrc r

theorem tells_report (k : FaultKind) (f : FaultFields) : Tells s (report k f s) := by
  by_cases alert : (s.frc.rowOf k).severity = .alert
  · by_cases room : s.NoticeRoom 1
    · exact ⟨_, _, (report_alert s k f alert room).trans rfl⟩
    · exact ⟨_, _, (report_alert_full s k f alert room).trans rfl⟩
  · exact ⟨s.link, _, (report_quiet s k f alert).trans rfl⟩

theorem tells_notify (n : Notice) : Tells s (notify n s) := by
  by_cases room : s.NoticeRoom 1
  · exact ⟨(s.transmits [.notice n]).link, s.frc, (notify_room s n room).trans rfl⟩
  · obtain ⟨l, r, h⟩ := tells_report (s.withLink { s.link with noticesLost := true }) .noticeLost {}
    exact ⟨l, r, (notify_full s n room).trans h⟩

theorem Tells.trans {s t u : State} (h : Tells s t) (k : Tells t u) : Tells s u := by
  obtain ⟨l, r, rfl⟩ := h
  obtain ⟨l', r', rfl⟩ := k
  exact ⟨l', r', rfl⟩

theorem Tells.decisionFor {s t : State} (h : Tells s t) (p : Presentation) (r : Result) (n : Option Nat) :
    decisionFor p r n t = decisionFor p r n s := by
  obtain ⟨l, x, rfl⟩ := h
  unfold Machine.decisionFor; cases p.job <;> rfl

end Told

/-! ## The checks of a door presentation (R38, R49 to R51) -/

section Door

variable {s : State} {e : CardEntry} {cls : PortalClass}

theorem Portal.isDoor_of_cls {p : Portal} (hc : p.cls = some cls) (hd : cls.isDoor = true) : p.isDoor = true := by
  simp [Portal.isDoor, hc, hd]

/-- The model's grant check is the statement's. -/
theorem grantMatches_iff {p : Portal} (hc : p.cls = some cls) (hd : cls.isDoor = true) :
    grantMatches e p = true ↔ e.Grants cls p := by
  cases cls with
  | cabin => simp [grantMatches, hc, CardEntry.Grants]
  | crewDoor => simp [grantMatches, hc, CardEntry.Grants]
  | venueDoor => simp [grantMatches, hc, CardEntry.Grants, or_comm]
  | gangway | muster | terminal => nomatch hd

/-- The act of a door presentation whose checks have passed: the door step, a PRESENCE-CONFLICT where a person who is not
ABOARD is admitted, and the reply (R51 to R53). -/
def admitAt (p : Presentation) (e : CardEntry) (s : State) : State :=
  let (outcome, release, t) := doorStep p.portal s
  let told := if outcome = .admitted ∧ (s.person e.person).state ≠ .aboard then
      report .presenceConflict { portal := some p.portal, card := some p.card, person := some e.person }
        (notify (.presenceConflict p.portal p.card e.person (s.person e.person).state) t)
    else t
  decide' p { decisionFor p outcome (some e.person) told with release := release } told

/-- The checks of a door presentation at a door in service, one after another. -/
theorem decideDoor_eq {p : Presentation} (hc : (s.portal p.portal).cls = some cls) (hd : cls.isDoor = true)
    (service : (s.portal p.portal).disabled = false) [Decidable (e.Grants cls (s.portal p.portal))] :
    decideDoor p e s =
      if e.revoked = true then refuseFor p e .revoked s
      else if s.clock.shipTime < e.validFrom then refuseFor p e .notYetValid s
      else if e.validUntil < s.clock.shipTime then refuseFor p e .expired s
      else if ¬ e.Grants cls (s.portal p.portal) then refuseFor p e .noGrant s
      else if (s.person e.person).state ≠ .aboard ∧ (s.portal p.portal).strict = true then refuseFor p e .notAboard s
      else admitAt p e s := by
  have grants : grantMatches e (s.portal p.portal) = decide (e.Grants cls (s.portal p.portal)) :=
    Bool.eq_iff_iff.2 ((grantMatches_iff hc hd).trans decide_eq_true_iff.symm)
  unfold decideDoor
  by_cases early : s.clock.shipTime < e.validFrom
  · simp [windowRefusal, early]
  · by_cases late : e.validUntil < s.clock.shipTime
    · simp [windowRefusal, early, late]
    · simp [windowRefusal, early, late, service, Portal.isDoor_of_cls hc hd, grants, admitAt]

/-- The first check that turns the card away names the refusal. -/
theorem decideDoor_refuses {p : Presentation} {r : Result} (hc : (s.portal p.portal).cls = some cls) (hd : cls.isDoor = true)
    (service : (s.portal p.portal).disabled = false) (first : FirstOf (doorChecks s cls (s.portal p.portal) e) r) :
    decideDoor p e s = refuseFor p e r s := by
  classical
  rw [decideDoor_eq hc hd service]
  simp only [doorChecks, FirstOf] at first
  rcases first with ⟨c, rfl⟩ | ⟨c1, ⟨c, rfl⟩ | ⟨c2, ⟨c, rfl⟩ | ⟨c3, ⟨c, rfl⟩ | ⟨c4, ⟨c, rfl⟩ | ⟨_, none⟩⟩⟩⟩⟩
  · rw [if_pos c]
  · rw [if_neg c1, if_pos c]
  · rw [if_neg c1, if_neg c2, if_pos c]
  · rw [if_neg c1, if_neg c2, if_neg c3, if_pos c]
  · rw [if_neg c1, if_neg c2, if_neg c3, if_neg c4, if_pos c]
  · exact none.elim

/-- Where none does, the door acts. -/
theorem decideDoor_acts {p : Presentation} (hc : (s.portal p.portal).cls = some cls) (hd : cls.isDoor = true)
    (service : (s.portal p.portal).disabled = false) (none : NoneOf (doorChecks s cls (s.portal p.portal) e)) :
    decideDoor p e s = admitAt p e s := by
  classical
  rw [decideDoor_eq hc hd service]
  simp only [NoneOf, doorChecks, List.mem_cons, List.not_mem_nil, or_false, forall_eq_or_imp, forall_eq] at none
  obtain ⟨c1, c2, c3, c4, c5⟩ := none
  rw [if_neg c1, if_neg c2, if_neg c3, if_neg c4, if_neg c5]

/-! ## The door step (R52) -/

/-- What the door step makes of a door in each state: the outcome, the release, and the portal after it. -/
def DoorActs (s : State) (p : Portal) (q : Portal) (r : Result) (release : Nat) : Prop :=
  (p.state = .secure ∧ r = .admitted ∧ release = (s.timing p.timingSet).release ∧ q = { p with
    state := .released, captured := s.timing p.timingSet,
    releaseTimer := some ⟨s.now, 1000 * (s.timing p.timingSet).release⟩, strikePending := p.strikeRequired,
    strikeTimer := if p.strikeRequired then some ⟨s.now, (s.timing p.timingSet).strike⟩ else none }) ∨
  (p.state = .released ∧ r = .admitted ∧ release = p.captured.release ∧
    q = { p with releaseTimer := some ⟨s.now, 1000 * p.captured.release⟩ }) ∨
  ((p.state = .opened ∨ p.state = .heldOpen ∨ p.state = .forced) ∧ r = .admitted ∧ release = p.captured.release ∧ q = p) ∨
  (p.state = .emergency ∧ r = (if p.preset = .release then .admitted else .emergency) ∧ release = 0 ∧ q = p)

theorem setPortal_self (n : Nat) (canonical : Table.wf defaultPortal s.ptu.portals = true) : s.setPortal n (s.portal n) = s := by
  simp [State.setPortal, State.portal, State.withPtu, Table.write_read n canonical]

theorem doorStep_secure {n : Nat} (hd : (s.portal n).isDoor = true) (hs : (s.portal n).state = .secure) :
    let p := s.portal n
    let t := s.timing p.timingSet
    doorStep n s = (.admitted, t.release, s.setPortal n { p with
      state := .released, captured := t, releaseTimer := some ⟨s.now, 1000 * t.release⟩, strikePending := p.strikeRequired,
      strikeTimer := if p.strikeRequired then some ⟨s.now, t.strike⟩ else none }) := by
  simp [doorStep, hs, releaseSecure, Portal.leaving, hd, Timing.releaseMs]

theorem doorStep_acts {n : Nat} {q : Portal} {r : Result} {release : Nat} (hd : (s.portal n).isDoor = true)
    (canonical : Table.wf defaultPortal s.ptu.portals = true) (acts : DoorActs s (s.portal n) q r release) :
    doorStep n s = (r, release, s.setPortal n q) := by
  rcases acts with ⟨hs, rfl, rfl, rfl⟩ | ⟨hs, rfl, rfl, rfl⟩ | ⟨hs, rfl, rfl, rfl⟩ | ⟨hs, rfl, rfl, rfl⟩
  · exact doorStep_secure hd hs
  · simp [doorStep, hs, Timing.releaseMs]
  · rcases hs with hs | hs | hs <;> simp [doorStep, hs, setPortal_self n canonical]
  · simp [doorStep, hs, setPortal_self n canonical]

/-- The reply of a door that has acted, its state as it stands after (R53, R210). -/
theorem admitAt_eq {p : Presentation} {q : Portal} {r : Result} {release : Nat} (job : p.job = .door)
    (step : doorStep p.portal s = (r, release, s.setPortal p.portal q)) :
    let told := if r = .admitted ∧ (s.person e.person).state ≠ .aboard then
        report .presenceConflict { portal := some p.portal, card := some p.card, person := some e.person }
          (notify (.presenceConflict p.portal p.card e.person (s.person e.person).state) (s.setPortal p.portal q))
      else s.setPortal p.portal q
    admitAt p e s = told.transmits [.reply ⟨Kind.present, p.tag⟩ (.decision
      { outcome := r, portal := p.portal, portalState := enumCode portalStates q.state, person := some e.person,
        release := release }) 0] := by
  intro told
  have frame (d : Decision) : p.frame d = .reply ⟨Kind.present, p.tag⟩ (.decision d) 0 := by
    simp [Presentation.frame, Presentation.id, job]
  have decision : decisionFor p r (some e.person) told = decisionFor p r (some e.person) (s.setPortal p.portal q) := by
    simp only [told]
    split
    · exact ((tells_notify _ _).trans (tells_report _ _ _)).decisionFor p r _
    · rfl
  have acts : admitAt p e s = decide' p { decisionFor p r (some e.person) told with release := release } told := by
    simp only [admitAt, step, told]
  rw [acts, decision, decide'_eq, frame]
  simp [decisionFor, job]

end Door

/-- A hit leaves what the door's checks read. -/
theorem doorChecks_afterHit_taken (s : State) (c w kind : Nat) (h : Hdr) (cls : PortalClass) (p : Portal) (e : CardEntry) :
    doorChecks ((s.afterHit c w).taken kind h) cls p e = doorChecks s cls p e := by
  obtain ⟨x, hx⟩ := afterHit_eq (s := s) c w
  rw [hx]; rfl

section Admits

variable {s : State} {h : Hdr} {portal card gen w : Nat} {e : CardEntry} {cls : PortalClass}

@[simp] theorem afterHit_portal (n : Nat) : (s.afterHit card w).portal n = s.portal n := by
  obtain ⟨x, hx⟩ := afterHit_eq (s := s) card w
  rw [hx]; rfl

@[simp] theorem afterHit_person (n : Nat) : (s.afterHit card w).person n = s.person n := by
  obtain ⟨x, hx⟩ := afterHit_eq (s := s) card w
  rw [hx]; rfl

@[simp] theorem afterHit_timing (n : Nat) : (s.afterHit card w).timing n = s.timing n := by
  obtain ⟨x, hx⟩ := afterHit_eq (s := s) card w
  rw [hx]; rfl

@[simp] theorem afterHit_now : (s.afterHit card w).now = s.now := by
  obtain ⟨x, hx⟩ := afterHit_eq (s := s) card w
  rw [hx]; rfl

@[simp] theorem afterHit_ptu : (s.afterHit card w).ptu = s.ptu := by
  obtain ⟨x, hx⟩ := afterHit_eq (s := s) card w
  rw [hx]; rfl

/-- A card that hits at its generation comes to the checks of the door. -/
theorem exec_present_door (acc : s.Accepts h 6) (clock : s.clock.isSet = true) (hc : (s.portal portal).cls = some cls)
    (hd : cls.isDoor = true) (service : (s.portal portal).disabled = false) (hits : s.Hits card gen w e) (same : e.gen = gen) :
    exec (.present h portal card gen) s =
      .next (decideDoor ⟨h.tag, portal, card, gen, .door⟩ e ((s.afterHit card w).taken Kind.present h)) := by
  rw [exec_present_looks acc (.inl ⟨Portal.isDoor_of_cls hc hd, rfl⟩) clock service (.inl nofun),
    present_hits (by exact hits.taken), if_neg (by simp [same]), if_pos same.symm, afterHit_taken]
  rfl

end Admits

/-- Settles O17. -/
theorem doorAdmits : Obligations.DoorAdmits := by
  refine ⟨?_, ?_⟩
  · intro s h portal card gen w e cls acc p clock hc hd service secure hgen hcard holds fresh code same live from_ until_ grants
      aboard t set hit
    have hits : s.Hits card gen w e := ⟨hcard, hgen, holds, fresh, code⟩
    have passes : NoneOf (doorChecks s cls p e) := by
      simp only [NoneOf, doorChecks, List.mem_cons, List.not_mem_nil, or_false, forall_eq_or_imp, forall_eq]
      exact ⟨by simp [live], by omega, by omega, not_not.2 grants, by simp [aboard]⟩
    have door : ((s.afterHit card w).taken Kind.present h).portal portal = p := afterHit_portal portal
    have step := doorStep_secure (s := (s.afterHit card w).taken Kind.present h) (n := portal)
      (by rw [door]; exact Portal.isDoor_of_cls hc hd) (by rw [door]; exact secure)
    simp only [door] at step
    rw [exec_present_door acc clock hc hd service hits same,
      decideDoor_acts (cls := cls) (by rw [door]; exact hc) hd (by rw [door]; exact service)
        (by rw [doorChecks_afterHit_taken, door]; exact passes), admitAt_eq rfl step]
    simp [aboard, t, p]
    rfl
  · intro s h portal card gen w e cls acc canonical p person hit pr clock hc hd service hits same
    have door : ((s.afterHit card w).taken Kind.present h).portal portal = p := afterHit_portal portal
    simp only [exec_present_door acc clock hc hd service hits same]
    refine ⟨fun r first => ?_, fun q r release passes acts => ?_⟩
    · rw [decideDoor_refuses (cls := cls) (by rw [door]; exact hc) hd (by rw [door]; exact service)
        (by rw [doorChecks_afterHit_taken, door]; exact first), refuseFor, decide'_eq, decisionFor_taken, decisionFor_afterHit]
    · have acts : DoorActs ((s.afterHit card w).taken Kind.present h) p q r release := by
        simpa only [DoorActs, State.taken_timing, afterHit_timing, State.taken_now, afterHit_now] using acts
      have step := doorStep_acts (s := (s.afterHit card w).taken Kind.present h) (n := portal)
        (by rw [door]; exact Portal.isDoor_of_cls hc hd) (by simpa using canonical.portals) (by rw [door]; exact acts)
      rw [decideDoor_acts (cls := cls) (by rw [door]; exact hc) hd (by rw [door]; exact service)
        (by rw [doorChecks_afterHit_taken, door]; exact passes), admitAt_eq rfl step]
      simp only [State.taken_setPortal, State.taken_person, afterHit_person]
      rfl

end Sys2Proof.Machine

namespace Sys2Proof.Machine

open Sys2Proof

/-! ## A presentation that waits on a fetch (R7, R8, R22) -/

section Waits

variable {s u : State} {h : Hdr} {kind : Nat} {p : Presentation} {c : Instr}

/-- A request that `Presents` names comes to the card lookup. -/
theorem exec_presents (x : s.Presents h c p) : exec c s = .next (present p (s.taken p.id.kind h)) := by
  obtain ⟨tag, portal, card, gen, job⟩ := p
  obtain ⟨rfl, clock, service, _, _, x⟩ := x
  rcases x with ⟨acc, rfl, routes⟩ | ⟨a, acc, rfl, cls, latch, rfl⟩
  · have routed : (s.portal portal).Routes job := by
      rcases routes with r | r | ⟨r, _, j⟩
      · exact .inl r
      · exact .inr (.inl r)
      · exact .inr (.inr ⟨r, j⟩)
    have muster : job ≠ .muster ∨ s.emu.record.active = true := by
      rcases routes with ⟨_, rfl⟩ | ⟨_, rfl⟩ | ⟨_, active, _⟩
      · exact .inl nofun
      · exact .inl nofun
      · exact .inr active
    have kind : (⟨h.tag, portal, card, gen, job⟩ : Presentation).id.kind = Kind.present := by
      rcases routed with ⟨_, rfl⟩ | ⟨_, rfl⟩ | ⟨_, rfl⟩ <;> rfl
    rw [kind]
    exact exec_present_looks acc routed clock service muster
  · exact exec_authorize_looks acc clock latch cls service

/-- A lookup that hands back no entry leaves the part as it was, or with a pointer moved. -/
theorem State.Misses.eq {card gen : Nat} (m : s.Misses card gen u) :
    ∃ x, u = s.withCards { s.cards with pointers := x } := by
  rcases m with ⟨_, rfl⟩ | ⟨_, _, _, _, rfl⟩ | ⟨w, _, _, _, rfl⟩
  · exact ⟨_, rfl⟩
  · exact ⟨_, rfl⟩
  · exact afterHit_eq card w

theorem State.Misses.taken {card gen : Nat} (m : s.Misses card gen u) :
    (s.taken kind h).Misses card gen (u.taken kind h) := by
  rcases m with ⟨x, rfl⟩ | ⟨w, e, x, hs, rfl⟩ | ⟨w, e, x, hg, rfl⟩
  · exact .inl ⟨x, rfl⟩
  · exact .inr (.inl ⟨w, e, x.taken, hs, rfl⟩)
  · exact .inr (.inr ⟨w, e, x.taken, hg, (afterHit_taken card w kind h).symm⟩)

/-- A suspect entry is a miss (R4). -/
theorem lookup_suspect {card w : Nat} {e : CardEntry} (x : s.Holds card w e) (hs : e.suspect = true) :
    lookup card s = (none, s) := by
  simp [lookup, findWay_holds x, verify_sound x.entry (.inl hs), x.entry, hs]

/-- A presentation whose lookup hands back no entry joins or starts a fetch, or finds no room (R7). -/
theorem present_misses (hc : p.card ≠ 0) (hg : p.gen ≤ 15) (m : s.Misses p.card p.gen u) :
    present p s = orFull p (startFetch p u) := by
  have miss (none : lookup p.card s = (none, s)) : present p s = orFull p (startFetch p s) := by
    rcases hf : startFetch p s with ⟨_ | _, t⟩ <;> simp [present, askCard, hc, Nat.not_lt.2 hg, none, hf]
  rcases m with ⟨x, rfl⟩ | ⟨w, e, x, hs, rfl⟩ | ⟨w, e, x, old, rfl⟩
  · exact miss (lookup_miss x)
  · exact miss (lookup_suspect x hs)
  · rw [present_hits x, if_neg (by omega), if_neg (by omega)]

theorem freeFetch_eq {n : Nat} (hn : n < 16) (free : s.fetch n = none) (lowest : ∀ m < n, s.fetch m ≠ none) :
    freeFetch s = some n := by
  unfold freeFetch
  rw [List.find?_range_eq_some]
  exact ⟨by simp [free], List.mem_range.2 hn, fun m hm => by simpa [Option.ne_none_iff_isSome] using lowest m hm⟩

theorem freeFetch_none (full : ∀ n < 16, s.fetch n ≠ none) : freeFetch s = none := by
  unfold freeFetch
  rw [List.find?_eq_none]
  intro n hn
  simpa [Option.ne_none_iff_isSome] using full n (List.mem_range.1 hn)

theorem startFetch_starts {n : Nat} (no : s.NoFetch p.card) (hn : n < 16) (free : s.fetch n = none)
    (lowest : ∀ m < n, s.fetch m ≠ none) :
    startFetch p s = (true, notify (.cardWanted n p.card p.gen)
      (s.setFetch n (some ⟨p.card, p.gen, false, [p], s.now + s.cards.fetchWait⟩))) := by
  simp [startFetch, fetchOf_none no, freeFetch_eq hn free lowest]

theorem startFetch_full (no : s.NoFetch p.card) (full : ∀ n < 16, s.fetch n ≠ none) : startFetch p s = (false, s) := by
  simp [startFetch, fetchOf_none no, freeFetch_none full]

theorem startFetch_joins {n : Nat} {f : Fetch} (x : s.Fetches p.card n f) :
    startFetch p s = if f.waiting.length < 4 then (true, s.setFetch n (some { f with waiting := f.waiting ++ [p] }))
      else (false, s) := by
  simp [startFetch, fetchOf_fetches x]

end Waits

/-- A presentation that finds no entry of its card starts a fetch, joins one, or is refused FETCH-FULL (R22, R48, R111, R120). -/
theorem fetchStarts (s u : State) (h : Hdr) (c : Instr) (p : Presentation) (x : s.Presents h c p)
    (m : s.Misses p.card p.gen u) :
    let waits (n : Nat) (f : Fetch) : State := (u.setFetch n (some f)).taken p.id.kind h
    let full := (u.taken p.id.kind h).transmits [p.frame (decisionFor p .fetchFull none s)]
    (∀ n < 16, s.NoFetch p.card → s.fetch n = none → (∀ m < n, s.fetch m ≠ none) →
      exec c s = .next (notify (.cardWanted n p.card p.gen) (waits n ⟨p.card, p.gen, false, [p], s.now + s.cards.fetchWait⟩))) ∧
    (s.NoFetch p.card → (∀ n < 16, s.fetch n ≠ none) → exec c s = .next full) ∧
    (∀ n f, s.Fetches p.card n f → f.waiting.length < 4 →
      exec c s = .next (waits n { f with waiting := f.waiting ++ [p] })) ∧
    (∀ n f, s.Fetches p.card n f → 4 ≤ f.waiting.length → exec c s = .next full) := by
  intro waits full
  have reached := present_misses (p := p) x.2.2.2.2.1 x.2.2.2.1 (m.taken (h := h) (kind := p.id.kind))
  have refused : refuse p .fetchFull (u.taken p.id.kind h) = full := by
    obtain ⟨y, rfl⟩ := m.eq
    rw [refuse_eq, decisionFor_taken, decisionFor_withCards]
  have fetches {n : Nat} {f : Fetch} (y : s.Fetches p.card n f) : (u.taken p.id.kind h).Fetches p.card n f := by
    obtain ⟨z, rfl⟩ := m.eq
    exact ⟨y.number, y.fetch, y.card, y.only⟩
  rw [exec_presents x, reached]
  refine ⟨fun n hn no free lowest => ?_, fun no all => ?_, fun n f y room => ?_, fun n f y none => ?_⟩
  · obtain ⟨y, rfl⟩ := m.eq
    rw [startFetch_starts (s := (s.withCards { s.cards with pointers := y }).taken p.id.kind h) no hn free lowest]
    simp [waits]
  · obtain ⟨y, hy⟩ := m.eq
    rw [startFetch_full (s := u.taken p.id.kind h) (by rw [hy]; exact no) (by rw [hy]; exact all)]
    exact congrArg _ refused
  · rw [startFetch_joins (fetches y), if_pos room]
    simp [waits]
  · rw [startFetch_joins (fetches y), if_neg (by omega)]
    exact congrArg _ refused

/-- A fetch's expiry refuses what waits on it; a fetch that has ended has none (R26). -/
theorem fetchExpires (s : State) (n : Nat) (supply : s.supply = true) :
    (∀ f, s.fetch n = some f → f.waiting ≠ [] →
      exec (.fetchExpiry n) s =
        .next (((report .fetchTimeout { card := some f.card } (s.withNow (max s.now f.expiry))).setFetch n none).transmits
          (f.waiting.map fun p => p.frame (decisionFor p (if f.revoked then .revoked else .offline) none s)))) ∧
    (s.fetch n = none → exec (.fetchExpiry n) s = .next s) := by
  have run : exec (.fetchExpiry n) s = .next (fetchExpiry n s) := by
    simp [exec, execFetchExpiry, powered, supply]
  rw [run]
  refine ⟨fun f hf waits => ?_, fun none => ?_⟩
  · have decision (p : Presentation) (r : Result) :
        decisionFor p r none (report .fetchTimeout { card := some f.card } (s.withNow (max s.now f.expiry))) =
          decisionFor p r none s := by
      rw [(tells_report _ _ _).decisionFor]
      unfold decisionFor; cases p.job <;> rfl
    simp [fetchExpiry, hf, refuseFetch_eq, waits, decision, reachTime]
  · simp [fetchExpiry, none]

/-! ## A load that answers a fetch (R23, R24) -/

section Answers

variable {s u : State}

/-- An allocation in the words of the statements is the model's (R12 to R14, R18). -/
theorem install_of_installs {fresh : CardEntry} {w : Nat} (canonical : Table.wf none s.cards.entries = true)
    (x : s.Installs u fresh w) : install fresh s = (some w, u) := by
  rcases x with ⟨hw, ⟨on, empty⟩, lowest, rfl⟩ | ⟨full, _, k, hk, old, rfl, goes, stay, entry, rfl⟩
  · exact install_free (chooseWay_free hw on empty fun v hv e1 e2 => lowest v hv ⟨e1, e2⟩) empty
  · have choice := chooseWay_evict (fun v hv e1 e2 => full v hv ⟨e1, e2⟩) hk goes stay
    have cards : (if old.tallies s.clock.day then notify old.tally s else s).cards = s.cards := by
      split
      · obtain ⟨l, r, hn⟩ := tells_notify s old.tally
        rw [hn]; rfl
      · rfl
    have twice := State.setEntry_setEntry (if old.tallies s.clock.day then notify old.tally s else s) (setIndex fresh.card)
      ((s.pointer (setIndex fresh.card) + k) % 4) none (some fresh) (by rw [cards]; exact canonical)
    simp only [install, choice, leaveTable_some entry, twice]
    simp [CardEntry.tallies, CardEntry.tally]

/-- An allocation finds no way where every enabled way's entry must stay. -/
theorem install_stays {fresh : CardEntry} (stay : ∀ v < 4, (s.way v).enabled = true →
      ∃ e, s.entry (setIndex fresh.card) v = some e ∧ (e.resident = true ∨ 0 < e.holdCount)) :
    install fresh s = (none, s) := by
  refine install_none (chooseWay_none (fun v hv on => ?_) fun v hv => ?_)
  · obtain ⟨e, he, _⟩ := stay v hv on
    simp [he]
  · rintro ⟨on, e, he, free, zero⟩
    obtain ⟨x, hx, held⟩ := stay v hv on
    rw [he] at hx
    cases hx
    simp [free, zero] at held

section AnswerFetch

variable {id : ReqId} {n : Nat} {f : Fetch} {fresh : CardEntry}

/-- The record an answered fetch brings: revoked if the fetch is (R23). -/
def Fetch.marks (f : Fetch) (fresh : CardEntry) : CardEntry := { fresh with revoked := fresh.revoked || f.revoked }

theorem answerFetch_updated {w : Nat} (place : placeRecord (f.marks fresh) s = (.updated w, u)) :
    answerFetch id n f fresh s =
      answer id .updated [] (f.waiting.foldl (resumeAt fresh.card w (f.marks fresh)) (u.setFetch n none)) := by
  unfold Fetch.marks at place
  simp only [answerFetch, place]; rfl

theorem answerFetch_installed {w : Nat} (place : placeRecord (f.marks fresh) s = (.installed w, u)) :
    answerFetch id n f fresh s =
      answer id .installed [] (f.waiting.foldl (resumeAt fresh.card w (f.marks fresh)) (u.setFetch n none)) := by
  unfold Fetch.marks at place
  simp only [answerFetch, place]; rfl

theorem answerFetch_passed (place : placeRecord (f.marks fresh) s = (.failed, u)) :
    answerFetch id n f fresh s = answer id .passed [] (f.waiting.foldl (resumePassed (f.marks fresh)) (u.setFetch n none)) := by
  unfold Fetch.marks at place
  simp only [answerFetch, place]; rfl

end AnswerFetch

end Answers

/-- Settles O3. -/
theorem fetchesStartAndExpire : Obligations.FetchesStartAndExpire := by
  refine ⟨fetchStarts, fetchExpires, ?_⟩
  intro s h r cls grants n f acc good fetches canonical set today fresh resume resumed asked answers
  have run : exec (.cardLoad h r) s =
      .next (answerFetch ⟨Kind.cardLoad, h.tag⟩ n f (entryOf r cls grants s.clock.day) asked) := by
    rw [exec_cardLoad acc, cardLoad_fetch good fetches.taken]; rfl
  have marked : f.marks (entryOf r cls grants s.clock.day) = fresh := rfl
  simp only [answers, run]
  refine ⟨fun w e holds sound => ?_, fun lacks sound => ⟨fun w u ins => ?_, fun stay => ?_⟩⟩
  · have place := placeRecord_holds (fresh := fresh) (s := asked) holds.taken sound
    rw [writeEntry_some _ (by exact holds.entry)] at place
    have merged := merge_refresh_recordEntry e r cls grants s.clock.day (r.revoked || f.revoked)
    rw [answerFetch_updated (marked.symm ▸ place), answer_replied]
    exact congrArg (fun x => Host.Outcome.next ((resumed w (asked.setEntry set w (some x))).replied Kind.cardLoad h .updated []))
      merged
  · have place : placeRecord fresh asked = (.installed w, u) := by
      rw [placeRecord_lacks (s := asked) (fresh := fresh) lacks.taken sound, install_of_installs (s := asked) canonical.entries ins]
    rw [answerFetch_installed (marked.symm ▸ place), answer_replied]
    rfl
  · have place : placeRecord fresh asked = (.failed, asked) := by
      rw [placeRecord_lacks (s := asked) (fresh := fresh) lacks.taken sound, install_stays (s := asked) (fresh := fresh) stay]
    rw [answerFetch_passed (marked.symm ▸ place), answer_replied]
    refine congrArg (fun g => Host.Outcome.next ((f.waiting.foldl g (asked.setFetch n none)).replied Kind.cardLoad h .passed []))
      (funext₂ fun u p => ?_)
    unfold resumePassed
    cases p.job <;> rfl

end Sys2Proof.Machine

namespace Sys2Proof.Machine

open Sys2Proof

/-! ## A pass over the table (R9, R11, R19)

FLUSH and a retirement go through the listed entries and let some of them leave. In a table whose entries pass their checks that is
the listing without those entries, and their DAY-TALLYs in the order of the listing. -/

section Listing

variable {s : State}

/-- A listed record of a canonical table is what its number reads. -/
theorem read_append {α : Type} [DecidableEq α] {d v : α} {k : Nat} {kept rest : Table α}
    (wf : Table.wf d (kept ++ (k, v) :: rest) = true) : Table.read d (kept ++ (k, v) :: rest) k = v := by
  induction kept with
  | nil => simp [Table.read_cons]
  | cons p kept ih =>
    obtain ⟨listed, sorted⟩ := (Table.wf_iff d _).1 wf
    rw [List.cons_append, List.pairwise_cons] at sorted
    have before : p.1 < k := sorted.1 (k, v) (by simp)
    have tail : Table.wf d (kept ++ (k, v) :: rest) = true :=
      (Table.wf_iff d _).2 ⟨fun q hq => listed q (List.mem_cons_of_mem _ hq), sorted.2⟩
    rw [List.cons_append, Table.read_cons, if_neg (by omega), ih tail]

/-- Taking it out leaves the others in their order. -/
theorem drop_append {α : Type} [DecidableEq α] {d v : α} {k : Nat} {kept rest : Table α}
    (wf : Table.wf d (kept ++ (k, v) :: rest) = true) : Table.drop k (kept ++ (k, v) :: rest) = kept ++ rest := by
  obtain ⟨_, sorted⟩ := (Table.wf_iff d _).1 wf
  obtain ⟨_, second, cross⟩ := List.pairwise_append.1 sorted
  have keptAll : kept.filter (fun p => p.1 != k) = kept := List.filter_eq_self.2 fun p hp => by
    have := cross p hp (k, v) (by simp)
    simp; omega
  have restAll : rest.filter (fun p => p.1 != k) = rest := List.filter_eq_self.2 fun p hp => by
    have := (List.pairwise_cons.1 second).1 p hp
    simp at this ⊢; omega
  simp [Table.drop, keptAll, restAll]

/-- The entry at a numbered place leaves the table if it is one of those that do. -/
def leaveIf (leaves : Nat → CardEntry → Bool) (s : State) (n : Nat) : State :=
  match s.entry (n / 4) (n % 4) with
  | some e => if leaves n e then leaveTable (n / 4) (n % 4) s else s
  | none => s

theorem entry_place (n : Nat) : s.entry (n / 4) (n % 4) = Table.read none s.cards.entries n := by
  unfold State.entry
  rw [Nat.div_add_mod]

theorem setEntry_place_none (n : Nat) :
    s.setEntry (n / 4) (n % 4) none = s.withCards { s.cards with entries := Table.drop n s.cards.entries } := by
  unfold State.setEntry Table.write
  rw [Nat.div_add_mod, if_pos rfl]

/-- The DAY-TALLYs of some listed entries, those of `tallyFrames` in their order. -/
def talliesOf (leaves : Nat → CardEntry → Bool) (day : Nat) (entries : Table (Option CardEntry)) : List Frame :=
  entries.filterMap fun p => p.2.bind fun e => if leaves p.1 e && e.tallies day then some (.notice e.tally) else none

theorem tallyFrames_eq (leaves : Nat → CardEntry → Bool) :
    tallyFrames leaves s = talliesOf leaves s.clock.day s.cards.entries := rfl

/-- The listing without the entries that leave. -/
def staying (leaves : Nat → CardEntry → Bool) (entries : Table (Option CardEntry)) : Table (Option CardEntry) :=
  entries.filter fun p => !p.2.any (leaves p.1)

theorem without_eq (leaves : Nat → CardEntry → Bool) :
    s.without leaves = s.withCards { s.cards with entries := staying leaves s.cards.entries } := rfl

/-- The pass from a place on: what stood before stays, of the rest those stay that do not leave, and the frames that follow the
pass follow its DAY-TALLYs. -/
theorem foldl_leaveIf (leaves : Nat → CardEntry → Bool) (fs : List Frame) (kept rest : Table (Option CardEntry)) (s : State)
    (listed : s.cards.entries = kept ++ rest) (wf : Table.wf none s.cards.entries = true)
    (room : s.NoticeRoom (talliesOf leaves s.clock.day rest).length) :
    ((rest.map (·.1)).foldl (leaveIf leaves) s).transmits fs =
      (s.withCards { s.cards with entries := kept ++ staying leaves rest }).transmits
        (talliesOf leaves s.clock.day rest ++ fs) := by
  induction rest generalizing kept s fs with
  | nil =>
    have : s.withCards { s.cards with entries := kept ++ [] } = s := by rw [← listed]; rfl
    simp only [List.append_nil] at this
    simp [staying, talliesOf, this]
  | cons p rest ih =>
    obtain ⟨n, v⟩ := p
    rw [listed] at wf
    have here : s.entry (n / 4) (n % 4) = v := by rw [entry_place, listed, read_append wf]
    have dropped : s.setEntry (n / 4) (n % 4) none = s.withCards { s.cards with entries := kept ++ rest } := by
      rw [setEntry_place_none, listed, drop_append wf]
    have shorter : Table.wf none (kept ++ rest) = true := by rw [← drop_append wf]; exact Table.wf_drop n wf
    cases v with
    | none => exact absurd rfl (((Table.wf_iff none _).1 wf).1 (n, none) (by simp))
    | some e =>
      rw [List.map_cons, List.foldl_cons]
      cases hl : leaves n e with
      | false =>
        have step : leaveIf leaves s n = s := by simp [leaveIf, here, hl]
        have tallies : talliesOf leaves s.clock.day ((n, some e) :: rest) = talliesOf leaves s.clock.day rest := by
          simp [talliesOf, hl]
        rw [tallies] at room ⊢
        rw [step, ih fs (kept ++ [(n, some e)]) s (by simp [listed]) (by rw [listed]; exact wf) room]
        simp [staying, hl]
      | true =>
        have stays : staying leaves ((n, some e) :: rest) = staying leaves rest := by simp [staying, hl]
        have step : leaveIf leaves s n = leaveTable (n / 4) (n % 4) s := by simp [leaveIf, here, hl]
        rw [stays, step]
        cases ht : e.tallies s.clock.day with
        | false =>
          have tallies : talliesOf leaves s.clock.day ((n, some e) :: rest) = talliesOf leaves s.clock.day rest := by
            simp [talliesOf, ht]
          rw [tallies] at room ⊢
          rw [leaveTable_some here, ht, if_neg (by simp), dropped,
            ih fs kept (s.withCards { s.cards with entries := kept ++ rest }) rfl shorter room]
          rfl
        | true =>
          have tallies : talliesOf leaves s.clock.day ((n, some e) :: rest) =
              .notice e.tally :: talliesOf leaves s.clock.day rest := by
            simp [talliesOf, hl, ht]
          rw [tallies] at room ⊢
          have room1 : s.NoticeRoom 1 := by
            unfold State.NoticeRoom at room ⊢; simp only [List.length_cons] at room; omega
          rw [leaveTable_room here room1, ht, if_pos rfl, dropped,
            ih fs kept ((s.withCards { s.cards with entries := kept ++ rest }).transmits [.notice e.tally]) rfl shorter]
          · simp
          · unfold State.NoticeRoom at room ⊢
            simp only [List.length_cons] at room
            simp; omega

/-- Every listed entry passes its check after a pass as before it: none is new. -/
theorem tableSound_leaveIf {leaves : Nat → CardEntry → Bool} {n : Nat} (ok : s.TableSound) : (leaveIf leaves s n).TableSound := by
  unfold leaveIf
  cases he : s.entry (n / 4) (n % 4) with
  | none => exact ok
  | some e =>
    simp only
    split
    · intro set way x hw hx
      obtain ⟨t, ht, cards⟩ : ∃ t : State, leaveTable (n / 4) (n % 4) s = t.setEntry (n / 4) (n % 4) none ∧ t.cards = s.cards := by
        refine ⟨_, leaveTable_some he, ?_⟩
        split
        · obtain ⟨l, r, hn⟩ := tells_notify s e.tally
          rw [hn]; rfl
        · rfl
      rw [ht, State.setEntry_entry _ _ _ _ _ _ (Nat.mod_lt _ (by omega)) hw] at hx
      split at hx
      · cases hx
      · refine ok set way x hw ?_
        rw [← hx]; unfold State.entry; rw [cards]
    · exact ok

/-- A pass whose steps are, in a sound table, those of `leaveIf`. -/
theorem foldl_eq_leaveIf {α : Type} {leaves : Nat → CardEntry → Bool} {g : State → α → State} {place : α → Nat}
    (same : ∀ (t : State) a, t.TableSound → g t a = leaveIf leaves t (place a)) (l : List α) (ok : s.TableSound) :
    l.foldl g s = (l.map place).foldl (leaveIf leaves) s := by
  induction l generalizing s with
  | nil => rfl
  | cons a l ih =>
    rw [List.foldl_cons, List.map_cons, List.foldl_cons, same s a ok]
    exact ih (tableSound_leaveIf ok)

end Listing

/-! ## FLUSH (R19) -/

section Flush

variable {s : State}

/-- What FLUSH lets leave: an entry that is neither resident nor hold-locked. -/
def flushable (_ : Nat) (e : CardEntry) : Bool := !e.resident && e.holdCount = 0

theorem flushEntry_sound (ok : s.TableSound) (n : Nat) : flushEntry s n = leaveIf flushable s n := by
  have same := verify_tableSound ok (set := n / 4) (way := n % 4) (Nat.mod_lt _ (by omega))
  cases he : s.entry (n / 4) (n % 4) <;> simp [flushEntry, same, leaveIf, flushable, he]

theorem flush_pass (ok : s.TableSound) (wf : Table.wf none s.cards.entries = true)
    (room : s.NoticeRoom (tallyFrames flushable s).length) (fs : List Frame) :
    ((s.cards.entries.map (·.1)).foldl flushEntry s).transmits fs =
      (s.without flushable).transmits (tallyFrames flushable s ++ fs) := by
  rw [foldl_eq_leaveIf (place := id) (fun t n h => flushEntry_sound h n) _ ok, List.map_id]
  exact foldl_leaveIf flushable fs [] s.cards.entries s rfl wf room

/-- What leaves and what stays are together what was listed. -/
theorem length_staying (leaves : Nat → CardEntry → Bool) (entries : Table (Option CardEntry)) :
    entries.length - (staying leaves entries).length = (entries.filter fun p => p.2.any (leaves p.1)).length := by
  have := List.length_eq_length_filter_add (l := entries) fun p => p.2.any (leaves p.1)
  unfold staying; omega

theorem flush_sound {id : ReqId} (ok : s.TableSound) (wf : Table.wf none s.cards.entries = true)
    (room : s.NoticeRoom (tallyFrames flushable s).length) :
    flush id s = (s.without flushable).transmits (tallyFrames flushable s ++
      [.reply id (.plain .done [.n2 (s.cards.entries.filter fun p => p.2.any (flushable p.1)).length]) 0]) := by
  have left : ((s.cards.entries.map (·.1)).foldl flushEntry s).cards.entries = staying flushable s.cards.entries :=
    congrArg (fun t => t.cards.entries) (flush_pass ok wf room [])
  simp only [flush, answer_eq, left, length_staying]
  exact flush_pass ok wf room _

end Flush

/-! ## The retirement of a way (R9, R11) -/

section Retire

variable {s : State} {way : Nat}

/-- What a retirement lets leave: the way's entries with hold count 0. -/
def retirable (way n : Nat) (e : CardEntry) : Bool := n % 4 = way && e.holdCount = 0

theorem retireEntry_sound (ok : s.TableSound) (hw : way < 4) (n : Nat) :
    (if n % 4 = way then retireEntry way s (n / 4) else s) = leaveIf (retirable way) s n := by
  by_cases hn : n % 4 = way
  · subst hn
    cases he : s.entry (n / 4) (n % 4) with
    | none => simp [retireEntry, leaveIf, he]
    | some e =>
      have passes : e.fails = false := by
        rcases ok _ _ e hw he with h | h <;> simp [CardEntry.fails, h]
      simp [retireEntry, leaveIf, he, passes, retirable]
  · cases he : s.entry (n / 4) (n % 4) <;> simp [leaveIf, he, hn, retirable]

theorem retire_pass (hw : way < 4) (ok : s.TableSound) (wf : Table.wf none s.cards.entries = true)
    (room : s.NoticeRoom (tallyFrames (retirable way) s).length) (fs : List Frame) :
    ((setsOfWay s way).foldl (retireEntry way) s).transmits fs =
      (s.without (retirable way)).transmits (tallyFrames (retirable way) s ++ fs) := by
  have all : (setsOfWay s way).foldl (retireEntry way) s =
      s.cards.entries.foldl (fun t p => if p.1 % 4 = way then retireEntry way t (p.1 / 4) else t) s := by
    simp [setsOfWay, List.foldl_map, List.foldl_filter]
  rw [all, foldl_eq_leaveIf (place := (·.1)) (fun t p h => retireEntry_sound h hw p.1) _ ok]
  exact foldl_leaveIf (retirable way) fs [] s.cards.entries s rfl wf room

end Retire

/-! ## The way requests (R11) -/

section Ways

variable {s : State}

theorem verifyWay_sound (ok : s.TableSound) {w : Nat} (hw : w < 4) : verifyWay s w = s := by
  have all : ∀ l : List Nat, l.foldl (fun s set => verify set w s) s = s := by
    intro l
    induction l with
    | nil => rfl
    | cons set l ih => rw [List.foldl_cons, verify_tableSound ok hw, ih]
  exact all _

theorem wayQuery_sound (ok : s.TableSound) : (List.range 4).foldl verifyWay s = s := by
  have all : ∀ l : List Nat, (∀ w ∈ l, w < 4) → l.foldl verifyWay s = s := by
    intro l
    induction l with
    | nil => intro _; rfl
    | cons w l ih => intro h; rw [List.foldl_cons, verifyWay_sound ok (h w (.head _)), ih fun v hv => h v (.tail _ hv)]
  exact all _ fun w hw => List.mem_range.1 hw

theorem wayDisable_enabled {w : Nat} {id : ReqId} (hw : w ≤ 3) (on : (s.way w).enabled = true) (ok : s.TableSound)
    (wf : Table.wf none s.cards.entries = true) (room : s.NoticeRoom (tallyFrames (retirable w) s).length) :
    wayDisable w id s = ((s.without (retirable w)).setWay w ⟨(s.way w).faults, false⟩).transmits
      (tallyFrames (retirable w) s ++ [.reply id (.plain .done [.n1 0, .n1 (s.way w).faults]) 0]) := by
  let t := s.setWay w ⟨(s.way w).faults, false⟩
  have pass (fs : List Frame) := retire_pass (s := t) (way := w) (by omega) ok wf room fs
  have health : ((setsOfWay t w).foldl (retireEntry w) t).way w = ⟨(s.way w).faults, false⟩ := by
    have := congrArg (fun u => u.way w) (pass [])
    simp only [State.transmits_way] at this
    rw [this]
    exact (State.setWay_way s w w _).trans (if_pos rfl)
  have retired : retireWay w false s = (setsOfWay t w).foldl (retireEntry w) t := rfl
  simp only [wayDisable, show ¬ 3 < w by omega, if_false, on, if_true, retired, answer_eq, wayFields, health, yesCode]
  exact pass _

end Ways

/-- Settles O9. -/
theorem flushAndWays : Obligations.FlushAndWays := by
  refine ⟨?_, fun s h w acc => ⟨fun bad => ⟨?_, ?_⟩, fun hw => ?_, fun hw off => ?_, ?_, fun g acc => ⟨fun bad => ?_, fun hw ok => ?_⟩⟩⟩
  · intro s h acc ok wf leaves room
    rw [exec_flush acc, flush_sound ok.taken wf room]
    rfl
  · simp [exec_wayDisable acc, wayDisable, bad, answer_taken]
  · simp [exec_wayRestore acc, wayRestore, bad, answer_taken]
  · simp [exec_wayRestore acc, wayRestore, show ¬ 3 < w by omega, wayFields, yesCode, answer_taken]
  · simp [exec_wayDisable acc, wayDisable, show ¬ 3 < w by omega, off, wayFields, yesCode, answer_taken]
  · intro hw on ok wf leaves room
    rw [exec_wayDisable acc, wayDisable_enabled (s := s.taken Kind.wayDisable h) hw on ok wf room]
    rfl
  · have answered := answer_taken s Kind.wayQuery g.toHdr .badValue []
    simp [exec_wayQuery acc, wayQuery, bad, answered]
  · simp only [exec_wayQuery acc, wayQuery, show ¬ 3 < g.way by omega, if_false, wayQuery_sound ok.taken]
    exact congrArg _ (answer_taken s Kind.wayQuery g.toHdr .done _)

end Sys2Proof.Machine

namespace Sys2Proof.Machine

open Sys2Proof

/-! ## Failed checks (R3, R5, R6, R9) -/

section Tells

variable {s t : State}

theorem Tells.way (x : Tells s t) (w : Nat) : t.way w = s.way w := by obtain ⟨l, r, rfl⟩ := x; rfl
theorem Tells.cards (x : Tells s t) : t.cards = s.cards := by obtain ⟨l, r, rfl⟩ := x; rfl
theorem Tells.clock (x : Tells s t) : t.clock = s.clock := by obtain ⟨l, r, rfl⟩ := x; rfl
theorem Tells.entry (x : Tells s t) (set way : Nat) : t.entry set way = s.entry set way := by obtain ⟨l, r, rfl⟩ := x; rfl

/-- A report takes one notice slot at most (R192). -/
theorem report_room {n : Nat} (k : FaultKind) (f : FaultFields) (room : s.NoticeRoom (n + 1)) : (report k f s).NoticeRoom n := by
  unfold State.NoticeRoom at room ⊢
  by_cases alert : (s.frc.rowOf k).severity = .alert
  · rw [report_alert s k f alert (by unfold State.NoticeRoom; omega)]
    simp; omega
  · rw [report_quiet s k f alert]
    simp; omega

end Tells

section Fails

variable {s : State} {set way : Nat} {e : CardEntry}

theorem CardEntry.fails_iff : e.fails = true ↔ e.suspect = false ∧ e.codeDiff ≠ 0 := by simp [CardEntry.fails]

theorem verify_fails (x : s.entry set way = some e) (bad : e.fails = true) : verify set way s = failCheck set way e s := by
  simp [verify, x, bad]

/-- A failed check that is not the way's fourth fault (R5, R6). -/
theorem failCheck_count (few : (s.way way).faults ≠ 3) : failCheck set way e s = failEntry set way e s := by
  cases h : (s.way way).enabled <;> simp [failCheck, failDisabled, h, few]

theorem failCheck_disabled (off : (s.way way).enabled = false) (three : (s.way way).faults = 3) :
    failCheck set way e s = report .wayRetired { way := some way } (failEntry set way e s) := by
  simp [failCheck, failDisabled, off, three]

theorem failCheck_retires (on : (s.way way).enabled = true) (three : (s.way way).faults = 3) :
    failCheck set way e s = retireWay way true (failEntry set way e s) := by
  simp [failCheck, on, three]

/-- What a failed entry leaves, its way's fault counted and recorded. -/
theorem failEntry_eq : failEntry set way e s =
    report .cardCheck { card := some e.card }
      ((s.setEntry set way ((answersFor set way e s).map fun c => e.rebuild c s)).setWay way
        { s.way way with faults := min 4 ((s.way way).faults + 1) }) := rfl

/-- With no open hold there is nothing to answer for (R5). -/
theorem answersFor_noHolds (none : openHolds s = []) : answersFor set way e s = Option.none := by
  simp [answersFor, mayAnswerFor, holdsOfCard, none]

/-- Open holds of its own number are answered for first, where no other entry of the set reads it (R5). -/
theorem answersFor_own {x : Hold} {xs : List Hold} (holds : holdsOfCard s e.card = x :: xs) (own : setIndex e.card = set)
    (alone : ∀ v < 4, v ≠ way → ∀ o, s.entry set v = some o → o.card ≠ e.card) : answersFor set way e s = some e.card := by
  have others : ((List.range 4).any fun w => w != way && (s.entry set w).any (·.card = e.card)) = false := by
    rw [List.any_eq_false]
    intro v hv
    by_cases hne : v = way
    · simp [hne]
    · cases ho : s.entry set v with
      | none => simp
      | some o => simp [alone v (List.mem_range.1 hv) hne o ho]
  simp [answersFor, mayAnswerFor, own, others, holds]

end Fails

/-- A number that a canonical table does not list reads as no record, and it alone does. -/
theorem unlisted_of_read_none {α : Type} [DecidableEq α] {t : Table (Option α)} {k : Nat} (wf : Table.wf none t = true)
    (x : Table.read none t k = none) : ∀ p ∈ t, p.1 ≠ k := by
  rintro ⟨n, v⟩ hp rfl
  obtain ⟨kept, rest, rfl⟩ := List.append_of_mem hp
  rw [read_append wf] at x
  exact ((Table.wf_iff none _).1 wf).1 _ hp x

/-- A place with no valid entry has none after others have left. -/
theorem without_entry_none {s : State} {leaves : Nat → CardEntry → Bool} {set way : Nat}
    (wf : Table.wf none s.cards.entries = true) (x : s.entry set way = none) : (s.without leaves).entry set way = none :=
  Table.read_eq_default fun p hp => unlisted_of_read_none wf x p (List.mem_of_mem_filter hp)

/-- CARD-QUERY of a place, as the link hands it over. -/
theorem exec_queryPlace {s : State} {h : Hdr} {set way low : Nat} (acc : s.Accepts h 5) (hw : way < 4) (hl : low < 65536) :
    exec (.cardQuery h 1 (set * 16777216 + way * 65536 + low)) s =
      .next (queryPlace set way ⟨Kind.cardQuery, h.tag⟩ (s.taken Kind.cardQuery h)) := by
  rw [exec_cardQuery acc]
  simp only [cardQuery, querySet_key (show way < 256 by omega) hl, queryWay_key (show way < 256 by omega) hl]

section QueryVerified

variable {s t : State} {id : ReqId} {set way : Nat}

/-- A query of a place where the verification leaves an entry. -/
theorem queryPlace_verified {e : CardEntry} (hw : way < 4) (verified : verify set way s = t) (x : t.entry set way = some e) :
    queryPlace set way id s = answer id .done (entryFields set way e t ++ fetchFields none) t := by
  simp [queryPlace, Nat.not_lt.2 (Nat.le_of_lt_succ hw), verified, x]

/-- A query of a place where the verification leaves none. -/
theorem queryPlace_emptied (hw : way < 4) (verified : verify set way s = t) (x : t.entry set way = none) :
    queryPlace set way id s = answer id .notPresent (fetchFields none) t := by
  simp [queryPlace, Nat.not_lt.2 (Nat.le_of_lt_succ hw), verified, x]

end QueryVerified

/-- A failed check below the fourth fault: the entry goes, or is rebuilt from its holds (R5, R6). -/
theorem checkFails (s : State) (h : Hdr) (set way low : Nat) (e : CardEntry) (acc : s.Accepts h 5) (hw : way < 4)
    (hl : low < 65536) (x : s.entry set way = some e) (fresh : e.suspect = false) (code : e.codeDiff ≠ 0)
    (few : (s.way way).faults < 3) :
    let query := Instr.cardQuery h 1 (set * 16777216 + way * 65536 + low)
    let failed (left : Option CardEntry) :=
      report .cardCheck { card := some e.card }
        (((s.setEntry set way left).setWay way { s.way way with faults := (s.way way).faults + 1 }).taken Kind.cardQuery h)
    (openHolds s = [] → exec query s = .next ((failed none).replied Kind.cardQuery h .notPresent (fetchFields none))) ∧
    (∀ x xs, holdsOfCard s e.card = x :: xs → setIndex e.card = set →
      (∀ v < 4, v ≠ way → ∀ o, s.entry set v = some o → o.card ≠ e.card) →
      let today := (x :: xs).filter (·.day = s.clock.day)
      let rebuilt := { e with
        person := x.person, folio := x.folio, holdCount := xs.length + 1, dayStamp := s.clock.day,
        daySpend := min maxAmount (today.map (·.total)).sum, dayAlcohol := min 255 (today.map (·.alcohol)).sum,
        resident := false, suspect := true, codeDiff := 0 }
      exec query s = .next ((failed (some rebuilt)).replied Kind.cardQuery h .done
        (entryFields set way rebuilt s ++ fetchFields none))) := by
  intro query failed
  let u := s.taken Kind.cardQuery h
  have verified (left : Option CardEntry) (settles : (answersFor set way e u).map (fun c => e.rebuild c u) = left) :
      verify set way u = failed left := by
    have count : min 4 ((s.way way).faults + 1) = (s.way way).faults + 1 := by omega
    rw [verify_fails (s := u) x (CardEntry.fails_iff.2 ⟨fresh, code⟩),
      failCheck_count (s := u) (show (s.way way).faults ≠ 3 by omega), failEntry_eq, settles]
    simp only [u, State.taken_way, count, failed, State.taken_setEntry, State.taken_setWay]
  have leaves (left : Option CardEntry) : (failed left).entry set way = left :=
    ((tells_report _ _ _).entry set way).trans (State.setEntry_entry_same s set way left)
  refine ⟨fun idle => ?_, ?_⟩
  · rw [exec_queryPlace acc hw hl, queryPlace_emptied hw
      (verified none (by rw [answersFor_noHolds (s := u) idle]; rfl)) (leaves _), answer_replied]
  · intro y ys holds own alone today rebuilt
    have settles : (answersFor set way e u).map (fun c => e.rebuild c u) = some rebuilt := by
      rw [answersFor_own (s := u) holds own alone, Option.map_some]
      have holds : holdsOfCard u e.card = y :: ys := holds
      simp only [CardEntry.rebuild, holds]
      rfl
    have fields : entryFields set way rebuilt (failed (some rebuilt)) = entryFields set way rebuilt s := by
      have clock : (failed (some rebuilt)).clock = s.clock := (tells_report _ _ _).clock
      unfold entryFields
      rw [clock]
    rw [exec_queryPlace acc hw hl, queryPlace_verified hw (verified _ settles) (leaves _), fields, answer_replied]

/-- The fourth fault, of an entry that no hold names (R9). -/
theorem fourthFault (s : State) (h : Hdr) (set way low : Nat) (e : CardEntry) (acc : s.Accepts h 5) (hw : way < 4)
    (hl : low < 65536) (x : s.entry set way = some e) (fresh : e.suspect = false) (code : e.codeDiff ≠ 0)
    (idle : openHolds s = []) (canonical : s.Canonical) :
    let query := Instr.cardQuery h 1 (set * 16777216 + way * 65536 + low)
    let failed := report .cardCheck { card := some e.card }
      (((s.setEntry set way none).setWay way { s.way way with faults := 4 }).taken Kind.cardQuery h)
    let answers (u : State) : Prop := exec query s = .next (u.replied Kind.cardQuery h .notPresent (fetchFields none))
    ((s.way way).enabled = false → (s.way way).faults = 4 → answers failed) ∧
    ((s.way way).enabled = false → (s.way way).faults = 3 → answers (report .wayRetired { way := some way } failed)) ∧
    ((s.way way).enabled = true → (s.way way).faults = 3 →
      (∀ set' v x, v < 4 → s.entry set' v = some x → ¬ (set' = set ∧ v = way) → x.Sound) →
      let leaves (n : Nat) (x : CardEntry) : Bool := n % 4 = way && x.holdCount = 0
      let retired := report .wayRetired { way := some way } (failed.setWay way ⟨4, false⟩)
      s.NoticeRoom (2 + (tallyFrames leaves retired).length) →
      answers ((retired.without leaves).transmits (tallyFrames leaves retired))) := by
  intro query failed answers
  let u := s.taken Kind.cardQuery h
  have counted (enough : 3 ≤ (s.way way).faults) : failEntry set way e u = failed := by
    have count : min 4 ((s.way way).faults + 1) = 4 := by omega
    rw [failEntry_eq, answersFor_noHolds (s := u) idle]
    simp only [u, State.taken_way, count, failed, State.taken_setEntry, State.taken_setWay, Option.map_none]
  have answered (t : State) (verified : verify set way u = t) (gone : t.entry set way = none) : answers t := by
    simp only [answers, query]
    rw [exec_queryPlace acc hw hl, queryPlace_emptied hw verified gone, answer_replied]
  have failing := verify_fails (s := u) x (CardEntry.fails_iff.2 ⟨fresh, code⟩)
  have gone : failed.entry set way = none :=
    ((tells_report _ _ _).entry set way).trans (State.setEntry_entry_same s set way none)
  refine ⟨fun off four => ?_, fun off three => ?_, ?_⟩
  · refine answered _ ?_ gone
    rw [failing, failCheck_count (s := u) (show (s.way way).faults ≠ 3 by omega), counted (by omega)]
  · refine answered _ ?_ (((tells_report _ _ _).entry set way).trans gone)
    rw [failing, failCheck_disabled (s := u) off three, counted (by omega)]
  · intro on three sound leaves retired room
    have health : failed.way way = ⟨4, true⟩ := by
      rw [(tells_report _ _ _).way, State.taken_way, State.setWay_way, if_pos rfl]
      exact congrArg (WayHealth.mk 4) on
    have entries : retired.cards.entries = Table.write none (4 * set + way) none s.cards.entries := by
      have inner : failed.cards = ((s.setEntry set way none).setWay way { s.way way with faults := 4 }).cards :=
        (tells_report _ _ _).cards
      have outer : retired.cards = (failed.setWay way ⟨4, false⟩).cards := (tells_report _ _ _).cards
      rw [outer]
      exact congrArg Cards.entries inner
    have verified : verify set way u = (setsOfWay retired way).foldl (retireEntry way) retired := by
      rw [failing, failCheck_retires (s := u) on three, counted (by omega)]
      simp only [retireWay, health, if_true, retired]
    have table : retired.TableSound := by
      intro set' v y hv hy
      have : (s.setEntry set way none).entry set' v = some y := by
        rw [← hy]; unfold State.entry; rw [entries]; rfl
      rw [State.setEntry_entry _ _ _ _ _ _ hw hv] at this
      split at this
      · cases this
      · rename_i hne
        exact sound set' v y hv this hne
    have wf : Table.wf none retired.cards.entries = true := by
      rw [entries]; exact Table.wf_write _ _ canonical.entries
    have room' : retired.NoticeRoom (tallyFrames leaves retired).length := by
      refine report_room _ _ ?_
      have : failed.NoticeRoom ((tallyFrames leaves retired).length + 1) := by
        refine report_room _ _ ?_
        unfold State.NoticeRoom at room ⊢
        simp; omega
      exact this
    have pass (fs : List Frame) := retire_pass (s := retired) hw table wf room' fs
    have left : ((setsOfWay retired way).foldl (retireEntry way) retired).entry set way = none := by
      have := congrArg (fun t => t.entry set way) (pass [])
      simp only [State.transmits_entry] at this
      rw [this]
      refine without_entry_none wf ?_
      unfold State.entry; rw [entries]; exact Table.read_write_same _ _ _ _
    simp only [answers, query]
    rw [exec_queryPlace acc hw hl, queryPlace_emptied hw verified left]
    simp only [answer_eq, State.replied, State.transmits_transmits]
    exact congrArg _ (pass _)

/-- Settles O8. -/
theorem failedCheckHandled : Obligations.FailedCheckHandled :=
  ⟨fun s h set way low e acc _ hw hl x fresh code few => checkFails s h set way low e acc hw hl x fresh code few,
    fun s h set way low e acc _ hw hl x fresh code idle canonical =>
      fourthFault s h set way low e acc hw hl x fresh code idle canonical⟩

end Sys2Proof.Machine

namespace Sys2Proof

/-! ## A record split off a table

What is counted or listed over a table is what one record gives and what the others give. -/

section Split

variable {α β : Type} [DecidableEq α] {d : α} {t : Table α}

theorem Table.drop_write (k : Nat) (v : α) (wf : Table.wf d t = true) : Table.drop k (Table.write d k v t) = Table.drop k t := by
  refine Table.ext_of_wf (Table.wf_drop k (Table.wf_write k v wf)) (Table.wf_drop k wf) fun m => ?_
  simp only [Table.read_drop, Table.read_write]
  split <;> rfl

/-- A listing is a permutation of the record split off, where it is listed, and the others. -/
theorem Table.perm_split (k : Nat) (wf : Table.wf d t = true) :
    t.Perm ((if Table.read d t k = d then [] else [(k, Table.read d t k)]) ++ Table.drop k t) := by
  by_cases listed : ∀ p ∈ t, p.1 ≠ k
  · have : Table.drop k t = t := List.filter_eq_self.2 fun p hp => by simpa using listed p hp
    rw [Table.read_eq_default listed, if_pos rfl, this]
    exact .rfl
  · push Not at listed
    obtain ⟨⟨n, v⟩, hp, rfl⟩ := listed
    obtain ⟨kept, rest, rfl⟩ := List.append_of_mem hp
    have : v ≠ d := ((Table.wf_iff d _).1 wf).1 _ hp
    rw [Machine.read_append wf, if_neg this, Machine.drop_append wf]
    exact List.perm_middle

/-- Of the listed records, those that something is drawn from, with their numbers. -/
def Table.collect (g : α → Option β) (t : Table α) : List (Nat × β) := t.filterMap fun p => (g p.2).map fun b => (p.1, b)

theorem Table.collect_split {g : α → Option β} (hd : g d = none) (k : Nat) (wf : Table.wf d t = true) :
    (t.collect g).Perm (((g (Table.read d t k)).map fun b => (k, b)).toList ++ (Table.drop k t).collect g) := by
  refine ((Table.perm_split k wf).filterMap _).trans ?_
  rw [List.filterMap_append]
  refine List.Perm.append_right _ ?_
  split
  · rename_i h; simp [h, hd]
  · cases h : g (Table.read d t k) <;> simp [h]

/-- How many listed records meet a condition. -/
def Table.tally (f : α → Bool) (t : Table α) : Nat := (t.filter fun p => f p.2).length

theorem Table.tally_split {f : α → Bool} (hd : f d = false) (k : Nat) (wf : Table.wf d t = true) :
    t.tally f = (f (Table.read d t k)).toNat + (Table.drop k t).tally f := by
  have := ((Table.perm_split k wf).filter fun p => f p.2).length_eq
  unfold Table.tally
  rw [this, List.filter_append, List.length_append]
  congr 1
  split
  · rename_i h; simp [h, hd]
  · cases h : f (Table.read d t k) <;> simp [h]

/-- The count after a write: the old record's part goes, the new one's comes. -/
theorem Table.tally_write {f : α → Bool} (hd : f d = false) (k : Nat) (v : α) (wf : Table.wf d t = true) :
    (Table.write d k v t).tally f + (f (Table.read d t k)).toNat = t.tally f + (f v).toNat := by
  rw [Table.tally_split hd k wf, Table.tally_split hd k (Table.wf_write k v wf), Table.drop_write k v wf, Table.read_write_same]
  omega

/-- The count after a change of every record. -/
theorem Table.tally_update {f : α → Bool} (hd : f d = false) (g : α → α) : (Table.update d g t).tally f = t.tally (f ∘ g) := by
  unfold Table.tally Table.update
  rw [List.filter_filter, List.filter_map, List.length_map]
  congr 1
  refine List.filter_congr fun p _ => ?_
  by_cases h : g p.2 = d <;> simp [h, hd]

/-- What is drawn from the records of a table, after a change of them that it does not see. -/
theorem Table.collect_update {g : α → Option β} (hd : g d = none) {f : α → α} (same : ∀ v, g (f v) = g v) :
    (Table.update d f t).collect g = t.collect g := by
  unfold Table.collect Table.update
  induction t with
  | nil => rfl
  | cons p t ih =>
    by_cases h : f p.2 = d
    · have : g p.2 = none := by rw [← same, h, hd]
      simpa [h, this] using ih
    · simp [h, same, List.filterMap_cons, ih]

/-- A change of every record that leaves an unlisted one as it is changes what each number reads accordingly. -/
theorem Table.read_update {f : α → α} (hd : f d = d) (k : Nat) (wf : Table.wf d t = true) :
    Table.read d (Table.update d f t) k = f (Table.read d t k) := by
  by_cases listed : ∀ p ∈ t, p.1 ≠ k
  · rw [Table.read_eq_default listed, hd]
    refine Table.read_eq_default fun p hp => ?_
    obtain ⟨q, hq, rfl⟩ := List.mem_map.1 (List.mem_filter.1 hp).1
    exact listed q hq
  · push Not at listed
    obtain ⟨⟨n, v⟩, hp, rfl⟩ := listed
    obtain ⟨kept, rest, rfl⟩ := List.append_of_mem hp
    have wf' := Table.wf_update f wf
    rw [Machine.read_append wf]
    unfold Table.update at wf' ⊢
    rw [List.map_append, List.map_cons, List.filter_append] at wf' ⊢
    by_cases h : f v = d
    · rw [h]
      refine Table.read_eq_default fun p hp => ?_
      obtain ⟨_, sorted⟩ := (Table.wf_iff d _).1 wf
      obtain ⟨_, after, before⟩ := List.pairwise_append.1 sorted
      simp only [List.filter_cons, bne_self_eq_false, Bool.false_eq_true, if_false, List.mem_append, List.mem_filter,
        List.mem_map] at hp
      rcases hp with ⟨⟨q, hq, rfl⟩, _⟩ | ⟨⟨q, hq, rfl⟩, _⟩
      · exact Nat.ne_of_lt (before q hq _ List.mem_cons_self)
      · exact (Nat.ne_of_lt ((List.pairwise_cons.1 after).1 q hq)).symm
    · rw [List.filter_cons, if_pos (by simpa using h)] at wf' ⊢
      exact Machine.read_append wf'

end Split

end Sys2Proof

namespace Sys2Proof.Machine

open Sys2Proof

/-! ## The invariants, block by block

Each invariant speaks of a few blocks of the part. `XOk` of those blocks is the invariant of every state that has them; so a
change of another block keeps it by definition. -/

section Blocks

def LinkOk (l : Link) : Prop := ∀ s : State, s.link = l → s.LinkBounded
def StoreOk (x : Store) : Prop := ∀ s : State, s.store = x → s.StoreBounded
def RecorderOk (x : Recorder) : Prop := ∀ s : State, s.frc = x → s.RecorderSound
def TableOk (x : Cards) : Prop := ∀ s : State, s.cards = x → s.TableBounded
def RollOk (x : Roll) : Prop := ∀ s : State, s.roll = x → s.RollCounted
def MusterOk (x : Roll) (y : Emergency) : Prop := ∀ s : State, s.roll = x → s.emu = y → s.MusterCounted
def MarkedOk (x : Roll) : Prop := ∀ s : State, s.roll = x → s.MarkedAboard
def HoldsOk (x : Cards) (y : Purse) : Prop := ∀ s : State, s.cards = x → s.purse = y → s.HoldsCounted
def MoneyOk (x : Bool) (y : Purse) (z : Journal) (u : Store) : Prop :=
  ∀ s : State, s.starting = x → s.purse = y → s.journal = z → s.store = u → s.MoneyKept
def RoomOk (x : Purse) (y : Journal) : Prop := ∀ s : State, s.purse = x → s.journal = y → s.RoomForAppends
def Wf (x : Cards) (y : Portals) (z : Roll) (u : Emergency) (v : Purse) (w : Image) : Prop :=
  ∀ s : State, s.cards = x → s.ptu = y → s.roll = z → s.emu = u → s.purse = v → s.image = w → s.Canonical

variable {s : State}

theorem linkOk_iff : LinkOk s.link ↔ s.LinkBounded :=
  ⟨fun h => h s rfl, fun h _ e => ⟨e ▸ h.1, e ▸ h.2, e ▸ h.3, e ▸ h.4, e ▸ h.5, e ▸ h.6⟩⟩

theorem storeOk_iff : StoreOk s.store ↔ s.StoreBounded := ⟨fun h => h s rfl, fun h _ e => ⟨e ▸ h.1, e ▸ h.2⟩⟩

theorem recorderOk_iff : RecorderOk s.frc ↔ s.RecorderSound :=
  ⟨fun h => h s rfl, fun h _ e => ⟨e ▸ h.1, e ▸ h.2, e ▸ h.3⟩⟩

theorem tableOk_iff : TableOk s.cards ↔ s.TableBounded := by
  refine ⟨fun h => h s rfl, fun h t e => ?_⟩
  have entry (a b : Nat) : t.entry a b = s.entry a b := by unfold State.entry; rw [e]
  have fetch (a : Nat) : t.fetch a = s.fetch a := by unfold State.fetch; rw [e]
  exact ⟨by simpa only [entry] using h.1, by simpa only [entry] using h.2, by simpa only [fetch] using h.3⟩

theorem rollOk_iff : RollOk s.roll ↔ s.RollCounted :=
  ⟨fun h => h s rfl, fun h _ e => ⟨e ▸ h.1, e ▸ h.2, e ▸ h.3, e ▸ h.4, e ▸ h.5⟩⟩

theorem musterOk_iff : MusterOk s.roll s.emu ↔ s.MusterCounted := by
  refine ⟨fun h => h s rfl rfl, fun h t e f => ⟨e ▸ h.1, f ▸ h.2, fun k => ?_, ?_⟩⟩
  · have : t.station k = s.station k := by unfold State.station; rw [f]
    rw [this, e]; exact h.3 k
  · rw [e, f]; exact h.4

theorem markedOk_iff : MarkedOk s.roll ↔ s.MarkedAboard := by
  refine ⟨fun h => h s rfl, fun h t e => ?_⟩
  have person (n : Nat) : t.person n = s.person n := by unfold State.person; rw [e]
  have before (n : Nat) : t.beforeImage n = s.beforeImage n := by unfold State.beforeImage; rw [e]
  exact ⟨by simpa only [person] using h.1, by simpa only [before] using h.2⟩

theorem holdsOk_iff : HoldsOk s.cards s.purse ↔ s.HoldsCounted := by
  refine ⟨fun h => h s rfl rfl, fun h t e f => ?_⟩
  have entry (a b : Nat) : t.entry a b = s.entry a b := by unfold State.entry; rw [e]
  have fetch (a : Nat) : t.fetch a = s.fetch a := by unfold State.fetch; rw [e]
  have way (a : Nat) : t.way a = s.way a := by unfold State.way; rw [e]
  have holds : openHolds t = openHolds s := by unfold openHolds; rw [f]
  have cards (c : Nat) : holdsOfCard t c = holdsOfCard s c := by unfold holdsOfCard; rw [holds]
  exact ⟨by simpa only [entry] using h.1, by simpa only [entry] using h.2, by simpa only [entry, cards] using h.3,
    by simpa only [entry, way] using h.4, by simpa only [entry, holds] using h.5, by simpa only [fetch] using h.6⟩

theorem moneyOk_iff : MoneyOk s.starting s.purse s.journal s.store ↔ s.MoneyKept := by
  refine ⟨fun h => h s rfl rfl rfl rfl, fun h t e f g k => ?_⟩
  have folio (n : Nat) : t.folio n = s.folio n := by unfold State.folio; rw [f]
  have slot (n : Nat) : t.holdSlot n = s.holdSlot n := by unfold State.holdSlot; rw [f]
  have holds : openHolds t = openHolds s := by unfold openHolds; rw [f]
  have held (n : Nat) : heldSum t n = heldSum s n := by unfold heldSum; rw [holds]
  have journal (n : Nat) : journalSum t n = journalSum s n := by unfold journalSum entriesOfFolio; rw [g]
  exact ⟨by simpa only [folio, held, journal] using h.1, by simpa only [folio, held] using h.2,
    by simpa only [folio, e] using h.3, by simpa only [k, slot] using h.4, by simpa only [k] using h.5,
    by simpa only [k] using h.6, by simpa only [k] using h.7⟩

theorem roomOk_iff : RoomOk s.purse s.journal ↔ s.RoomForAppends := by
  refine ⟨fun h => h s rfl rfl, fun h t e f => ?_⟩
  unfold State.RoomForAppends openHolds at *
  rw [e, f]; exact h

theorem wf_iff : Wf s.cards s.ptu s.roll s.emu s.purse s.image ↔ s.Canonical := by
  refine ⟨fun h => h s rfl rfl rfl rfl rfl rfl, fun h _ a b c d e f => ?_⟩
  exact ⟨a ▸ h.1, a ▸ h.2, a ▸ h.3, a ▸ h.4, b ▸ h.5, b ▸ h.6, c ▸ h.7, c ▸ h.8, d ▸ h.9, e ▸ h.10, e ▸ h.11, f ▸ h.12, f ▸ h.13⟩

end Blocks

/-! Each invariant holds of a state where what it reads is as in one that has it. -/

section Congr

variable {s t : State}

theorem State.LinkBounded.congr (a : s.LinkBounded) (o : t.link.outstanding = s.link.outstanding)
    (b : t.link.busy = s.link.busy) (x : t.link.tx = s.link.tx) (d : t.link.sending = s.link.sending) : t.LinkBounded := by
  have tags : t.link.tags = s.link.tags := by unfold Link.tags; rw [o, b]
  exact ⟨o ▸ a.1, b ▸ a.2, x ▸ a.3, tags ▸ a.4, tags ▸ a.5, by rw [d, x]; exact a.6⟩

theorem State.RollCounted.congr (a : s.RollCounted) (slots : t.roll.slots = s.roll.slots)
    (c : (t.roll.aboardGuests, t.roll.aboardCrew, t.roll.ashoreGuests, t.roll.ashoreCrew) =
      (s.roll.aboardGuests, s.roll.aboardCrew, s.roll.ashoreGuests, s.roll.ashoreCrew)) : t.RollCounted := by
  obtain ⟨ag, ac, sg, sc⟩ : _ ∧ _ ∧ _ ∧ _ := by simpa only [Prod.mk.injEq] using c
  constructor
  · rw [slots]; exact a.canonical
  · rw [ag, a.aboardGuests]; unfold Roll.tally; rw [slots]
  · rw [ac, a.aboardCrew]; unfold Roll.tally; rw [slots]
  · rw [sg, a.ashoreGuests]; unfold Roll.tally; rw [slots]
  · rw [sc, a.ashoreCrew]; unfold Roll.tally; rw [slots]

theorem State.MusterCounted.congr (a : s.MusterCounted) (slots : t.roll.slots = s.roll.slots)
    (c : t.emu.stations = s.emu.stations) (m : t.emu.mustered = s.emu.mustered) : t.MusterCounted := by
  have station (k : Nat) : t.station k = s.station k := by unfold State.station; rw [c]
  have tally (f : PersonSlot → Bool) : t.roll.tally f = s.roll.tally f := by unfold Roll.tally; rw [slots]
  exact ⟨slots ▸ a.1, c ▸ a.2, fun k => by rw [station, tally]; exact a.3 k, by rw [m, tally]; exact a.4⟩

theorem State.MarkedAboard.congr (a : s.MarkedAboard) (slots : t.roll.slots = s.roll.slots)
    (b : t.roll.before = s.roll.before) : t.MarkedAboard := by
  have person (n : Nat) : t.person n = s.person n := by unfold State.person; rw [slots]
  have before (n : Nat) : t.beforeImage n = s.beforeImage n := by unfold State.beforeImage; rw [b]
  exact ⟨by simpa only [person] using a.1, by simpa only [before] using a.2⟩

theorem State.TableBounded.congr (a : s.TableBounded) (x : t.cards.entries = s.cards.entries)
    (y : t.cards.fetches = s.cards.fetches) : t.TableBounded := by
  have entry (m n : Nat) : t.entry m n = s.entry m n := by unfold State.entry; rw [x]
  have fetch (m : Nat) : t.fetch m = s.fetch m := by unfold State.fetch; rw [y]
  exact ⟨by simpa only [entry] using a.1, by simpa only [entry] using a.2, by simpa only [fetch] using a.3⟩

theorem openHolds_congr (h : t.purse.holds = s.purse.holds) : openHolds t = openHolds s := by unfold openHolds; rw [h]

theorem State.HoldsCounted.congr (a : s.HoldsCounted) (x : t.cards.entries = s.cards.entries) (y : t.cards.ways = s.cards.ways)
    (z : t.cards.fetches = s.cards.fetches) (h : t.purse.holds = s.purse.holds) : t.HoldsCounted := by
  have entry (m n : Nat) : t.entry m n = s.entry m n := by unfold State.entry; rw [x]
  have way (m : Nat) : t.way m = s.way m := by unfold State.way; rw [y]
  have fetch (m : Nat) : t.fetch m = s.fetch m := by unfold State.fetch; rw [z]
  have cards (c : Nat) : holdsOfCard t c = holdsOfCard s c := by unfold holdsOfCard; rw [openHolds_congr h]
  exact ⟨by simpa only [entry] using a.1, by simpa only [entry] using a.2, by simpa only [entry, cards] using a.3,
    by simpa only [entry, way] using a.4, by simpa only [entry, openHolds_congr h] using a.5, by simpa only [fetch] using a.6⟩

theorem heldSum_congr (h : t.purse.holds = s.purse.holds) (n : Nat) : heldSum t n = heldSum s n := by
  unfold heldSum; rw [openHolds_congr h]

theorem journalSum_congr (h : t.journal.entries = s.journal.entries) (n : Nat) : journalSum t n = journalSum s n := by
  unfold journalSum entriesOfFolio; rw [h]

theorem State.MoneyKept.congr (a : s.MoneyKept) (st : t.starting = s.starting) (f : t.purse.folios = s.purse.folios)
    (h : t.purse.holds = s.purse.holds) (j : t.journal.entries = s.journal.entries) (q : t.store.queue = s.store.queue)
    (w : t.store.write = s.store.write) : t.MoneyKept := by
  have folio (n : Nat) : t.folio n = s.folio n := by unfold State.folio; rw [f]
  have slot (n : Nat) : t.holdSlot n = s.holdSlot n := by unfold State.holdSlot; rw [h]
  exact ⟨by simpa only [folio, heldSum_congr h, journalSum_congr j] using a.1, by simpa only [folio, heldSum_congr h] using a.2,
    by simpa only [folio, st] using a.3, by simpa only [q, slot] using a.4, by simpa only [q] using a.5,
    by simpa only [q, w] using a.6, by simpa only [q, w] using a.7⟩

theorem State.RoomForAppends.congr (a : s.RoomForAppends) (h : t.purse.holds = s.purse.holds)
    (j : t.journal.entries = s.journal.entries) : t.RoomForAppends := by
  unfold State.RoomForAppends at a ⊢; rw [openHolds_congr h, j]; exact a

end Congr

/-! ## What an operation keeps -/

/-- From `s` to `t` every invariant of one block, or of the roll with the muster, is kept, and the canonical form. -/
structure Keeps (s t : State) : Prop where
  link : LinkOk s.link → LinkOk t.link
  store : StoreOk s.store → StoreOk t.store
  recorder : RecorderOk s.frc → RecorderOk t.frc
  table : TableOk s.cards → TableOk t.cards
  roll : RollOk s.roll → RollOk t.roll
  muster : MusterOk s.roll s.emu → MusterOk t.roll t.emu
  marked : MarkedOk s.roll → MarkedOk t.roll
  wf : Wf s.cards s.ptu s.roll s.emu s.purse s.image → Wf t.cards t.ptu t.roll t.emu t.purse t.image

/-- And so are the hold counts and the exposures. -/
structure KeepsCounts (s t : State) : Prop extends Keeps s t where
  holds : Wf s.cards s.ptu s.roll s.emu s.purse s.image → TableOk s.cards → HoldsOk s.cards s.purse → HoldsOk t.cards t.purse
  money : Wf s.cards s.ptu s.roll s.emu s.purse s.image → MoneyOk s.starting s.purse s.journal s.store →
    MoneyOk t.starting t.purse t.journal t.store

/-- And so is the room for appends. -/
structure KeepsBooks (s t : State) : Prop extends KeepsCounts s t where
  room : Wf s.cards s.ptu s.roll s.emu s.purse s.image → MoneyOk s.starting s.purse s.journal s.store →
    RoomOk s.purse s.journal → RoomOk t.purse t.journal

/-- From `s` to `t` the card table, the holds, the folios and the journal stand as they were, and what else there is keeps its
invariants: what an operation of the other blocks does. -/
structure Beside (s t : State) : Prop extends Keeps s t where
  cards : t.cards = s.cards
  folios : t.purse.folios = s.purse.folios
  slots : t.purse.holds = s.purse.holds
  entries : t.journal.entries = s.journal.entries
  starting : t.starting = s.starting
  money : MoneyOk s.starting s.purse s.journal s.store → MoneyOk t.starting t.purse t.journal t.store

/-- From `s` to `t` frames are composed and faults reported, and nothing else. -/
structure Says (s t : State) : Prop where
  shape : Tells s t
  link : LinkOk s.link → LinkOk t.link
  recorder : RecorderOk s.frc → RecorderOk t.frc

section Chains

variable {s t u : State}

theorem Keeps.refl (s : State) : Keeps s s := ⟨id, id, id, id, id, id, id, id⟩

theorem KeepsCounts.refl (s : State) : KeepsCounts s s := ⟨.refl s, fun _ _ => id, fun _ => id⟩

theorem KeepsBooks.refl (s : State) : KeepsBooks s s := ⟨.refl s, fun _ _ => id⟩

theorem Beside.refl (s : State) : Beside s s := ⟨.refl s, rfl, rfl, rfl, rfl, rfl, id⟩

theorem Says.refl (s : State) : Says s s := ⟨⟨s.link, s.frc, rfl⟩, id, id⟩

theorem Keeps.trans (h : Keeps s t) (k : Keeps t u) : Keeps s u :=
  ⟨k.link ∘ h.link, k.store ∘ h.store, k.recorder ∘ h.recorder, k.table ∘ h.table, k.roll ∘ h.roll, k.muster ∘ h.muster,
    k.marked ∘ h.marked, k.wf ∘ h.wf⟩

theorem KeepsCounts.trans (h : KeepsCounts s t) (k : KeepsCounts t u) : KeepsCounts s u where
  toKeeps := h.toKeeps.trans k.toKeeps
  holds w a b := k.holds (h.wf w) (h.table a) (h.holds w a b)
  money w a := k.money (h.wf w) (h.money w a)

theorem KeepsBooks.trans (h : KeepsBooks s t) (k : KeepsBooks t u) : KeepsBooks s u where
  toKeepsCounts := h.toKeepsCounts.trans k.toKeepsCounts
  room w a b := k.room (h.wf w) (h.money w a) (h.room w a b)

theorem Beside.trans (h : Beside s t) (k : Beside t u) : Beside s u where
  toKeeps := h.toKeeps.trans k.toKeeps
  cards := k.cards.trans h.cards
  folios := k.folios.trans h.folios
  slots := k.slots.trans h.slots
  entries := k.entries.trans h.entries
  starting := k.starting.trans h.starting
  money := k.money ∘ h.money

theorem Says.trans (h : Says s t) (k : Says t u) : Says s u :=
  ⟨h.shape.trans k.shape, k.link ∘ h.link, k.recorder ∘ h.recorder⟩

theorem Says.beside (h : Says s t) : Beside s t := by
  obtain ⟨⟨l, r, rfl⟩, link, recorder⟩ := h
  exact { Beside.refl s with link := link, recorder := recorder }

theorem Beside.keepsBooks (h : Beside s t) : KeepsBooks s t where
  toKeeps := h.toKeeps
  holds _ _ b := holdsOk_iff.2 ((holdsOk_iff.1 b).congr (by rw [h.cards]) (by rw [h.cards]) (by rw [h.cards]) h.slots)
  money _ := h.money
  room _ _ b := roomOk_iff.2 ((roomOk_iff.1 b).congr h.slots h.entries)

theorem Beside.says (h : Beside s t) (x : Says t u) : Beside s u := h.trans x.beside

theorem KeepsBooks.beside (h : KeepsBooks s t) (x : Beside t u) : KeepsBooks s u := h.trans x.keepsBooks

theorem KeepsCounts.beside (h : KeepsCounts s t) (x : Beside t u) : KeepsCounts s u := h.trans x.keepsBooks.toKeepsCounts

theorem KeepsBooks.says (h : KeepsBooks s t) (x : Says t u) : KeepsBooks s u := h.beside x.beside

/-- A choice between two operations. -/
theorem Beside.ite {c : Prop} [Decidable c] {a b : State} (ha : c → Beside s a) (hb : ¬ c → Beside s b) :
    Beside s (if c then a else b) := by
  split
  · exact ha ‹_›
  · exact hb ‹_›

theorem KeepsBooks.ite {c : Prop} [Decidable c] {a b : State} (ha : c → KeepsBooks s a) (hb : ¬ c → KeepsBooks s b) :
    KeepsBooks s (if c then a else b) := by
  split
  · exact ha ‹_›
  · exact hb ‹_›

theorem Beside.foldl {α : Type} {f : State → α → State} (h : Beside s t) (step : ∀ u a, Beside s u → Beside s (f u a))
    (xs : List α) : Beside s (xs.foldl f t) :=
  List.foldlRecOn xs f h fun u k a _ => step u a k

end Chains

/-! ## Frames and reports (R187 to R193, R201, R202) -/

section Saying

variable (s : State)

theorem State.LinkBounded.transmits {s : State} {fs : List Frame} (a : s.LinkBounded) (some : fs ≠ [])
    (room : s.NoticeRoom (noticesWaiting fs)) : (s.transmits fs).LinkBounded where
  outstanding := a.outstanding
  busy := a.busy
  notices := by simpa [State.NoticeRoom] using room
  tags := a.tags
  tagged := a.tagged
  sending _ := by simp [some]

theorem says_transmits {fs : List Frame} (some : fs ≠ []) (room : s.LinkBounded → s.NoticeRoom (noticesWaiting fs)) :
    Says s (s.transmits fs) :=
  ⟨⟨(s.transmits fs).link, s.frc, rfl⟩, fun a => linkOk_iff.2 ((linkOk_iff.1 a).transmits some (room (linkOk_iff.1 a))), id⟩

theorem says_reply (id : ReqId) (b : Body) : Says s (reply id b s) := by
  rw [reply_eq]; exact says_transmits s (List.cons_ne_nil _ _) fun a => a.notices

theorem says_answer (id : ReqId) (r : Result) (fs : List Fld) : Says s (answer id r fs s) := says_reply s id _

theorem says_replyWaiting (id : Option ReqId) (b : Body) : Says s (replyWaiting id b s) := by
  cases id with
  | none => exact .refl s
  | some id => exact says_reply s id b

theorem says_decide' (p : Presentation) (d : Decision) : Says s (decide' p d s) := says_reply s _ _

theorem says_refuse (p : Presentation) (r : Result) : Says s (refuse p r s) := says_decide' s p _

theorem says_refuseFor (p : Presentation) (e : CardEntry) (r : Result) : Says s (refuseFor p e r s) := says_decide' s p _

theorem State.RecorderSound.take {s : State} (a : s.RecorderSound) (k : FaultKind) (f : FaultFields) (time : Nat) :
    (s.withFrc (s.frc.take k f time)).RecorderSound where
  rows := by simpa [Recorder.take] using a.rows
  counts row hr := by
    rcases List.mem_or_eq_of_mem_set hr with h | rfl
    · exact a.counts row h
    · exact Nat.min_le_left _ _
  capture c hc := by
    simp only [State.withFrc, Recorder.take] at hc
    split at hc
    · rename_i higher
      cases hc
      simp only [capturesOver, Bool.and_eq_true, bne_iff_ne] at higher
      exact higher.1
    · exact a.capture c hc

/-- The notices-lost flag is in no bound. -/
theorem says_flag (b : Bool) : Says s (s.withLink { s.link with noticesLost := b }) :=
  ⟨⟨{ s.link with noticesLost := b }, s.frc, rfl⟩, fun a => linkOk_iff.2 ((linkOk_iff.1 a).congr rfl rfl rfl rfl), id⟩

theorem says_take (k : FaultKind) (f : FaultFields) (time : Nat) : Says s (s.withFrc (s.frc.take k f time)) :=
  ⟨⟨s.link, s.frc.take k f time, rfl⟩, id, fun a => recorderOk_iff.2 ((recorderOk_iff.1 a).take k f time)⟩

theorem says_report (k : FaultKind) (f : FaultFields) : Says s (report k f s) := by
  by_cases alert : (s.frc.rowOf k).severity = .alert
  · by_cases room : s.NoticeRoom 1
    · rw [report_alert s k f alert room]
      exact (says_take s k f _).trans (says_transmits _ (List.cons_ne_nil _ _) fun _ => room)
    · rw [report_alert_full s k f alert room]
      exact (says_take s k f _).trans (says_flag _ true)
  · rw [report_quiet s k f alert]
    exact says_take s k f _

theorem says_notify (n : Notice) : Says s (notify n s) := by
  by_cases room : s.NoticeRoom 1
  · rw [notify_room s n room]
    exact says_transmits s (List.cons_ne_nil _ _) fun _ => room
  · rw [notify_full s n room]
    exact (says_flag s true).trans (says_report _ _ _)

end Saying

end Sys2Proof.Machine

namespace Sys2Proof.Machine

open Sys2Proof

/-! ## The blocks beside the card table, the purse and the journal

The lemmas go on from a state that an operation has reached: `h` says what it has done so far, and a guard may use what holds at its
start. -/

section Leaves

variable {s t : State}

theorem Beside.withClock (h : Beside s t) (x : Clock) : Beside s (t.withClock x) := { h with }
theorem Beside.withNow (h : Beside s t) (x : Nat) : Beside s (t.withNow x) := { h with }
theorem Beside.reachTime (h : Beside s t) (x : Nat) : Beside s (reachTime x t) := { h with }

theorem Beside.withImage (h : Beside s t) (x : Image) (e : Table.wf none t.image.entries = true → Table.wf none x.entries = true)
    (f : Table.wf defaultSlotRecord t.image.slots = true → Table.wf defaultSlotRecord x.slots = true) :
    Beside s (t.withImage x) :=
  { h with
    wf := fun a => wf_iff.2 (by
      have c := wf_iff.1 (h.wf a)
      exact { c with imageEntries := e c.imageEntries, imageSlots := f c.imageSlots }) }

theorem Beside.withRoll (h : Beside s t) (x : Roll) (slots : x.slots = t.roll.slots := by rfl)
    (before : x.before = t.roll.before := by rfl)
    (counts : (x.aboardGuests, x.aboardCrew, x.ashoreGuests, x.ashoreCrew) =
      (t.roll.aboardGuests, t.roll.aboardCrew, t.roll.ashoreGuests, t.roll.ashoreCrew) := by rfl) : Beside s (t.withRoll x) :=
  { h with
    roll := fun a => rollOk_iff.2 ((rollOk_iff.1 (h.roll a)).congr slots counts)
    muster := fun a => musterOk_iff.2 ((musterOk_iff.1 (h.muster a)).congr slots rfl rfl)
    marked := fun a => markedOk_iff.2 ((markedOk_iff.1 (h.marked a)).congr slots before)
    wf := fun a => wf_iff.2 (by
      have c := wf_iff.1 (h.wf a)
      exact { c with slots := slots ▸ c.slots, before := before ▸ c.before }) }

theorem Beside.withEmu (h : Beside s t) (x : Emergency) (stations : x.stations = t.emu.stations := by rfl)
    (mustered : x.mustered = t.emu.mustered := by rfl) : Beside s (t.withEmu x) :=
  { h with
    muster := fun a => musterOk_iff.2 ((musterOk_iff.1 (h.muster a)).congr rfl stations mustered)
    wf := fun a => wf_iff.2 (by
      have c := wf_iff.1 (h.wf a)
      exact { c with stations := stations ▸ c.stations }) }

theorem Beside.withPurse (h : Beside s t) (x : Purse) (folios : x.folios = t.purse.folios := by rfl)
    (holds : x.holds = t.purse.holds := by rfl) : Beside s (t.withPurse x) :=
  { h with
    folios := folios.trans h.folios
    slots := holds.trans h.slots
    money := fun a => moneyOk_iff.2 ((moneyOk_iff.1 (h.money a)).congr rfl folios holds rfl rfl rfl)
    wf := fun a => wf_iff.2 (by
      have c := wf_iff.1 (h.wf a)
      exact { c with folios := folios ▸ c.folios, holds := holds ▸ c.holds }) }

theorem Beside.withJournal (h : Beside s t) (x : Journal) (entries : x.entries = t.journal.entries := by rfl) :
    Beside s (t.withJournal x) :=
  { h with
    entries := entries.trans h.entries
    money := fun a => moneyOk_iff.2 ((moneyOk_iff.1 (h.money a)).congr rfl rfl rfl entries rfl rfl) }

theorem State.StoreBounded.congr {s t : State} (a : s.StoreBounded) (q : t.store.queue.length = s.store.queue.length)
    (w : t.store.write.isSome = s.store.write.isSome) : t.StoreBounded where
  queue := q ▸ a.queue
  writing x := by
    have := a.writing (w ▸ x)
    rwa [← List.length_pos_iff, q, List.length_pos_iff]

theorem Beside.withStore (h : Beside s t) (x : Store) (queue : x.queue = t.store.queue := by rfl)
    (write : x.write = t.store.write := by rfl) : Beside s (t.withStore x) :=
  { h with
    store := fun a => storeOk_iff.2 ((storeOk_iff.1 (h.store a)).congr (congrArg _ queue) (congrArg _ write))
    money := fun a => moneyOk_iff.2 ((moneyOk_iff.1 (h.money a)).congr rfl rfl rfl rfl queue write) }

theorem Beside.withLink (h : Beside s t) (x : Link) (o : x.outstanding = t.link.outstanding := by rfl)
    (b : x.busy = t.link.busy := by rfl) (y : x.tx = t.link.tx := by rfl) (d : x.sending = t.link.sending := by rfl) :
    Beside s (t.withLink x) :=
  { h with link := fun a => linkOk_iff.2 ((linkOk_iff.1 (h.link a)).congr o b y d) }

theorem Beside.setPortal (h : Beside s t) (n : Nat) (p : Portal) : Beside s (t.setPortal n p) :=
  { h with
    wf := fun a => wf_iff.2 (by
      have c := wf_iff.1 (h.wf a)
      exact { c with portals := Table.wf_write n p c.portals }) }

theorem Beside.setTiming (h : Beside s t) (n : Nat) (x : Timing) : Beside s (t.setTiming n x) :=
  { h with
    wf := fun a => wf_iff.2 (by
      have c := wf_iff.1 (h.wf a)
      exact { c with timings := Table.wf_write n x c.timings }) }

theorem Beside.draw (h : Beside s t) : Beside s (draw t).2 := by
  unfold Machine.draw
  split <;> exact { h with }

end Leaves

/-! ## Portals (chapter 3) -/

section Portals

variable {s t : State}

theorem says_alarm (n : Nat) (k : DoorAlarm) (s : State) : Says s (alarm n k s) := by
  unfold alarm
  cases k.fault with
  | none => exact says_notify s _
  | some f => exact (says_notify s _).trans (says_report _ _ _)

theorem says_drive (n : Nat) (d : Drive) (s : State) : Says s (drive n d s) := says_notify s _

theorem says_clearAlarm (n : Nat) (was : PortalState) (s : State) : Says s (clearAlarm n was s) := by
  cases was with
  | forced => exact says_alarm n .forcedCleared s
  | heldOpen => exact says_alarm n .heldCleared s
  | secure | released | opened | emergency | outOfService => exact .refl s

theorem Beside.enterEmergency (h : Beside s t) (tell : Bool) (n : Nat) : Beside s (enterEmergency tell n t) :=
  .ite (fun _ => ((h.setPortal n _).says (says_clearAlarm _ _ _)).says (says_drive _ _ _)) fun _ => h.setPortal n _

theorem Beside.place (h : Beside s t) (tell : Bool) (n : Nat) : Beside s (place tell n t) :=
  .ite (fun _ => .ite (fun _ => h.setPortal n _) fun _ => h.enterEmergency tell n)
    fun _ => .ite (fun _ => h.setPortal n _) fun _ => h.setPortal n _

theorem Beside.resumeDoor (h : Beside s t) (n : Nat) : Beside s (resumeDoor n t) :=
  .ite (fun _ => (h.place true n).says (says_drive _ _ _)) fun _ => h.place true n

theorem Beside.strikeFailure (h : Beside s t) (n : Nat) : Beside s (strikeFailure n t) :=
  ((h.setPortal n _).says (says_alarm _ _ _)).says (says_drive _ _ _)

theorem Beside.heldOpenEnds (h : Beside s t) (n : Nat) : Beside s (heldOpenEnds n t) :=
  (h.setPortal n _).says (says_alarm _ _ _)

theorem Beside.doorStep (h : Beside s t) (n : Nat) : Beside s (doorStep n t).2.2 := by
  unfold Machine.doorStep
  dsimp only
  split
  · exact h.setPortal n _
  · exact h.setPortal n _
  all_goals exact h

theorem Beside.retimeRelease (h : Beside s t) (window n : Nat) : Beside s (retimeRelease window n t) := by
  unfold Machine.retimeRelease
  dsimp only
  split
  · exact h
  · exact .ite (fun _ => h) fun _ => .ite (fun _ => h.says (says_drive _ _ _)) fun _ => .ite (fun _ => h.strikeFailure n)
      fun _ => (h.setPortal n _).says (says_drive _ _ _)

theorem Beside.retimeOthers (h : Beside s t) (n : Nat) : Beside s (retimeOthers n t) := by
  have first : Beside s (if (t.portal n).strikeTimer.any (·.due t.now) then Machine.strikeFailure n t else t) :=
    .ite (fun _ => h.strikeFailure n) fun _ => h
  exact .ite (fun _ => first.heldOpenEnds n) fun _ => first

theorem Beside.retime (h : Beside s t) (x : Timing) (n : Nat) : Beside s (retime x t n) :=
  ((h.setPortal n _).retimeRelease _ n).retimeOthers n

theorem Beside.decideDoor (h : Beside s t) (p : Presentation) (e : CardEntry) : Beside s (decideDoor p e t) := by
  unfold Machine.decideDoor
  refine .ite (fun _ => h.says (says_refuseFor _ _ _ _)) fun _ => ?_
  split
  · exact h.says (says_refuseFor _ _ _ _)
  · refine .ite (fun _ => h.says (says_refuseFor _ _ _ _)) fun _ => .ite (fun _ => h.says (says_refuseFor _ _ _ _)) fun _ =>
      .ite (fun _ => h.says (says_refuseFor _ _ _ _)) fun _ => ?_
    refine Beside.says (.ite (fun _ => ?_) fun _ => h.doorStep _) (says_decide' _ _ _)
    exact ((h.doorStep _).says (says_notify _ _)).says (says_report _ _ _)

theorem Beside.portalSet (h : Beside s t) (c : PortalConfig) (id : ReqId) : Beside s (portalSet c id t) := by
  unfold Machine.portalSet
  split
  · exact h.says (says_answer _ _ _ _)
  · exact .ite (fun _ => ((h.setPortal _ _).place true _).says (says_answer _ _ _ _)) fun _ => h.says (says_answer _ _ _ _)

theorem Beside.takeOut (h : Beside s t) (n : Nat) : Beside s (takeOut n t) :=
  Beside.says (.ite (fun _ => (h.setPortal n _).says (says_drive _ _ _)) fun _ => h.setPortal n _) (says_clearAlarm _ _ _)

theorem Beside.portalDisable (h : Beside s t) (n : Nat) (id : ReqId) : Beside s (portalDisable n id t) :=
  .ite (fun _ => h.says (says_answer _ _ _ _)) fun _ => .ite (fun _ => h.says (says_answer _ _ _ _)) fun _ =>
    Beside.says (.ite (fun _ => h.setPortal n _) fun _ => h.takeOut n) (says_answer _ _ _ _)

theorem Beside.portalEnable (h : Beside s t) (n : Nat) (id : ReqId) : Beside s (portalEnable n id t) :=
  .ite (fun _ => h.says (says_answer _ _ _ _)) fun _ => .ite (fun _ => h.says (says_answer _ _ _ _)) fun _ =>
    Beside.says (.ite (fun _ => h.setPortal n _) fun _ => (h.setPortal n _).place true n) (says_answer _ _ _ _)

theorem Beside.contactOpen (h : Beside s t) (n : Nat) : Beside s (contactOpen n t) := by
  unfold Machine.contactOpen
  dsimp only
  split
  · exact (h.setPortal n _).says (says_alarm _ _ _)
  · exact h.setPortal n _
  · exact .ite (fun _ => h.says (says_alarm _ _ _)) fun _ => h
  all_goals exact h

theorem Beside.contactClosed (h : Beside s t) (n : Nat) : Beside s (contactClosed n t) := by
  unfold Machine.contactClosed
  dsimp only
  split
  · exact h.setPortal n _
  · exact (h.setPortal n _).says (says_alarm _ _ _)
  · exact (h.setPortal n _).says (says_alarm _ _ _)
  all_goals exact h

theorem Beside.contact (h : Beside s t) (n position : Nat) (id : ReqId) : Beside s (contact n position id t) := by
  unfold Machine.contact
  dsimp only
  split
  · exact .ite (fun _ => ((h.setPortal n _).contactOpen n).says (says_answer _ _ _ _))
      fun _ => (h.setPortal n _).says (says_answer _ _ _ _)
  · exact .ite (fun _ => ((h.setPortal n _).contactClosed n).says (says_answer _ _ _ _))
      fun _ => (h.setPortal n _).says (says_answer _ _ _ _)
  all_goals exact h.says (says_answer _ _ _ _)

theorem Beside.strikeAck (h : Beside s t) (n : Nat) (id : ReqId) : Beside s (strikeAck n id t) :=
  .ite (fun _ => h.says (says_answer _ _ _ _)) fun _ =>
    .ite (fun _ => (h.setPortal n _).says (says_answer _ _ _ _)) fun _ => h.says (says_answer _ _ _ _)

theorem Beside.remoteRelease (h : Beside s t) (n : Nat) (id : ReqId) : Beside s (remoteRelease n id t) := by
  refine .ite (fun _ => h.says (says_answer _ _ _ _)) fun _ => .ite (fun _ => h.says (says_answer _ _ _ _)) fun _ => ?_
  have after := h.doorStep n
  split
  · rename_i eq
    rw [eq] at after
    exact after.says (says_answer _ _ _ _)
  · rename_i eq
    rw [eq] at after
    exact after.says (says_answer _ _ _ _)

theorem Beside.timingStage (h : Beside s t) (set release heldOpen strike applyNow : Nat) (id : ReqId) :
    Beside s (timingStage set release heldOpen strike applyNow id t) := by
  refine .ite (fun _ => h.says (says_answer _ _ _ _)) fun _ => ?_
  split
  · exact h.says (says_answer _ _ _ _)
  · exact .ite (fun _ => ((h.setTiming set _).foldl (fun _ n k => k.retime _ n) _).says (says_answer _ _ _ _))
      fun _ => (h.setTiming set _).says (says_answer _ _ _ _)

theorem Beside.releaseExpiry (h : Beside s t) (n : Nat) : Beside s (releaseExpiry n t) := by
  unfold Machine.releaseExpiry
  split
  · exact h
  · exact .ite (fun _ => (h.reachTime _).strikeFailure n) fun _ => (h.reachTime _).setPortal n _

theorem Beside.strikeExpiry (h : Beside s t) (n : Nat) : Beside s (strikeExpiry n t) := by
  unfold Machine.strikeExpiry
  split
  · exact h
  · exact (h.reachTime _).strikeFailure n

theorem Beside.heldOpenExpiry (h : Beside s t) (n : Nat) : Beside s (heldOpenExpiry n t) := by
  unfold Machine.heldOpenExpiry
  split
  · exact h
  · exact (h.reachTime _).heldOpenEnds n

end Portals

end Sys2Proof.Machine

namespace Sys2Proof.Machine

open Sys2Proof

/-! ## A person slot and its counters (R71, R107) -/

section Counters

/-- The presence counter of a state and kind; UNLISTED has none. -/
def Roll.counter (r : Roll) : PersonState → PersonKind → Nat
  | .unlisted, _ => 0
  | .aboard, .guest => r.aboardGuests
  | .aboard, .crew => r.aboardCrew
  | .ashore, .guest => r.ashoreGuests
  | .ashore, .crew => r.ashoreCrew

/-- The slots a presence counter counts. -/
def PersonSlot.isOf (st : PersonState) (k : PersonKind) (p : PersonSlot) : Bool := p.state = st && p.kind = k

theorem rollCounted_iff {s : State} : s.RollCounted ↔ Table.wf defaultSlot s.roll.slots = true ∧
    ∀ st k, st ≠ .unlisted → s.roll.counter st k = s.roll.slots.tally (PersonSlot.isOf st k) := by
  refine ⟨fun h => ⟨h.canonical, fun st k listed => ?_⟩, fun ⟨wf, h⟩ => ⟨wf, ?_, ?_, ?_, ?_⟩⟩
  · cases st with
    | unlisted => exact absurd rfl listed
    | aboard => cases k with
      | guest => exact h.aboardGuests
      | crew => exact h.aboardCrew
    | ashore => cases k with
      | guest => exact h.ashoreGuests
      | crew => exact h.ashoreCrew
  · exact h .aboard .guest nofun
  · exact h .aboard .crew nofun
  · exact h .ashore .guest nofun
  · exact h .ashore .crew nofun

variable {s t : State} {st : PersonState} {k : PersonKind}

theorem isOf_default (listed : st ≠ .unlisted) : PersonSlot.isOf st k defaultSlot = false := by
  simp [PersonSlot.isOf, defaultSlot, Ne.symm listed]

theorem counter_count (r : Roll) (p : PersonSlot) (f : Nat → Nat) (listed : st ≠ .unlisted) :
    (r.count p.state p.kind f).counter st k = if PersonSlot.isOf st k p then f (r.counter st k) else r.counter st k := by
  obtain ⟨pst, pk, _, _, _⟩ := p
  cases pst with
  | unlisted => simp [Roll.count, PersonSlot.isOf, Ne.symm listed]
  | aboard | ashore => cases pk <;> cases st <;> cases k <;> simp_all [Roll.count, Roll.counter, PersonSlot.isOf]

/-- A counter loses the old slot and gains the new one. -/
theorem counter_recount (r : Roll) (old new : PersonSlot) (listed : st ≠ .unlisted)
    (counted : (PersonSlot.isOf st k old).toNat ≤ r.counter st k) :
    (r.recount old new).counter st k + (PersonSlot.isOf st k old).toNat = r.counter st k + (PersonSlot.isOf st k new).toNat := by
  unfold Roll.recount
  split
  · rename_i same
    simp only [Bool.and_eq_true, decide_eq_true_eq] at same
    simp [PersonSlot.isOf, same.1, same.2]
  · rw [counter_count _ _ _ listed, counter_count _ _ _ listed]
    cases ho : PersonSlot.isOf st k old <;> cases hn : PersonSlot.isOf st k new <;> simp_all

theorem State.RollCounted.setPerson (a : s.RollCounted) (n : Nat) (new : PersonSlot) : (setPerson n new s).RollCounted := by
  obtain ⟨wf, counted⟩ := rollCounted_iff.1 a
  refine rollCounted_iff.2 ⟨Table.wf_write n new wf, fun st k listed => ?_⟩
  have split := Table.tally_split (isOf_default (k := k) listed) n wf
  have write := Table.tally_write (isOf_default (k := k) listed) n new wf
  have moved := counter_recount (k := k) s.roll (s.person n) new listed (by
    rw [counted st k listed, split]; exact Nat.le_add_right _ _)
  change (s.roll.recount (s.person n) new).counter st k = _
  rw [counted st k listed] at moved
  have old : s.person n = Table.read defaultSlot s.roll.slots n := rfl
  rw [← old] at write
  change _ = (Table.write defaultSlot n new s.roll.slots).tally _
  omega

/-- A station's counter without the marks of another. -/
theorem station_unmark (e : Emergency) (m : Option Nat) (k : Nat) :
    Table.read 0 (e.unmark m).stations k = Table.read 0 e.stations k - (decide (m = some k)).toNat := by
  cases m with
  | none => simp [Emergency.unmark]
  | some j =>
    by_cases h : k = j
    · simp [Emergency.unmark, h]
    · simp [Emergency.unmark, Table.read_write, h, Ne.symm h]

theorem station_mark (e : Emergency) (m : Option Nat) (k : Nat) :
    Table.read 0 (e.mark m).stations k = Table.read 0 e.stations k + (decide (m = some k)).toNat := by
  cases m with
  | none => simp [Emergency.mark]
  | some j =>
    by_cases h : k = j
    · simp [Emergency.mark, h]
    · simp [Emergency.mark, Table.read_write, h, Ne.symm h]

theorem mustered_unmark (e : Emergency) (m : Option Nat) : (e.unmark m).mustered = e.mustered - m.isSome.toNat := by
  cases m <;> rfl

theorem mustered_mark (e : Emergency) (m : Option Nat) : (e.mark m).mustered = e.mustered + m.isSome.toNat := by
  cases m <;> rfl

theorem wf_remark (e : Emergency) (old new : PersonSlot) (wf : Table.wf 0 e.stations = true) :
    Table.wf 0 (e.remark old new).stations = true := by
  have unmark : Table.wf 0 (e.unmark old.mark).stations = true := by
    unfold Emergency.unmark
    cases old.mark with
    | none => exact wf
    | some j => exact Table.wf_write _ _ wf
  unfold Emergency.remark
  split
  · exact wf
  · cases new.mark with
    | none => exact unmark
    | some j => exact Table.wf_write j (Table.read 0 (e.unmark old.mark).stations j + 1) unmark

theorem State.MusterCounted.setPerson (a : s.MusterCounted) (n : Nat) (new : PersonSlot) : (setPerson n new s).MusterCounted where
  canonical := Table.wf_write n new a.canonical
  counters := wf_remark _ _ _ a.counters
  stations k := by
    have off : decide (defaultSlot.mark = some k) = false := by simp [defaultSlot]
    have split := Table.tally_split (f := fun p => decide (p.mark = some k)) off n a.canonical
    have write := Table.tally_write (f := fun p => decide (p.mark = some k)) off n new a.canonical
    have counted : Table.read 0 s.emu.stations k = s.roll.slots.tally fun p => decide (p.mark = some k) := a.stations k
    have old : s.person n = Table.read defaultSlot s.roll.slots n := rfl
    change Table.read 0 (s.emu.remark (s.person n) new).stations k =
      (Table.write defaultSlot n new s.roll.slots).tally fun p => decide (p.mark = some k)
    unfold Emergency.remark
    split
    · rename_i same
      rw [← old, same] at write
      omega
    · rw [station_mark, station_unmark, counted, old]
      omega
  mustered := by
    have split := Table.tally_split (f := fun p => p.mark.isSome) (d := defaultSlot) rfl n a.canonical
    have write := Table.tally_write (f := fun p => p.mark.isSome) (d := defaultSlot) rfl n new a.canonical
    have counted : s.emu.mustered = s.roll.slots.tally fun p => p.mark.isSome := a.mustered
    have old : s.person n = Table.read defaultSlot s.roll.slots n := rfl
    change (s.emu.remark (s.person n) new).mustered =
      (Table.write defaultSlot n new s.roll.slots).tally fun p => p.mark.isSome
    unfold Emergency.remark
    split
    · rename_i same
      rw [← old, same] at write
      omega
    · rw [mustered_mark, mustered_unmark, counted, old]
      omega

theorem recount_before (r : Roll) (old new : PersonSlot) : (r.recount old new).before = r.before := by
  have count (r : Roll) (st : PersonState) (k : PersonKind) (f : Nat → Nat) : (r.count st k f).before = r.before := by
    cases st <;> cases k <;> rfl
  unfold Roll.recount
  split
  · rfl
  · rw [count, count]

theorem State.MarkedAboard.setPerson (a : s.MarkedAboard) (n : Nat) (new : PersonSlot)
    (aboard : new.mark.isSome = true → new.state = .aboard) : (setPerson n new s).MarkedAboard where
  slots m := by
    change (Table.read defaultSlot (Table.write defaultSlot n new s.roll.slots) m).mark.isSome = true → _ = _
    change _ → (Table.read defaultSlot (Table.write defaultSlot n new s.roll.slots) m).state = _
    rw [Table.read_write]
    split
    · exact aboard
    · exact a.slots m
  before m p hp := by
    refine a.before m p ?_
    rw [← hp]
    exact congrArg (fun b => Table.read none b m) (recount_before _ _ _).symm

theorem Beside.setPerson (h : Beside s t) (n : Nat) (new : PersonSlot)
    (aboard : MarkedOk s.roll → new.mark.isSome = true → new.state = .aboard) : Beside s (setPerson n new t) :=
  { h with
    roll := fun a => rollOk_iff.2 ((rollOk_iff.1 (h.roll a)).setPerson n new)
    muster := fun a => musterOk_iff.2 ((musterOk_iff.1 (h.muster a)).setPerson n new)
    marked := fun a => markedOk_iff.2 ((markedOk_iff.1 (h.marked a)).setPerson n new (aboard a))
    wf := fun a => wf_iff.2 (by
      have c := wf_iff.1 (h.wf a)
      exact { c with
        slots := Table.wf_write n new c.slots
        before := (recount_before t.roll (t.person n) new).symm ▸ c.before
        stations := wf_remark _ _ _ c.stations }) }

end Counters

end Sys2Proof.Machine

namespace Sys2Proof.Machine

open Sys2Proof

/-! ## The store's queue (R178 to R180) -/

section Queue

variable {s t : State}

theorem Beside.writeMarker (h : Beside s t) (m : Option Marker) : Beside s (writeMarker m t) := by
  have first : Beside s (markerTry t).2 := h.draw
  have second : Beside s (markerTry (markerTry t).2).2 := first.draw
  exact .ite (fun _ => first.withImage _ id id) fun _ => .ite (fun _ => second.withImage _ id id)
    fun _ => second.says (says_report _ _ _)

/-- A request joins the tail: an append's is that of a COMMITTING hold that no other append is of. -/
theorem State.MoneyKept.join (a : s.MoneyKept) (r : StoreReq)
    (fits : ∀ slot x awaits, r = .entry slot x awaits → slot ∉ s.store.queue.filterMap StoreReq.appendSlot ∧
      ∃ h c, (s.holdSlot slot).body = .committing h c ∧ x.folio = h.folio ∧ x.total = c.total) :
    (s.withStore { s.store with queue := s.store.queue ++ [r] }).MoneyKept where
  exposure := a.exposure
  unloaded := a.unloaded
  starting := a.starting
  appends q hq slot x awaits e := by
    rcases List.mem_append.1 hq with hq | hq
    · exact a.appends q hq slot x awaits e
    · rw [List.mem_singleton] at hq
      exact (fits slot x awaits (hq ▸ e)).2
  single := by
    change ((s.store.queue ++ [r]).filterMap StoreReq.appendSlot).Nodup
    rw [List.filterMap_append]
    cases r with
    | entry slot x awaits =>
      refine List.nodup_append.2 ⟨a.single, List.nodup_singleton _, fun m hm n hn e => ?_⟩
      rw [show n = slot by simpa [StoreReq.appendSlot] using hn] at e
      exact (fits slot x awaits rfl).1 (e ▸ hm)
    | slot | settle | muster | day =>
      rw [List.filterMap_cons_none rfl, List.filterMap_nil, List.append_nil]
      exact a.single
  idle e := absurd e (List.append_ne_nil_of_right_ne_nil _ (List.cons_ne_nil _ _))
  written slot x awaits rest place e next second hq hw := by
    change s.store.queue ++ [r] = _ at hq
    cases hs : s.store.queue with
    | nil => exact nomatch (a.idle hs).symm.trans hw
    | cons q qs =>
      rw [hs, List.cons_append, List.cons.injEq] at hq
      exact a.written slot x awaits qs place e next second (hs.trans (by rw [hq.1])) hw

theorem Beside.join (h : Beside s t) (r : StoreReq) (room : t.store.queue.length < 8) (plain : r.appendSlot = none) :
    Beside s (t.withStore { t.store with queue := t.store.queue ++ [r] }) :=
  { h with
    store := fun _ => storeOk_iff.2
      ⟨by simpa using room, fun _ => List.append_ne_nil_of_right_ne_nil _ (List.cons_ne_nil _ _)⟩
    money := fun a => moneyOk_iff.2 ((moneyOk_iff.1 (h.money a)).join r fun slot x awaits e => by
      subst e
      exact nomatch plain) }

/-- A write is under way: of an append, with its folio and total. -/
theorem State.MoneyKept.writing {r : StoreReq} {rest : List StoreReq} (a : s.MoneyKept) (hq : s.store.queue = r :: rest) (w : Write)
    (content : ∀ slot x awaits place e next, r = .entry slot x awaits → w.content = .entry place e next →
      e.folio = x.folio ∧ e.total = x.total) :
    (s.withStore { s.store with write := some w }).MoneyKept where
  exposure := a.exposure
  unloaded := a.unloaded
  starting := a.starting
  appends := a.appends
  single := a.single
  idle e := absurd (hq.symm.trans e) (List.cons_ne_nil _ _)
  written slot x awaits tail place e next second hq' hw := by
    have head : r = .entry slot x awaits := (List.cons.inj (hq.symm.trans hq')).1
    have under : w = ⟨.entry place e next, second⟩ := Option.some.inj hw
    exact content slot x awaits place e next head (congrArg Write.content under)

theorem Beside.writing (h : Beside s t) {r : StoreReq} {rest : List StoreReq} (hq : t.store.queue = r :: rest) (w : Write)
    (content : t.MoneyKept → ∀ slot x awaits place e next, r = .entry slot x awaits → w.content = .entry place e next →
      e.folio = x.folio ∧ e.total = x.total) : Beside s (t.withStore { t.store with write := some w }) :=
  { h with
    store := fun a => storeOk_iff.2 ⟨(storeOk_iff.1 (h.store a)).queue, fun _ => hq ▸ List.cons_ne_nil _ _⟩
    money := fun a => moneyOk_iff.2 ((moneyOk_iff.1 (h.money a)).writing hq w (content (moneyOk_iff.1 (h.money a)))) }

theorem requesterBegins_store (r : StoreReq) (s : State) : (requesterBegins r s).store = s.store := by cases r <;> rfl

theorem Beside.requesterBegins (h : Beside s t) (r : StoreReq) : Beside s (requesterBegins r t) := by
  cases r with
  | entry => exact h.withJournal _
  | muster => exact h.withEmu _
  | slot | settle | day => exact h

theorem Beside.beginWrite (h : Beside s t) : Beside s (beginWrite t) := by
  unfold Machine.beginWrite
  split
  · rename_i r rest _ hq
    refine Beside.writeMarker (((h.requesterBegins r).writing (r := r) (rest := rest) ?_ _ ?_)) _
    · rw [requesterBegins_store]; exact hq
    · rintro _ slot x awaits place e next rfl content
      obtain ⟨_, rfl, _⟩ := WriteContent.entry.inj content
      exact ⟨rfl, rfl⟩
  · exact h

theorem Beside.enqueue (h : Beside s t) (r : StoreReq) (room : t.store.queue.length < 8) (plain : r.appendSlot = none) :
    Beside s (enqueue r t) :=
  .ite (fun _ => (h.join r room plain).beginWrite) fun _ => h.join r room plain

theorem length_of_not_full (h : ¬ storeFull t = true) : t.store.queue.length < 8 := by simpa [storeFull] using h

theorem Beside.secondAttempt (h : Beside s t) {r : StoreReq} {rest : List StoreReq} {w : Write} (hw : t.store.write = some w)
    (hq : t.store.queue = r :: rest) : Beside s (secondAttempt w t) := by
  refine Beside.writeMarker (h.writing hq _ ?_) _
  rintro a slot x awaits place e next rfl content
  obtain ⟨c, second⟩ := w
  cases content
  exact a.written slot x awaits rest place e next second hq hw

end Queue

/-! ## The presence roll (chapter 4) -/

section PresenceRoll

variable {s t : State}

theorem Beside.assertWarning (h : Beside s t) : Beside s (assertWarning t) :=
  .ite (fun _ => (h.withRoll _).says (says_notify _ _)) fun _ => h.withRoll _

theorem Beside.evalWarning (h : Beside s t) : Beside s (evalWarning t) :=
  .ite (fun _ => .ite (fun _ => h.withRoll _) fun _ => h) fun _ => .ite (fun _ => h.assertWarning) fun _ => h

theorem Beside.evalIfMoved (h : Beside s t) (before : Nat) : Beside s (evalIfMoved before t) :=
  .ite (fun _ => h) fun _ => h.evalWarning

theorem Tells.store (h : Tells s t) : t.store = s.store := by obtain ⟨l, r, rfl⟩ := h; rfl

theorem evalIfMoved_store (before : Nat) (s : State) : (evalIfMoved before s).store = s.store := by
  have assert : (assertWarning s).store = s.store := by
    unfold assertWarning
    dsimp only
    split
    · exact (tells_notify _ _).store
    · rfl
  unfold evalIfMoved evalWarning
  dsimp only
  split
  · rfl
  · split
    · split <;> rfl
    · split
      · exact assert
      · rfl

/-- A write of a before image: one whose mark is ABOARD, where every slot's is. -/
theorem Beside.setBefore (h : Beside s t) (n : Nat) (old : Option PersonSlot) (x : Roll) (slots : x.slots = t.roll.slots)
    (before : x.before = Table.write none n old t.roll.before)
    (counts : (x.aboardGuests, x.aboardCrew, x.ashoreGuests, x.ashoreCrew) =
      (t.roll.aboardGuests, t.roll.aboardCrew, t.roll.ashoreGuests, t.roll.ashoreCrew))
    (aboard : MarkedOk s.roll → ∀ p, old = some p → p.mark.isSome = true → p.state = .aboard) : Beside s (t.withRoll x) :=
  { h with
    roll := fun a => rollOk_iff.2 ((rollOk_iff.1 (h.roll a)).congr slots counts)
    muster := fun a => musterOk_iff.2 ((musterOk_iff.1 (h.muster a)).congr slots rfl rfl)
    marked := fun a => markedOk_iff.2 (by
      have b := markedOk_iff.1 (h.marked a)
      refine ⟨fun m => ?_, fun m p hp => ?_⟩
      · have : (t.withRoll x).person m = t.person m := congrArg (fun y => Table.read defaultSlot y m) slots
        rw [this]; exact b.slots m
      · have : (t.withRoll x).beforeImage m = if m = n then old else t.beforeImage m := by
          unfold State.beforeImage
          rw [State.withRoll_roll, before, Table.read_write]
        rw [this] at hp
        split at hp
        · exact aboard a p hp
        · exact b.before m p hp)
    wf := fun a => wf_iff.2 (by
      have c := wf_iff.1 (h.wf a)
      exact { c with slots := slots ▸ c.slots, before := before ▸ Table.wf_write n old c.before }) }

/-- A slot takes a new content, and a departure is in flight where it is one (R72). -/
def moveSlot (n : Nat) (new : PersonSlot) (s : State) : State :=
  if isDeparture (s.person n) new then
    (setPerson n new s).withRoll { (setPerson n new s).roll with departures := (setPerson n new s).roll.departures + 1 }
  else setPerson n new s

/-- A slot change in terms of it. -/
theorem changeSlot_eq (n : Nat) (new : PersonSlot) (cause : SlotCause) (awaits : Option ReqId) (s : State) :
    changeSlot n new cause awaits s =
      let u := evalIfMoved (aboardTotal s.roll) (moveSlot n new s)
      let v := u.withRoll { u.roll with before := Table.write none n (some (s.person n)) u.roll.before }
      enqueue (.slot n ⟨new, v.emu.record.number⟩ cause awaits) v := rfl

theorem Beside.changeSlot (h : Beside s t) (n : Nat) (new : PersonSlot) (cause : SlotCause) (awaits : Option ReqId)
    (room : ¬ storeFull t = true) (aboard : t.MarkedAboard → new.mark.isSome = true → new.state = .aboard) :
    Beside s (changeSlot n new cause awaits t) := by
  have set := h.setPerson n new fun a => aboard (markedOk_iff.1 (h.marked a))
  have moved : Beside s (moveSlot n new t) := .ite (fun _ => set.withRoll _) fun _ => set
  have store : (moveSlot n new t).store = t.store := by unfold moveSlot; split <;> rfl
  have evaluated := moved.evalIfMoved (aboardTotal t.roll)
  have queue := (evalIfMoved_store (aboardTotal t.roll) (moveSlot n new t)).trans store
  rw [changeSlot_eq]
  generalize Machine.evalIfMoved (aboardTotal t.roll) (moveSlot n new t) = u at evaluated queue
  have kept := evaluated.setBefore n (some (t.person n)) { u.roll with
    before := Table.write none n (some (t.person n)) u.roll.before } rfl rfl rfl fun a p e => by
      cases e
      exact (markedOk_iff.1 (h.marked a)).slots n
  exact kept.enqueue _ (by rw [State.withRoll_store, queue]; exact length_of_not_full room) rfl

theorem Beside.endChange (h : Beside s t) (n : Nat) (ok : Bool) : Beside s (endChange n ok t) := by
  unfold Machine.endChange
  split
  · exact h
  · rename_i old image
    have cleared : ∀ x : Nat, Beside s (t.withRoll { t.roll with
        before := Table.write none n none t.roll.before, departures := x }) := fun x =>
      h.setBefore n none _ rfl rfl rfl fun _ _ => nofun
    exact .ite (fun _ => cleared _) fun _ =>
      ((cleared _).setPerson n old fun a => (markedOk_iff.1 (h.marked a)).before n old image).evalIfMoved _

theorem says_answerLane (p : Presentation) (r : Result) (person : Nat) (d : Option Direction) (s : State) :
    Says s (answerLane p r person d s) := says_decide' s p _

theorem says_laneAnomaly (p : Presentation) (r : Result) (person : Nat) (d : Direction) (s : State) :
    Says s (laneAnomaly p r person d s) :=
  ((says_notify s _).trans (says_report _ _ _)).trans (says_answerLane _ _ _ _ _)

theorem Beside.acceptCrossing (h : Beside s t) (p : Presentation) (person : Nat) (d : Direction) (room : ¬ storeFull t = true) :
    Beside s (acceptCrossing p person d t) := by
  refine h.changeSlot person _ _ _ room fun _ marked => ?_
  cases d with
  | inbound => rfl
  | outbound => exact nomatch marked

theorem Beside.crossOutbound (h : Beside s t) (p : Presentation) (person : Nat) : Beside s (crossOutbound p person t) :=
  .ite (fun _ => h.says (says_laneAnomaly _ _ _ _ _)) fun _ => .ite (fun _ => h.says (says_answerLane _ _ _ _ _)) fun _ =>
    .ite (fun _ => h.says (says_answerLane _ _ _ _ _)) fun room => h.acceptCrossing p person .outbound room

theorem Beside.crossInbound (h : Beside s t) (p : Presentation) (person : Nat) : Beside s (crossInbound p person t) :=
  .ite (fun _ => h.says (says_laneAnomaly _ _ _ _ _)) fun _ =>
    .ite (fun _ => (h.says (says_report _ _ _)).says (says_answerLane _ _ _ _ _)) fun _ =>
    .ite (fun _ => h.says (says_answerLane _ _ _ _ _)) fun room => h.acceptCrossing p person .inbound room

theorem Beside.cross (h : Beside s t) (p : Presentation) (person : Nat) : Beside s (cross p person t) := by
  refine .ite (fun _ => h.says (says_answerLane _ _ _ _ _)) fun _ => .ite (fun _ => h.says (says_answerLane _ _ _ _ _)) fun _ => ?_
  split
  · exact h.says (says_answerLane _ _ _ _ _)
  · exact h.crossOutbound p person
  · exact h.crossInbound p person

theorem Beside.decideLane (h : Beside s t) (p : Presentation) (e : CardEntry) : Beside s (decideLane p e t) := by
  refine .ite (fun _ => h.says (says_refuseFor _ _ _ _)) fun _ => ?_
  split
  · exact h.says (says_refuseFor _ _ _ _)
  · exact .ite (fun _ => h.says (says_refuseFor _ _ _ _)) fun _ => .ite (fun _ => h.says (says_refuseFor _ _ _ _)) fun _ =>
      .ite (fun _ => h.says (says_refuseFor _ _ _ _)) fun _ => h.cross p _

theorem Beside.endCrossing (h : Beside s t) (person portal card : Nat) (d : Direction) (late : Bool) (awaits : Option ReqId)
    (ok : Bool) : Beside s (endCrossing person portal card d late awaits ok t) :=
  Beside.says (.ite (fun _ => (h.endChange person ok).says (says_notify _ _)) fun _ => h.endChange person ok)
    (says_replyWaiting _ _ _)

theorem Beside.correctSlot (h : Beside s t) (id : ReqId) (person : Nat) (new : PersonSlot)
    (aboard : t.MarkedAboard → new.mark.isSome = true → new.state = .aboard) : Beside s (correctSlot id person new t) :=
  .ite (fun _ => h.says (says_answer _ _ _ _)) fun room => h.changeSlot person new _ _ room aboard

theorem Beside.endCorrection (h : Beside s t) (person : Nat) (awaits : Option ReqId) (ok : Bool) :
    Beside s (endCorrection person awaits ok t) := (h.endChange person ok).says (says_replyWaiting _ _ _)

theorem says_answerMark (p : Presentation) (r : Result) (person : Nat) (s : State) : Says s (answerMark p r person s) :=
  says_decide' s p _

theorem Beside.markPerson (h : Beside s t) (p : Presentation) (person : Nat) : Beside s (markPerson p person t) := by
  refine .ite (fun _ => h.says (says_answerMark _ _ _ _)) fun listed => .ite (fun _ => h.says (says_answerMark _ _ _ _)) fun _ =>
    .ite (fun _ => h.says (says_answerMark _ _ _ _)) fun _ => .ite (fun _ => h.says (says_answerMark _ _ _ _)) fun room => ?_
  refine h.changeSlot person _ _ _ room fun _ _ => ?_
  by_cases ashore : (t.person person).state = .ashore
  · simp [ashore]
  · cases state : (t.person person).state with
    | unlisted => exact absurd state listed
    | ashore => exact absurd state ashore
    | aboard => simp

theorem Beside.decideMuster (h : Beside s t) (p : Presentation) (e : CardEntry) : Beside s (decideMuster p e t) := by
  refine .ite (fun _ => h.says (says_refuseFor _ _ _ _)) fun _ => ?_
  split
  · exact h.says (says_refuseFor _ _ _ _)
  · exact .ite (fun _ => h.says (says_refuseFor _ _ _ _)) fun _ => h.markPerson p _

theorem Beside.endMark (h : Beside s t) (person portal card : Nat) (ashore : Bool) (awaits : Option ReqId) (ok : Bool) :
    Beside s (endMark person portal card ashore awaits ok t) :=
  Beside.says (.ite (fun _ => ((h.endChange person ok).says (says_notify _ _)).says (says_report _ _ _))
    fun _ => h.endChange person ok) (says_replyWaiting _ _ _)

theorem Beside.endSlotWrite (h : Beside s t) (person : Nat) (cause : SlotCause) (awaits : Option ReqId) (ok : Bool) :
    Beside s (endSlotWrite person cause awaits ok t) := by
  cases cause with
  | crossing => exact h.endCrossing _ _ _ _ _ _ _
  | correction => exact h.endCorrection _ _ _
  | mark => exact h.endMark _ _ _ _ _ _

theorem Beside.capacitySet (h : Beside s t) (limit level hysteresis : Nat) (id : ReqId) :
    Beside s (capacitySet limit level hysteresis id t) :=
  .ite (fun _ => h.says (says_answer _ _ _ _)) fun _ => (h.withRoll _).evalWarning.says (says_answer _ _ _ _)

theorem Beside.takeDeadline (h : Beside s t) : Beside s (takeDeadline t) :=
  .ite (fun _ => (h.withRoll _).says (says_notify _ _)) fun _ => h

theorem Beside.deadlineSet (h : Beside s t) (deadline : Option Nat) (id : ReqId) : Beside s (deadlineSet deadline id t) :=
  (h.withRoll _).takeDeadline.says (says_answer _ _ _ _)

/-- The checks that the three requests of section 4.5 share, ahead of what the request does. -/
theorem Beside.correcting (h : Beside s t) (valid : Bool) (person : Nat) (id : ReqId) {act : State → State}
    (does : Beside s (act t)) : Beside s (correcting valid person id act t) :=
  .ite (fun _ => h.says (says_answer _ _ _ _)) fun _ => .ite (fun _ => h.says (says_answer _ _ _ _)) fun _ => does

theorem Beside.ifRoom (h : Beside s t) (boards : Bool) (person : Nat) (id : ReqId) (new : PersonSlot)
    (aboard : t.MarkedAboard → new.mark.isSome = true → new.state = .aboard) : Beside s (ifRoom boards person id new t) :=
  .ite (fun _ => (h.says (says_report _ _ _)).says (says_answer _ _ _ _)) fun _ => h.correctSlot id person new aboard

theorem Beside.enrol (h : Beside s t) (person kind state : Nat) (id : ReqId) : Beside s (enrol person kind state id t) := by
  unfold Machine.enrol
  split
  · exact h.correcting _ _ _ (.ite (fun _ => h.says (says_answer _ _ _ _)) fun _ => h.ifRoom _ _ _ _ fun _ => nofun)
  · exact h.says (says_answer _ _ _ _)

theorem Beside.discharge (h : Beside s t) (person : Nat) (id : ReqId) : Beside s (discharge person id t) :=
  h.correcting _ _ _ (.ite (fun _ => h.says (says_answer _ _ _ _)) fun _ => .ite (fun _ => h.says (says_answer _ _ _ _)) fun _ =>
    h.correctSlot _ _ _ fun _ => nofun)

theorem listedState_ne {n : Nat} {st : PersonState} (h : listedState n = some st) : st = .aboard ∨ st = .ashore := by
  unfold listedState at h
  split at h
  · exact .inl (Option.some.inj h).symm
  · exact .inr (Option.some.inj h).symm
  all_goals exact nomatch h

theorem Beside.presenceSet (h : Beside s t) (person state : Nat) (id : ReqId) : Beside s (presenceSet person state id t) := by
  unfold Machine.presenceSet
  split
  · exact h.says (says_answer _ _ _ _)
  · rename_i st listed
    refine h.correcting _ _ _ (.ite (fun _ => h.says (says_answer _ _ _ _)) fun _ => .ite (fun _ => h.says (says_answer _ _ _ _))
      fun _ => h.ifRoom _ _ _ _ fun _ marked => ?_)
    rcases listedState_ne listed with rfl | rfl
    · rfl
    · exact nomatch marked

end PresenceRoll

end Sys2Proof.Machine

namespace Sys2Proof.Machine

open Sys2Proof

/-! ## Emergency and muster (chapter 5) -/

section EmergencyUnit

variable {s t : State}

/-- A slot without its mark (R109, R110). -/
def PersonSlot.unmarked (p : PersonSlot) : PersonSlot := { p with mark := none }

theorem clearMarks_roll (s : State) : (clearMarks s).roll = { s.roll with
    slots := Table.update defaultSlot PersonSlot.unmarked s.roll.slots
    before := Table.update none (·.map PersonSlot.unmarked) s.roll.before } := rfl

theorem clearMarks_rollCounted (a : s.RollCounted) : (clearMarks s).RollCounted := by
  obtain ⟨wf, counted⟩ := rollCounted_iff.1 a
  refine rollCounted_iff.2 ⟨Table.wf_update PersonSlot.unmarked wf, fun st k listed => (counted st k listed).trans ?_⟩
  rw [clearMarks_roll, Table.tally_update (isOf_default listed)]
  rfl

theorem tally_unmarked (f : PersonSlot → Bool) (off : ∀ p, f (PersonSlot.unmarked p) = false) (hd : f defaultSlot = false)
    (t : Table PersonSlot) : (Table.update defaultSlot PersonSlot.unmarked t).tally f = 0 := by
  rw [Table.tally_update hd, Table.tally, List.filter_eq_nil_iff.2 fun p _ => by simp [off], List.length_nil]

theorem clearMarks_musterCounted (a : s.MusterCounted) : (clearMarks s).MusterCounted where
  canonical := Table.wf_update PersonSlot.unmarked a.canonical
  counters := rfl
  stations k := (tally_unmarked (fun p => decide (p.mark = some k)) (fun _ => rfl) rfl s.roll.slots).symm
  mustered := (tally_unmarked (fun p => p.mark.isSome) (fun _ => rfl) rfl s.roll.slots).symm

theorem clearMarks_markedAboard : (clearMarks s).MarkedAboard where
  slots n marked := by
    have unmarked : ((clearMarks s).person n).mark = none := by
      rcases Table.read_mem defaultSlot (clearMarks s).roll.slots n with e | e
      · exact congrArg PersonSlot.mark e
      · obtain ⟨p, _, hp⟩ := List.mem_map.1 (List.mem_filter.1 e).1
        exact (congrArg (fun x : Nat × PersonSlot => x.2.mark) hp).symm
    rw [unmarked] at marked
    exact nomatch marked
  before n p image marked := by
    rcases Table.read_mem none (clearMarks s).roll.before n with e | e
    · exact nomatch e.symm.trans image
    · obtain ⟨q, _, hq⟩ := List.mem_map.1 (List.mem_filter.1 e).1
      have hq : q.2.map PersonSlot.unmarked = some p := (congrArg Prod.snd hq).trans image
      obtain ⟨x, _, rfl⟩ := Option.map_eq_some_iff.1 hq
      exact nomatch marked

theorem Beside.clearMarks (h : Beside s t) : Beside s (clearMarks t) :=
  { h with
    roll := fun a => rollOk_iff.2 (clearMarks_rollCounted (rollOk_iff.1 (h.roll a)))
    muster := fun a => musterOk_iff.2 (clearMarks_musterCounted (musterOk_iff.1 (h.muster a)))
    marked := fun _ => markedOk_iff.2 clearMarks_markedAboard
    wf := fun a => wf_iff.2 (by
      have c := wf_iff.1 (h.wf a)
      exact { c with
        slots := Table.wf_update PersonSlot.unmarked c.slots
        before := Table.wf_update (Option.map PersonSlot.unmarked) c.before
        stations := rfl }) }

theorem Beside.queueRecord (h : Beside s t) : Beside s (queueRecord t) :=
  .ite (fun _ => h.withEmu _) fun _ => .ite (fun _ => (h.withEmu _).withEmu _) fun room =>
    ((h.withEmu _).withEmu _).enqueue .muster (length_of_not_full room) rfl

theorem says_tellMuster (s : State) : Says s (tellMuster s) := says_notify s _

theorem Beside.startMuster (h : Beside s t) (cause : MusterCause) (awaits : Option ReqId) :
    Beside s (startMuster cause awaits t) := (h.clearMarks.withEmu _).queueRecord.says (says_tellMuster _)

theorem Beside.endMuster (h : Beside s t) (id : ReqId) : Beside s (endMuster id t) :=
  (h.clearMarks.withEmu _).queueRecord.says (says_tellMuster _)

theorem Beside.answerCarried (h : Beside s t) (stored : Bool) : Beside s (answerCarried stored t) :=
  (h.withEmu _).foldl (fun _ _ k => k.says (says_answer _ _ _ _)) _

theorem Beside.endRecordWrite (h : Beside s t) (written : MusterRecord) (ok : Bool) : Beside s (endRecordWrite written ok t) :=
  .ite (fun _ => (h.answerCarried ok).queueRecord) fun _ => .ite (fun _ => (h.answerCarried ok).withEmu _)
    fun _ => (h.answerCarried ok).withEmu _

theorem Beside.retryRecord (h : Beside s t) : Beside s (retryRecord t) := by
  unfold Machine.retryRecord
  split
  · exact h
  · exact ((h.reachTime _).withEmu _).queueRecord

theorem says_tellEmergency (s : State) : Says s (tellEmergency s) := says_notify s _

theorem Beside.conditionRises (h : Beside s t) : Beside s (conditionRises t) := by
  have doors : Beside s _ := ((h.withEmu { t.emu with condition := true, latch := true }).says (says_tellEmergency _)).foldl
    (fun _ n k => k.enterEmergency true n) (doorsToEnter (tellEmergency (t.withEmu { t.emu with condition := true, latch := true })))
  exact .ite (fun _ => doors.startMuster .alarm none) fun _ => doors

theorem Beside.conditionFalls (h : Beside s t) : Beside s (conditionFalls t) :=
  ((h.withEmu _).says (says_tellEmergency _)).foldl (fun _ n k => k.resumeDoor n) _

theorem Beside.evalCondition (h : Beside s t) : Beside s (evalCondition t) :=
  .ite (fun _ => h) fun _ => .ite (fun _ => h.conditionRises) fun _ => h.conditionFalls

theorem Beside.setLine (h : Beside s t) (l : AlarmLine) (f : LineFilter) : Beside s (t.withEmu (t.emu.setLine l f)) := by
  cases l <;> exact h.withEmu _

theorem Beside.settleLine (h : Beside s t) (l : AlarmLine) : Beside s (settleLine l t) := .ite (fun _ => h.setLine l _) fun _ => h

theorem Beside.takeLine (h : Beside s t) (l : AlarmLine) : Beside s (takeLine l t) :=
  .ite (fun _ => (h.settleLine l).evalCondition) fun _ => h

theorem Beside.alarmLineChange (h : Beside s t) (l : AlarmLine) (high : Bool) : Beside s (alarmLineChange l high t) :=
  .ite (fun _ => ((h.takeLine l).setLine l _).takeLine l) fun _ => h.setLine l _

theorem Beside.debounceExpiry (h : Beside s t) (l : AlarmLine) : Beside s (debounceExpiry l t) := by
  unfold Machine.debounceExpiry
  split
  · exact h
  · exact (h.reachTime _).takeLine l

theorem Beside.alarmSet (h : Beside s t) (enableA enableB debounce startsMuster : Nat) (id : ReqId) :
    Beside s (alarmSet enableA enableB debounce startsMuster id t) := by
  unfold Machine.alarmSet
  split
  · exact (((h.withEmu _).settleLine .ema).settleLine .emb).evalCondition.says (says_answer _ _ _ _)
  · exact h.says (says_answer _ _ _ _)

theorem Beside.emergencyDeclare (h : Beside s t) (value : Nat) (id : ReqId) : Beside s (emergencyDeclare value id t) := by
  unfold Machine.emergencyDeclare
  split
  · exact h.says (says_answer _ _ _ _)
  · exact (h.withEmu _).evalCondition.says (says_answer _ _ _ _)

theorem Beside.emergencyClear (h : Beside s t) (id : ReqId) : Beside s (emergencyClear id t) :=
  .ite (fun _ => h.says (says_answer _ _ _ _)) fun _ =>
    .ite (fun _ => ((h.withEmu _).says (says_tellEmergency _)).says (says_answer _ _ _ _)) fun _ => h.says (says_answer _ _ _ _)

theorem Beside.resume (h : Beside s t) (scope n : Nat) (id : ReqId) : Beside s (resume scope n id t) := by
  have one : Beside s (resumeOne n id t) :=
    .ite (fun _ => h.says (says_answer _ _ _ _)) fun _ => .ite (fun _ => h.says (says_answer _ _ _ _)) fun _ =>
      (h.resumeDoor n).says (says_answer _ _ _ _)
  have all : Beside s (resumeAll id t) := (h.foldl (fun _ n k => k.resumeDoor n) _).says (says_answer _ _ _ _)
  exact .ite (fun _ => h.says (says_answer _ _ _ _)) fun _ => .ite (fun _ => h.says (says_answer _ _ _ _)) fun _ =>
    .ite (fun _ => one) fun _ => all

theorem Beside.musterStart (h : Beside s t) (id : ReqId) : Beside s (musterStart id t) :=
  .ite (fun _ => h.says (says_answer _ _ _ _)) fun _ => h.startMuster .host (some id)

theorem Beside.musterEnd (h : Beside s t) (id : ReqId) : Beside s (musterEnd id t) :=
  .ite (fun _ => h.says (says_answer _ _ _ _)) fun _ => .ite (fun _ => h.says (says_answer _ _ _ _)) fun _ => h.endMuster id

end EmergencyUnit

/-! ## The voyage day (chapter 2) -/

section VoyageDay

variable {s t : State}

theorem Beside.queueDay (h : Beside s t) : Beside s (queueDay t) :=
  .ite (fun _ => h) fun _ => .ite (fun _ => h.withClock _) fun room => (h.withClock _).enqueue .day (length_of_not_full room) rfl

theorem Beside.retryDay (h : Beside s t) : Beside s (retryDay t) := by
  unfold Machine.retryDay
  split
  · exact h
  · exact ((h.reachTime _).withClock _).queueDay

theorem Beside.endDayWrite (h : Beside s t) (written : Nat) (ok : Bool) : Beside s (endDayWrite written ok t) :=
  .ite (fun _ => .ite (fun _ => h.withClock _) fun _ => h.queueDay) fun _ => h.withClock _

theorem Beside.activateTariff (h : Beside s t) : Beside s (activateTariff t).2 := by
  unfold Machine.activateTariff
  split
  · exact h.withPurse _
  · exact h

theorem Beside.evaluateDay (h : Beside s t) : Beside s (evaluateDay t) :=
  .ite (fun _ => (((h.withClock _).activateTariff.says (says_notify _ _)).withClock _).queueDay) fun _ => h

theorem Beside.rolloverSet (h : Beside s t) (offset : Nat) (id : ReqId) : Beside s (rolloverSet offset id t) :=
  .ite (fun _ => h.says (says_answer _ _ _ _)) fun _ => (h.withClock _).evaluateDay.says (says_answer _ _ _ _)

end VoyageDay

/-! ## The link, the recorder, the settings and the settlement's start -/

section Others

variable {s t : State}

theorem Beside.withFrc (h : Beside s t) (x : Recorder) (sound : t.RecorderSound → (t.withFrc x).RecorderSound) :
    Beside s (t.withFrc x) :=
  { h with recorder := fun a => recorderOk_iff.2 (sound (recorderOk_iff.1 (h.recorder a))) }

theorem Beside.severitySet (h : Beside s t) (kind severity : Nat) (id : ReqId) : Beside s (severitySet kind severity id t) := by
  unfold Machine.severitySet
  split
  · rename_i k v _ _
    refine (h.withFrc { t.frc with rows := t.frc.rows.set k.row { t.frc.rowOf k with severity := v } } fun a =>
      ⟨by simpa using a.rows, fun row hr => ?_, a.capture⟩).says (says_answer _ _ _ _)
    rcases List.mem_or_eq_of_mem_set hr with old | rfl
    · exact a.counts row old
    · by_cases inRange : k.row < t.frc.rows.length
      · have : t.frc.rowOf k = t.frc.rows[k.row] := by simp [Recorder.rowOf, inRange]
        simpa [this] using a.counts _ (List.getElem_mem inRange)
      · have : t.frc.rowOf k = noFaultRow := by
          simp only [Recorder.rowOf, List.getD_eq_getElem?_getD, List.getElem?_eq_none (Nat.le_of_not_lt inRange), Option.getD_none]
        simp [this, noFaultRow]
  · exact h.says (says_answer _ _ _ _)

theorem Beside.faultClear (h : Beside s t) (id : ReqId) : Beside s (faultClear id t) := by
  refine (h.withFrc t.frc.emptied fun a => ⟨by simpa [Recorder.emptied] using a.rows, fun row hr => ?_,
    by simp [Recorder.emptied]⟩).says (says_answer _ _ _ _)
  obtain ⟨old, _, rfl⟩ := List.mem_map.1 hr
  exact Nat.zero_le _

theorem Beside.settle (h : Beside s t) (seq : Nat) (id : ReqId) : Beside s (settle seq id t) := by
  refine .ite (fun _ => h.says (says_answer _ _ _ _)) fun _ => ?_
  split
  · exact h.says (says_answer _ _ _ _)
  · exact .ite (fun _ => h.says (says_answer _ _ _ _)) fun room => (h.withJournal _).enqueue _ (length_of_not_full room) rfl

theorem Beside.failSettle (h : Beside s t) (awaits : Option ReqId) : Beside s (failSettle awaits t) :=
  (h.withJournal _).says (says_replyWaiting _ _ _)

theorem Beside.tariffStage (h : Beside s t) (x : Tariff) (applyNow : Nat) (id : ReqId) : Beside s (tariffStage x applyNow id t) := by
  unfold Machine.tariffStage
  split
  · exact h.says (says_answer _ _ _ _)
  · split
    · exact h.says (says_answer _ _ _ _)
    · refine (h.withPurse _ ?_ ?_).says (says_answer _ _ _ _) <;> split <;> rfl

theorem Beside.startTx (h : Beside s t) : Beside s (startTx t) := by
  unfold Machine.startTx
  split
  · rename_i go
    simp only [Bool.and_eq_true, Bool.not_eq_true', List.isEmpty_eq_false_iff] at go
    exact { h with
      link := fun a => linkOk_iff.2 (by
        have b := linkOk_iff.1 (h.link a)
        exact ⟨b.1, b.2, b.3, b.4, b.5, fun _ => go.1.1.2⟩) }
  · exact h

/-- A tag that is taken off the link is no longer in use; the others stand. -/
theorem tags_erase {l m : Link} (o : m.outstanding.Sublist l.outstanding) (b : m.busy.Sublist l.busy) :
    m.tags.Sublist l.tags := (o.append b).map _

theorem State.LinkBounded.afterFrame {s : State} (a : s.LinkBounded) : (s.withLink s.link.afterFrame).LinkBounded := by
  have still : ∀ m : Link, m.outstanding.Sublist s.link.outstanding → m.busy.Sublist s.link.busy →
      noticesWaiting m.tx ≤ noticesWaiting s.link.tx → m.sending = false → (s.withLink m).LinkBounded := fun m o b n off =>
    ⟨o.length_le.trans a.1, b.length_le.trans a.2, n.trans a.3, (tags_erase o b).nodup a.4, fun z => a.5 ((tags_erase o b).subset z),
      fun on => nomatch off.symm.trans on⟩
  have fewer (f : Frame) (rest : List Frame) : noticesWaiting rest ≤ noticesWaiting (f :: rest) := by
    rw [show f :: rest = [f] ++ rest from rfl, noticesWaiting_append]; omega
  unfold Link.afterFrame
  dsimp only
  split
  · rename_i id b sent rest htx
    split
    · exact still _ (.refl _) (.refl _) (by rw [htx]; rfl) rfl
    · exact still _ (List.erase_sublist) (.refl _) (htx ▸ fewer _ _) rfl
  · rename_i id rest htx
    exact still _ (.refl _) List.erase_sublist (htx ▸ fewer _ _) rfl
  · rename_i n rest htx
    exact still _ (.refl _) (.refl _) (htx ▸ fewer _ _) rfl
  · exact still _ (.refl _) (.refl _) Nat.le.refl rfl

theorem Beside.frameSent (h : Beside s t) : Beside s (frameSent t) := by
  have after : Beside s (t.withLink t.link.afterFrame) :=
    { h with link := fun a => linkOk_iff.2 (linkOk_iff.1 (h.link a)).afterFrame }
  exact .ite (fun _ => after.startTx) fun _ => h

theorem Beside.holdLineChange (h : Beside s t) (high : Bool) : Beside s (holdLineChange high t) := by
  have pins : Beside s { t with pins := { t.pins with holdHigh := high } } := { h with }
  exact .ite (fun _ => pins.startTx) fun _ => pins

theorem Beside.abandonFrame (h : Beside s t) (bytes : List Byte) : Beside s (abandonFrame bytes t) :=
  .ite (fun _ => (h.withLink _).says (says_report _ _ _)) fun _ => h

theorem Beside.frameDiscarded (h : Beside s t) : Beside s (frameDiscarded t) :=
  .ite (fun _ => (h.withLink _).says (says_report _ _ _)) fun _ => h

theorem Beside.resetAsserted (h : Beside s t) : Beside s (resetAsserted t) :=
  { h with
    link := fun a => linkOk_iff.2 (by
      have b := linkOk_iff.1 (h.link a)
      exact ⟨b.1, b.2, b.3, b.4, b.5, nofun⟩) }

end Others

end Sys2Proof.Machine

namespace Sys2Proof.Machine

open Sys2Proof

/-! ## Bounds of the card table (R1, R15, R22) -/

section Bounds

variable {s : State} {set w : Nat}

/-- Whether a way of a set has a valid resident entry. -/
def residentAt (s : State) (set v : Nat) : Bool := (s.entry set v).any (·.resident)

theorem residents_eq (s : State) (set : Nat) : residents s set =
    (residentAt s set 0).toNat + (residentAt s set 1).toNat + (residentAt s set 2).toNat + (residentAt s set 3).toNat := by
  have four : List.range 4 = [0, 1, 2, 3] := rfl
  have one (p : Nat → Bool) (n : Nat) (l : List Nat) : ((n :: l).filter p).length = (p n).toNat + (l.filter p).length := by
    cases h : p n <;> simp [h, Nat.add_comm]
  change ((List.range 4).filter (residentAt s set)).length = _
  rw [four, one, one, one, one, List.filter_nil, List.length_nil]
  omega

/-- What may stand at a place of a set: no card that another way has, and no fourth resident. -/
structure Fits (s : State) (set w : Nat) (e : CardEntry) : Prop where
  alone : ∀ v < 4, v ≠ w → ∀ y, s.entry set v = some y → y.card ≠ e.card
  resident : e.resident = true → residents s set < 3 ∨ residentAt s set w = true

theorem State.TableBounded.setEntry (a : s.TableBounded) (hw : w < 4) {x : Option CardEntry} (fits : ∀ e, x = some e → Fits s set w e) :
    (s.setEntry set w x).TableBounded where
  one set' v hv v' hv' e e' he he' card := by
    rw [State.setEntry_entry _ _ _ _ _ _ hw hv] at he
    rw [State.setEntry_entry _ _ _ _ _ _ hw hv'] at he'
    by_cases p : set' = set ∧ v = w <;> by_cases p' : set' = set ∧ v' = w
    · exact p.2.trans p'.2.symm
    · rw [if_pos p] at he
      rw [if_neg p', p.1] at he'
      exact absurd card.symm ((fits e he).alone v' hv' (fun h => p' ⟨p.1, h⟩) e' he')
    · rw [if_neg p, p'.1] at he
      rw [if_pos p'] at he'
      exact absurd card ((fits e' he').alone v hv (fun h => p ⟨p'.1, h⟩) e he)
    · rw [if_neg p] at he
      rw [if_neg p'] at he'
      exact a.one set' v hv v' hv' e e' he he' card
  residents set' := by
    have at' (v : Nat) (hv : v < 4) : residentAt (s.setEntry set w x) set' v =
        if set' = set ∧ v = w then x.any (·.resident) else residentAt s set' v := by
      unfold residentAt
      rw [State.setEntry_entry _ _ _ _ _ _ hw hv]
      split <;> rfl
    change Machine.residents (s.setEntry set w x) set' ≤ 3
    have old : Machine.residents s set' ≤ 3 := a.residents set'
    rw [residents_eq] at old
    rw [residents_eq, at' 0 (by omega), at' 1 (by omega), at' 2 (by omega), at' 3 (by omega)]
    by_cases same : set' = set
    · subst same
      have bound : x.any (·.resident) = true → Machine.residents s set' < 3 ∨ residentAt s set' w = true := by
        cases x with
        | none => exact nofun
        | some e => exact (fits e rfl).resident
      rw [residents_eq] at bound
      have b0 := Bool.toNat_le (residentAt s set' 0)
      have b1 := Bool.toNat_le (residentAt s set' 1)
      have b2 := Bool.toNat_le (residentAt s set' 2)
      have b3 := Bool.toNat_le (residentAt s set' 3)
      cases hx : x.any (·.resident) with
      | false => rcases lt4_cases hw with rfl | rfl | rfl | rfl <;> simp <;> omega
      | true =>
        rcases bound hx with few | there
        · rcases lt4_cases hw with rfl | rfl | rfl | rfl <;> simp <;> omega
        · rcases lt4_cases hw with rfl | rfl | rfl | rfl <;> rw [there] at old <;> simp at old ⊢ <;> omega
    · simpa [same] using old
  fetches := a.fetches

theorem State.TableBounded.setFetch (a : s.TableBounded) (n : Nat) {f : Option Fetch}
    (alone : ∀ g, f = some g → ∀ m < 16, m ≠ n → ∀ x, s.fetch m = some x → x.card ≠ g.card) : (s.setFetch n f).TableBounded where
  one := a.one
  residents := a.residents
  fetches m hm k hk x y hx hy card := by
    rw [State.setFetch_fetch] at hx hy
    by_cases p : m = n <;> by_cases q : k = n
    · rw [p, q]
    · rw [if_pos p] at hx
      rw [if_neg q] at hy
      exact absurd card.symm (alone x hx k hk q y hy)
    · rw [if_neg p] at hx
      rw [if_pos q] at hy
      exact absurd card (alone y hy m hm p x hx)
    · rw [if_neg p] at hx
      rw [if_neg q] at hy
      exact a.fetches m hm k hk x y hx hy card

end Bounds

/-! ## What the card table's operations touch -/

/-- The tables of CTB in the canonical form. -/
def CardsWf (x : Cards) : Prop :=
  Table.wf none x.entries = true ∧ Table.wf 0 x.pointers = true ∧ Table.wf defaultWay x.ways = true ∧ Table.wf none x.fetches = true

/-- From `s` to `t` the card table changes within its bounds, frames are composed and faults reported, and nothing else. -/
structure Tabled (s t : State) : Prop where
  shape : ∃ c, Tells (s.withCards c) t
  link : LinkOk s.link → LinkOk t.link
  recorder : RecorderOk s.frc → RecorderOk t.frc
  table : TableOk s.cards → TableOk t.cards
  wf : CardsWf s.cards → CardsWf t.cards

section Tables

variable {s t u : State}

theorem Tabled.refl (s : State) : Tabled s s := ⟨⟨s.cards, s.link, s.frc, rfl⟩, id, id, id, id⟩

theorem Tabled.trans (h : Tabled s t) (k : Tabled t u) : Tabled s u := by
  obtain ⟨⟨c, l, r, rfl⟩, a, b, d, e⟩ := h
  obtain ⟨⟨c', l', r', rfl⟩, a', b', d', e'⟩ := k
  exact ⟨⟨c', l', r', rfl⟩, a' ∘ a, b' ∘ b, d' ∘ d, e' ∘ e⟩

theorem Tabled.keeps (h : Tabled s t) : Keeps s t := by
  obtain ⟨⟨c, l, r, rfl⟩, a, b, d, e⟩ := h
  exact { Keeps.refl s with
    link := a
    recorder := b
    table := d
    wf := fun w => wf_iff.2 (by
      have c := wf_iff.1 w
      obtain ⟨entries, pointers, ways, fetches⟩ := e ⟨c.entries, c.pointers, c.ways, c.fetches⟩
      exact { c with entries := entries, pointers := pointers, ways := ways, fetches := fetches }) }

/-- An operation of the card table that keeps the hold counts keeps the books. -/
theorem Tabled.keepsBooks (h : Tabled s t) (holds : s.TableBounded → s.HoldsCounted → t.HoldsCounted) : KeepsBooks s t where
  toKeeps := h.keeps
  holds _ a b := holdsOk_iff.2 (holds (tableOk_iff.1 a) (holdsOk_iff.1 b))
  money _ a := by
    obtain ⟨⟨c, l, r, rfl⟩, _⟩ := h
    exact a
  room _ _ a := by
    obtain ⟨⟨c, l, r, rfl⟩, _⟩ := h
    exact a

theorem Tabled.setFetch (h : Tabled s t) (n : Nat) (f : Option Fetch)
    (alone : t.TableBounded → ∀ g, f = some g → ∀ m < 16, m ≠ n → ∀ x, t.fetch m = some x → x.card ≠ g.card) :
    Tabled s (t.setFetch n f) :=
  h.trans ⟨⟨(t.setFetch n f).cards, t.link, t.frc, rfl⟩, id, id,
    fun a => tableOk_iff.2 ((tableOk_iff.1 a).setFetch n (alone (tableOk_iff.1 a))),
    fun ⟨a, b, c, d⟩ => ⟨a, b, c, Table.wf_write _ _ d⟩⟩

theorem Tabled.setPointer (h : Tabled s t) (set p : Nat) : Tabled s (t.setPointer set p) :=
  h.trans ⟨⟨(t.setPointer set p).cards, t.link, t.frc, rfl⟩, id, id, fun a => tableOk_iff.2 ((tableOk_iff.1 a).congr rfl rfl),
    fun ⟨a, b, c, d⟩ => ⟨a, Table.wf_write _ _ b, c, d⟩⟩

end Tables

/-! ## What a read of the table touches (R3 to R6, R9, R21) -/

/-- Notices join the transmit queue of a link, whose flags may change; nothing else of it does. -/
structure Notified (l m : Link) : Prop where
  tx : ∃ ns : List Notice, m.tx = l.tx ++ ns.map Frame.notice
  rest : (m.rx, m.outstanding, m.busy, m.busySent, m.discarded, m.framesSent, m.straps) =
    (l.rx, l.outstanding, l.busy, l.busySent, l.discarded, l.framesSent, l.straps)

/-- From `s` to `t` notices are sent and faults reported, and nothing else. -/
structure Notes (s t : State) : Prop extends Says s t where
  notified : Notified s.link t.link

/-- From `s` to `t` entries of the card table and the health of its ways change within the table's bounds, notices are sent and
faults reported, and nothing else. -/
structure Checked (s t : State) : Prop where
  shape : ∃ entries ways l r, t = ((s.withCards { s.cards with entries := entries, ways := ways }).withLink l).withFrc r
  notified : Notified s.link t.link
  link : LinkOk s.link → LinkOk t.link
  recorder : RecorderOk s.frc → RecorderOk t.frc
  table : TableOk s.cards → TableOk t.cards
  wf : CardsWf s.cards → CardsWf t.cards

section Checks

variable {s t u : State}

theorem Notified.refl (l : Link) : Notified l l := ⟨⟨[], (List.append_nil _).symm⟩, rfl⟩

theorem Notified.trans {l m n : Link} (h : Notified l m) (k : Notified m n) : Notified l n := by
  obtain ⟨⟨ns, a⟩, c⟩ := h
  obtain ⟨⟨ms, b⟩, d⟩ := k
  exact ⟨⟨ns ++ ms, by rw [b, a, List.map_append, List.append_assoc]⟩, d.trans c⟩

theorem notified_transmits (s : State) (n : Notice) : Notified s.link (s.transmits [.notice n]).link := ⟨⟨[n], rfl⟩, rfl⟩

theorem notes_report (s : State) (k : FaultKind) (f : FaultFields) : Notes s (report k f s) := by
  refine { says_report s k f with notified := ?_ }
  by_cases alert : (s.frc.rowOf k).severity = .alert
  · by_cases room : s.NoticeRoom 1
    · rw [report_alert s k f alert room]
      exact notified_transmits (s.withFrc (s.frc.take k f s.clock.shipTime)) _
    · rw [report_alert_full s k f alert room]
      exact ⟨⟨[], (List.append_nil _).symm⟩, rfl⟩
  · rw [report_quiet s k f alert]
    exact .refl _

theorem notes_notify (s : State) (n : Notice) : Notes s (notify n s) := by
  refine { says_notify s n with notified := ?_ }
  by_cases room : s.NoticeRoom 1
  · rw [notify_room s n room]
    exact notified_transmits s n
  · rw [notify_full s n room]
    have flag : Notified s.link (s.withLink { s.link with noticesLost := true }).link := ⟨⟨[], (List.append_nil _).symm⟩, rfl⟩
    exact flag.trans (notes_report _ .noticeLost {}).notified

theorem Checked.refl (s : State) : Checked s s := ⟨⟨s.cards.entries, s.cards.ways, s.link, s.frc, rfl⟩, .refl _, id, id, id, id⟩

theorem Checked.trans (h : Checked s t) (k : Checked t u) : Checked s u := by
  obtain ⟨⟨x, y, l, r, rfl⟩, n, a, b, d, e⟩ := h
  obtain ⟨⟨x', y', l', r', rfl⟩, n', a', b', d', e'⟩ := k
  exact ⟨⟨x', y', l', r', rfl⟩, n.trans n', a' ∘ a, b' ∘ b, d' ∘ d, e' ∘ e⟩

theorem Checked.tabled (h : Checked s t) : Tabled s t := by
  obtain ⟨⟨x, y, l, r, rfl⟩, _, a, b, d, e⟩ := h
  exact ⟨⟨{ s.cards with entries := x, ways := y }, l, r, rfl⟩, a, b, d, e⟩

theorem Tabled.checked (h : Tabled s t) (x : Checked t u) : Tabled s u := h.trans x.tabled

theorem Checked.notes (h : Checked s t) (x : Notes t u) : Checked s u := by
  refine h.trans ?_
  obtain ⟨⟨⟨l, r, rfl⟩, a, b⟩, n⟩ := x
  exact ⟨⟨t.cards.entries, t.cards.ways, l, r, rfl⟩, n, a, b, id, id⟩

theorem Checked.ite {c : Prop} [Decidable c] {a b : State} (ha : c → Checked s a) (hb : ¬ c → Checked s b) :
    Checked s (if c then a else b) := by
  split
  · exact ha ‹_›
  · exact hb ‹_›

theorem Checked.foldl {α : Type} {f : State → α → State} (h : Checked s t) (xs : List α)
    (step : ∀ u, ∀ a ∈ xs, Checked s u → Checked s (f u a)) : Checked s (xs.foldl f t) :=
  List.foldlRecOn xs f h fun u k a ha => step u a ha k

theorem Checked.setEntry (h : Checked s t) {set w : Nat} (hw : w < 4) (x : Option CardEntry)
    (fits : t.TableBounded → ∀ e, x = some e → Fits t set w e) : Checked s (t.setEntry set w x) :=
  h.trans ⟨⟨(t.setEntry set w x).cards.entries, t.cards.ways, t.link, t.frc, rfl⟩, .refl _, id, id,
    fun a => tableOk_iff.2 ((tableOk_iff.1 a).setEntry hw (fits (tableOk_iff.1 a))),
    fun ⟨a, b, c, d⟩ => ⟨Table.wf_write _ _ a, b, c, d⟩⟩

theorem Checked.setWay (h : Checked s t) (w : Nat) (x : WayHealth) : Checked s (t.setWay w x) :=
  h.trans ⟨⟨t.cards.entries, (t.setWay w x).cards.ways, t.link, t.frc, rfl⟩, .refl _, id, id,
    fun a => tableOk_iff.2 ((tableOk_iff.1 a).congr rfl rfl), fun ⟨a, b, c, d⟩ => ⟨a, b, Table.wf_write _ _ c, d⟩⟩

/-! ### Entries written and leaving (R2, R14) -/

/-- A write of an entry keeps its card, and makes no fourth resident. -/
theorem Checked.writeEntry (h : Checked s t) {set w : Nat} (hw : w < 4) (f : CardEntry → CardEntry)
    (card : ∀ e, t.entry set w = some e → (f (e.refresh t.clock.day)).card = e.card)
    (resident : ∀ e, t.entry set w = some e → (f (e.refresh t.clock.day)).resident = true → e.resident = true ∨ residents t set < 3) :
    Checked s (writeEntry set w f t) := by
  cases he : t.entry set w with
  | none => rw [writeEntry_none f he]; exact h
  | some e =>
    rw [writeEntry_some f he]
    refine h.setEntry hw _ fun a y hy => ?_
    cases hy
    refine ⟨fun v hv ne y hy same => ne (a.one set v hv w hw y e hy he (same.trans (card e he))), fun on => ?_⟩
    refine (resident e he on).symm.imp_right fun old => ?_
    simp [residentAt, he, old]

theorem Checked.leaveTable (h : Checked s t) {set w : Nat} (hw : w < 4) : Checked s (leaveTable set w t) := by
  cases he : t.entry set w with
  | none => rw [leaveTable_none he]; exact h
  | some e =>
    rw [leaveTable_some he]
    exact Checked.setEntry (.ite (fun _ => h.notes (notes_notify _ _)) fun _ => h) hw none fun _ _ => nofun

/-! ### Failed checks and retirement (R5, R6, R9) -/

theorem answersFor_may {set w c : Nat} {e : CardEntry} (x : answersFor set w e t = some c) : mayAnswerFor set w t c = true := by
  unfold answersFor at x
  split at x
  · rename_i may
    cases x; exact may
  · exact (List.mem_filter.1 (List.min?_mem x)).2

theorem Checked.settleFailed (h : Checked s t) {set w : Nat} (hw : w < 4) (e : CardEntry) : Checked s (settleFailed set w e t) := by
  refine h.setEntry hw _ fun _ y hy => ?_
  obtain ⟨c, hc, rfl⟩ := Option.map_eq_some_iff.1 hy
  have may := answersFor_may hc
  simp only [mayAnswerFor, Bool.and_eq_true, Bool.not_eq_true', List.any_eq_false, List.mem_range] at may
  refine ⟨fun v hv ne y hy => ?_, nofun⟩
  change y.card ≠ c
  simpa [ne, hy] using may.1.2 v hv

theorem Checked.failEntry (h : Checked s t) {set w : Nat} (hw : w < 4) (e : CardEntry) : Checked s (failEntry set w e t) :=
  ((h.settleFailed hw e).setWay _ _).notes (notes_report _ _ _)

theorem Checked.retireEntry (h : Checked s t) {w : Nat} (hw : w < 4) (set : Nat) : Checked s (retireEntry w t set) := by
  have settled : Checked s (match t.entry set w with
      | some e => if e.fails then reportCheck e (Machine.settleFailed set w e t) else t
      | none => t) := by
    split
    · exact .ite (fun _ => (h.settleFailed hw _).notes (notes_report _ _ _)) fun _ => h
    · exact h
  unfold Machine.retireEntry
  dsimp only
  split
  · exact .ite (fun _ => settled.leaveTable hw) fun _ => settled
  · exact settled

theorem Checked.retireWay (h : Checked s t) {w : Nat} (hw : w < 4) (byFault : Bool) : Checked s (retireWay w byFault t) := by
  have begun : Checked s (if byFault then report .wayRetired { way := some w } (t.setWay w { t.way w with enabled := false })
      else t.setWay w { t.way w with enabled := false }) :=
    .ite (fun _ => (h.setWay w _).notes (notes_report _ _ _)) fun _ => h.setWay w _
  exact begun.foldl _ fun _ set _ k => k.retireEntry hw set

theorem Checked.failCheck (h : Checked s t) {set w : Nat} (hw : w < 4) (e : CardEntry) : Checked s (failCheck set w e t) :=
  .ite (fun _ => .ite (fun _ => (h.failEntry hw e).retireWay hw true) fun _ => h.failEntry hw e)
    fun _ => .ite (fun _ => (h.failEntry hw e).notes (notes_report _ _ _)) fun _ => h.failEntry hw e

theorem Checked.verify (h : Checked s t) {set w : Nat} (hw : w < 4) : Checked s (verify set w t) := by
  unfold Machine.verify
  split
  · exact .ite (fun _ => h.failCheck hw _) fun _ => h
  · exact h

/-! ### Finding a card (R4, R20) -/

theorem Checked.readAmong (h : Checked s t) (may : Nat → CardEntry → Bool) (c : Nat) {ws : List Nat} (below : ∀ w ∈ ws, w < 4) :
    Checked s (readAmong may c ws t).2 := by
  induction ws generalizing t with
  | nil => exact h
  | cons w ws ih =>
    have rest {u : State} (k : Checked s u) := ih k fun v hv => below v (.tail _ hv)
    unfold Machine.readAmong
    split
    · have verified := h.verify (set := setIndex c) (below w (.head _))
      dsimp only
      split
      · split
        · exact verified
        · exact rest verified
      · exact rest verified
    · exact rest h

/-- What a read among some ways finds stands there, with the card's number. -/
theorem readAmong_found {may : Nat → CardEntry → Bool} {c : Nat} {ws : List Nat} {w : Nat} {e : CardEntry}
    (x : (readAmong may c ws t).1 = some (w, e)) :
    w ∈ ws ∧ (readAmong may c ws t).2.entry (setIndex c) w = some e ∧ e.card = c := by
  induction ws generalizing t with
  | nil => exact nomatch x
  | cons v ws ih =>
    have later {u : State} (y : (readAmong may c ws u).1 = some (w, e)) :
        w ∈ v :: ws ∧ (readAmong may c ws u).2.entry (setIndex c) w = some e ∧ e.card = c :=
      let ⟨mem, entry, card⟩ := ih y
      ⟨.tail _ mem, entry, card⟩
    unfold readAmong at x ⊢
    dsimp only at x ⊢
    split at x <;> rename_i reads
    · rw [if_pos reads]
      split at x <;> rename_i o he
      · split at x <;> rename_i card
        · rw [if_pos card]
          cases x
          exact ⟨.head _, he, card⟩
        · rw [if_neg card]
          exact later x
      · exact later x
    · rw [if_neg reads]
      exact later x

theorem Checked.readCard (h : Checked s t) (c : Nat) : Checked s (readCard c t).2 :=
  h.readAmong _ c fun _ hw => List.mem_range.1 hw

theorem readCard_found {c w : Nat} {e : CardEntry} (x : (readCard c t).1 = some (w, e)) :
    w < 4 ∧ (readCard c t).2.entry (setIndex c) w = some e ∧ e.card = c :=
  let ⟨mem, entry, card⟩ := readAmong_found x
  ⟨List.mem_range.1 mem, entry, card⟩

theorem findWay_lt {c w : Nat} (x : findWay t c = some w) : w < 4 := List.mem_range.1 (List.mem_of_find?_eq_some x)

/-! ### The calls of PUR (R21) -/

theorem Checked.callEntry (h : Checked s t) (c : Nat) (f : CardEntry → CardEntry → CardEntry)
    (card : ∀ o e, (f o e).card = e.card) (resident : ∀ o e, (f o e).resident = e.resident) : Checked s (callEntry c f t) := by
  have read := h.readCard c
  have found := fun w e => readCard_found (t := t) (c := c) (w := w) (e := e)
  unfold Machine.callEntry
  split <;> rename_i x <;> rw [x] at read found
  · exact read.writeEntry (found _ _ rfl).1 _ (fun e _ => card _ _) fun e _ on => .inl (by rw [resident] at on; exact on)
  · exact read

theorem Checked.callAuthorize (h : Checked s t) (c total alcohol : Nat) : Checked s (callAuthorize c total alcohol t) :=
  h.callEntry c _ (fun _ _ => rfl) fun _ _ => rfl

theorem Checked.callAdjust (h : Checked s t) (c : Nat) (spend alcohol : Int) (day : Nat) : Checked s (callAdjust c spend alcohol day t) :=
  h.callEntry c _ (fun o e => by split <;> rfl) fun o e => by split <;> rfl

theorem Checked.callHoldEnd (h : Checked s t) (c : Nat) : Checked s (callHoldEnd c t) := by
  have read := h.readCard c
  have found := fun w e => readCard_found (t := t) (c := c) (w := w) (e := e)
  unfold Machine.callHoldEnd
  split <;> rename_i x <;> rw [x] at read found
  · have hw := (found _ _ rfl).1
    have written := read.writeEntry (set := setIndex c) hw (fun e => { e with holdCount := e.holdCount - 1 }) (fun _ _ => rfl)
      fun _ _ on => .inl on
    dsimp only
    split
    · exact .ite (fun _ => written.leaveTable hw) fun _ => written
    · exact written
  · exact read

/-! ### Allocation (R12, R13, R17, R18) -/

theorem Checked.verifySet (h : Checked s t) (set : Nat) : Checked s (verifySet set t) :=
  h.foldl _ fun _ _ hw k => .ite (fun _ => k.verify (List.mem_range.1 hw)) fun _ => k

/-- The write of a record over the card's own entry. -/
theorem Checked.merge (h : Checked s t) {fresh e : CardEntry} {w : Nat} (hw : w < 4) (he : t.entry (setIndex fresh.card) w = some e)
    (card : e.card = fresh.card) : Checked s (Machine.writeEntry (setIndex fresh.card) w (·.merge fresh) t) := by
  refine h.writeEntry hw _ (fun x hx => ?_) fun x hx on => .inl on
  rw [he] at hx
  cases hx
  exact card.symm

/-! ### Installed records -/

theorem chooseWay_lt {set w : Nat} (x : chooseWay t set = some w) : w < 4 := by
  unfold chooseWay at x
  split at x
  · rename_i found
    cases x
    exact List.mem_range.1 (List.mem_of_find?_eq_some found)
  · obtain ⟨i, _, rfl⟩ := List.mem_map.1 (List.mem_of_find?_eq_some x)
    exact Nat.mod_lt _ (by omega)

/-- What a leaving entry leaves behind. -/
theorem leaveTable_entry {set w v : Nat} (hw : w < 4) (hv : v < 4) (set' : Nat) :
    (leaveTable set w t).entry set' v = if set' = set ∧ v = w then none else t.entry set' v := by
  cases he : t.entry set w with
  | none =>
    rw [leaveTable_none he]
    split
    · rename_i same
      rw [same.1, same.2, he]
    · rfl
  | some e =>
    rw [leaveTable_some he, State.setEntry_entry _ _ _ _ _ _ hw hv]
    split
    · rfl
    · split
      · exact (tells_notify _ _).entry _ _
      · rfl

theorem Tabled.install (h : Tabled s t) (e : CardEntry) (lacks : t.Lacks e.card) (plain : e.resident = false) :
    Tabled s (install e t).2 := by
  unfold Machine.install
  dsimp only
  split
  · exact h
  · rename_i w choice
    have hw := chooseWay_lt choice
    refine (h.checked (((Checked.refl t).leaveTable hw).setEntry hw _ fun _ y hy => ?_)).setPointer _ _
    cases hy
    refine ⟨fun v hv ne y hy => lacks v hv y ?_, fun on => nomatch plain.symm.trans on⟩
    rwa [leaveTable_entry hw hv, if_neg fun same => ne same.2] at hy

theorem entryWay_some {c w : Nat} (x : entryWay t c = some w) : w < 4 ∧ ∃ e, t.entry (setIndex c) w = some e ∧ e.card = c := by
  have here := List.find?_some x
  refine ⟨List.mem_range.1 (List.mem_of_find?_eq_some x), ?_⟩
  simpa [Option.any_eq_true] using here

theorem entryWay_none {c : Nat} (x : entryWay t c = none) : t.Lacks c := by
  intro w hw e he
  have := List.find?_eq_none.1 x w (List.mem_range.2 hw)
  simpa [he] using this

theorem Tabled.placeRecord (h : Tabled s t) (fresh : CardEntry) (plain : fresh.resident = false) :
    Tabled s (placeRecord fresh t).2 := by
  have read := (Checked.refl t).readCard fresh.card
  have found := fun w e => readCard_found (t := t) (c := fresh.card) (w := w) (e := e)
  unfold Machine.placeRecord
  dsimp only
  split <;> rename_i x <;> rw [x] at read found
  · obtain ⟨hw, he, card⟩ := found _ _ rfl
    exact h.checked (read.merge hw he card)
  · have verified := read.verifySet (setIndex fresh.card)
    split
    · rename_i own
      obtain ⟨hw, e, he, card⟩ := entryWay_some own
      exact h.checked (verified.merge hw he card)
    · rename_i lacks
      have installed := (h.checked verified).install fresh (entryWay_none lacks) plain
      split <;> rename_i y <;> rw [y] at installed <;> exact installed

end Checks

end Sys2Proof.Machine

namespace Sys2Proof.Machine

open Sys2Proof

/-! ## Hold counts and the open holds (R3, R4, R10, R21) -/

section Counted

variable {s t : State}

theorem State.HoldsCounted.tableSound (a : s.HoldsCounted) : s.TableSound := fun set way e hw he => a.sound set way hw e he

theorem State.HoldsCounted.verify (a : s.HoldsCounted) {set w : Nat} (hw : w < 4) : verify set w s = s :=
  verify_tableSound a.tableSound hw

/-- A card's entry is found, alone in its set, or it has none. -/
theorem State.HoldsCounted.finds (a : s.HoldsCounted) (b : s.TableBounded) (c : Nat) :
    s.Lacks c ∨ ∃ w e, s.Holds c w e ∧ e.Sound := by
  by_cases lacks : s.Lacks c
  · exact .inl lacks
  · unfold State.Lacks at lacks
    push Not at lacks
    obtain ⟨w, hw, e, he, card⟩ := lacks
    refine .inr ⟨w, e, ⟨hw, he, card, a.serving _ w hw e he, fun v hv ne x hx same => ?_⟩, a.sound _ w hw e he⟩
    exact ne (b.one _ v hv w hw x e hx he (same.trans card.symm))

theorem mem_holdsOfCard {c : Nat} {h : Hold} : h ∈ holdsOfCard s c ↔ h.card = c ∧ ∃ n, (n, h) ∈ openHolds s := by
  simp [holdsOfCard, and_comm]

/-- A card with no entry has no open hold. -/
theorem State.HoldsCounted.idle (a : s.HoldsCounted) {c : Nat} (lacks : s.Lacks c) : holdsOfCard s c = [] := by
  refine List.eq_nil_iff_forall_not_mem.2 fun h hh => ?_
  obtain ⟨card, n, mem⟩ := mem_holdsOfCard.1 hh
  obtain ⟨w, hw, e, he, own⟩ := a.covered _ mem
  rw [card] at he own
  exact lacks w hw e he own

/-- One place of the table is written, free or the card's own before: by the card's entry with the number of its open holds, or by
none where it has no open hold. The open holds of the other cards are as many as they were. -/
theorem State.HoldsCounted.reseat (a : s.HoldsCounted) {c w : Nat} (x : Option CardEntry)
    (free : ∀ y, s.entry (setIndex c) w = some y → y.card = c)
    (alone : ∀ v < 4, v ≠ w → ∀ y, s.entry (setIndex c) v = some y → y.card ≠ c) (hw : w < 4)
    (entries : ∀ set, ∀ v < 4, t.entry set v = if set = setIndex c ∧ v = w then x else s.entry set v)
    (ways : t.cards.ways = s.cards.ways) (fetches : t.cards.fetches = s.cards.fetches)
    (others : ∀ c' ≠ c, (holdsOfCard t c').length = (holdsOfCard s c').length)
    (seated : ∀ y, x = some y → y.card = c ∧ y.Sound ∧ y.holdCount = (holdsOfCard t c).length ∧ y.holdCount ≤ 2 ∧
      ((s.way w).enabled = true ∨ 0 < y.holdCount))
    (left : x = none → holdsOfCard t c = []) : t.HoldsCounted := by
  have way (v : Nat) : t.way v = s.way v := by unfold State.way; rw [ways]
  have fetch (v : Nat) : t.fetch v = s.fetch v := by unfold State.fetch; rw [fetches]
  have place : ∀ set, ∀ v < 4, ∀ e, t.entry set v = some e → (set = setIndex c ∧ v = w ∧ x = some e) ∨
      (e.card ≠ c ∧ s.entry set v = some e) := by
    intro set v hv e he
    rw [entries set v hv] at he
    split at he
    · rename_i here
      exact .inl ⟨here.1, here.2, he⟩
    · rename_i away
      refine .inr ⟨fun card => ?_, he⟩
      have own : set = setIndex c := by rw [← card]; exact (a.placed set v hv e he).symm
      exact alone v hv (fun h => away ⟨own, h⟩) e (own ▸ he) card
  refine ⟨fun set v hv e he => ?_, fun set v hv e he => ?_, fun set v hv e he => ?_, fun set v hv e he => ?_,
    fun y hy => ?_, ?_⟩
  · rcases place set v hv e he with ⟨_, _, hx⟩ | ⟨_, old⟩
    · exact (seated e hx).2.1
    · exact a.sound set v hv e old
  · rcases place set v hv e he with ⟨rfl, _, hx⟩ | ⟨_, old⟩
    · rw [(seated e hx).1]
    · exact a.placed set v hv e old
  · rcases place set v hv e he with ⟨_, _, hx⟩ | ⟨card, old⟩
    · obtain ⟨card, _, count, two, _⟩ := seated e hx
      exact ⟨card ▸ count, two⟩
    · rw [others _ card]; exact a.counts set v hv e old
  · rw [way]
    rcases place set v hv e he with ⟨_, rfl, hx⟩ | ⟨_, old⟩
    · exact (seated e hx).2.2.2.2
    · exact a.serving set v hv e old
  · by_cases card : y.2.card = c
    · have mem : y.2 ∈ holdsOfCard t c := mem_holdsOfCard.2 ⟨card, y.1, hy⟩
      cases hx : x with
      | none => rw [left hx] at mem; cases mem
      | some e =>
        refine ⟨w, hw, e, ?_, (seated e hx).1.trans card.symm⟩
        rw [entries _ w hw, card, if_pos ⟨rfl, rfl⟩, hx]
    · have some : 0 < (holdsOfCard s y.2.card).length := by
        rw [← others _ card]
        exact List.length_pos_of_mem (mem_holdsOfCard.2 ⟨rfl, y.1, hy⟩)
      obtain ⟨z, hz⟩ := List.exists_mem_of_length_pos some
      obtain ⟨own, n, mem⟩ := mem_holdsOfCard.1 hz
      obtain ⟨v, hv, e, he, ecard⟩ := a.covered _ mem
      rw [own] at he ecard
      refine ⟨v, hv, e, ?_, ecard⟩
      rw [entries _ v hv, if_neg]
      · exact he
      · rintro ⟨set, rfl⟩
        exact card (ecard.symm.trans (free e (set ▸ he)))
  · simpa only [fetch] using a.waiting

/-- A write of an entry that keeps its card and its hold count. -/
theorem State.HoldsCounted.writeEntry (a : s.HoldsCounted) (b : s.TableBounded) {set w : Nat} (hw : w < 4)
    (f : CardEntry → CardEntry) (same : ∀ e, s.entry set w = some e →
      (f (e.refresh s.clock.day)).card = e.card ∧ (f (e.refresh s.clock.day)).holdCount = e.holdCount) :
    (writeEntry set w f s).HoldsCounted := by
  cases he : s.entry set w with
  | none => rw [writeEntry_none f he]; exact a
  | some e =>
    rw [writeEntry_some f he]
    obtain ⟨card, count⟩ := same e he
    have place := a.placed set w hw e he
    subst place
    refine a.reseat (c := e.card) (w := w) (some { f (e.refresh s.clock.day) with codeDiff := 0 }) (fun y hy => ?_)
      (fun v hv ne y hy same => ne (b.one _ v hv w hw y e hy he same)) hw
      (fun set v hv => State.setEntry_entry _ _ _ _ _ _ hw hv) rfl rfl (fun _ _ => rfl) (fun y hy => ?_) nofun
    · rw [he] at hy; cases hy; rfl
    · cases hy
      obtain ⟨counted, two⟩ := a.counts _ w hw e he
      exact ⟨card, .inr rfl, count.trans counted, count ▸ two, by simpa only [count] using a.serving _ w hw e he⟩

/-- An entry that leaves is taken out; its DAY-TALLY apart, nothing else changes. -/
theorem leaveTable_tells {set w : Nat} {e : CardEntry} (he : s.entry set w = some e) :
    Tells (s.setEntry set w none) (leaveTable set w s) := by
  rw [leaveTable_some he]
  split
  · obtain ⟨l, r, shape⟩ := tells_notify s e.tally
    exact ⟨l, r, by rw [shape]; rfl⟩
  · exact ⟨s.link, s.frc, rfl⟩

/-- An entry with no open hold leaves. -/
theorem State.HoldsCounted.leaveTable (a : s.HoldsCounted) (b : s.TableBounded) {set w : Nat} (hw : w < 4)
    (zero : ∀ e, s.entry set w = some e → e.holdCount = 0) : (leaveTable set w s).HoldsCounted := by
  cases he : s.entry set w with
  | none => rw [leaveTable_none he]; exact a
  | some e =>
    obtain ⟨counted, _⟩ := a.counts set w hw e he
    have idle : holdsOfCard s e.card = [] := List.length_eq_zero_iff.1 (counted.symm.trans (zero e he))
    have place := a.placed set w hw e he
    obtain ⟨l, r, shape⟩ := leaveTable_tells he
    have holds : openHolds (Machine.leaveTable set w s) = openHolds s := by rw [shape]; rfl
    subst place
    refine a.reseat (c := e.card) (w := w) none (fun y hy => ?_)
      (fun v hv ne y hy same => ne (b.one _ v hv w hw y e hy he same)) hw (fun set v hv => leaveTable_entry hw hv set) (by rw [shape]; rfl)
      (by rw [shape]; rfl) (fun c' _ => ?_) nofun fun _ => ?_
    · rw [he] at hy; cases hy; rfl
    · unfold holdsOfCard; rw [holds]
    · unfold holdsOfCard at idle ⊢; rw [holds]; exact idle

/-- A record of a card with no entry takes a way whose entry may go. -/
theorem State.HoldsCounted.install (a : s.HoldsCounted) (b : s.TableBounded) {e : CardEntry} (lacks : s.Lacks e.card) (sound : e.Sound)
    (zero : e.holdCount = 0) : (install e s).2.HoldsCounted := by
  unfold Machine.install
  dsimp only
  split
  · exact a
  · rename_i w choice
    have hw := chooseWay_lt choice
    have goes : (s.way w).enabled = true ∧ ∀ o, s.entry (setIndex e.card) w = some o → o.holdCount = 0 := by
      unfold chooseWay at choice
      split at choice
      · rename_i found
        cases choice
        have := List.find?_some found
        simp only [Bool.and_eq_true, Option.isNone_iff_eq_none] at this
        exact ⟨this.1, fun o ho => nomatch ho.symm.trans this.2⟩
      · have := List.find?_some choice
        simp only [Bool.and_eq_true, Option.any_eq_true, decide_eq_true_eq] at this
        obtain ⟨on, o, ho, _, none⟩ := this
        exact ⟨on, fun o' ho' => by rw [ho] at ho'; cases ho'; exact none⟩
    have gone := a.leaveTable b hw goes.2
    have entry := fun set v (hv : v < 4) => leaveTable_entry (t := s) (set := setIndex e.card) hw hv set
    have same : (Machine.leaveTable (setIndex e.card) w s).way w = s.way w ∧
        openHolds (Machine.leaveTable (setIndex e.card) w s) = openHolds s := by
      cases ho : s.entry (setIndex e.card) w with
      | none => rw [leaveTable_none ho]; exact ⟨rfl, rfl⟩
      | some o =>
        obtain ⟨l, r, shape⟩ := leaveTable_tells ho
        rw [shape]; exact ⟨rfl, rfl⟩
    have idle : holdsOfCard (Machine.leaveTable (setIndex e.card) w s) e.card = [] := by
      unfold holdsOfCard; rw [same.2]; exact a.idle lacks
    have written : ((Machine.leaveTable (setIndex e.card) w s).setEntry (setIndex e.card) w (some e)).HoldsCounted := by
      refine gone.reseat (c := e.card) (w := w) (some e) (fun y hy => ?_) (fun v hv ne y hy => ?_) hw
        (fun set v hv => State.setEntry_entry _ _ _ _ _ _ hw hv) rfl rfl (fun _ _ => rfl) (fun y hy => ?_) nofun
      · rw [entry _ w hw, if_pos ⟨rfl, rfl⟩] at hy; cases hy
      · rw [entry _ v hv, if_neg fun h => ne h.2] at hy
        exact lacks v hv y hy
      · cases hy
        exact ⟨rfl, sound, zero.trans (congrArg List.length idle).symm, by omega, .inl (same.1 ▸ goes.1)⟩
    exact written.congr rfl rfl rfl rfl

theorem State.HoldsCounted.setFetch (a : s.HoldsCounted) (n : Nat) (f : Option Fetch)
    (own : ∀ g, f = some g → ∀ p ∈ g.waiting, p.card = g.card) : (s.setFetch n f).HoldsCounted where
  sound := a.sound
  placed := a.placed
  counts := a.counts
  serving := a.serving
  covered := a.covered
  waiting m hm g hg p hp := by
    rw [State.setFetch_fetch] at hg
    split at hg
    · exact own g hg p hp
    · exact a.waiting m hm g hg p hp

/-- Where ways are as they were or enabled, the entries of each are served as before. -/
theorem State.HoldsCounted.serve (a : s.HoldsCounted) (entries : t.cards.entries = s.cards.entries)
    (fetches : t.cards.fetches = s.cards.fetches) (holds : t.purse.holds = s.purse.holds)
    (ways : ∀ v, t.way v = s.way v ∨ (t.way v).enabled = true) : t.HoldsCounted := by
  have entry (m n : Nat) : t.entry m n = s.entry m n := by unfold State.entry; rw [entries]
  have fetch (m : Nat) : t.fetch m = s.fetch m := by unfold State.fetch; rw [fetches]
  have cards (c : Nat) : holdsOfCard t c = holdsOfCard s c := by unfold holdsOfCard; rw [openHolds_congr holds]
  refine ⟨by simpa only [entry] using a.1, by simpa only [entry] using a.2, by simpa only [entry, cards] using a.3,
    fun set v hv e he => ?_, by simpa only [entry, openHolds_congr holds] using a.5, by simpa only [fetch] using a.6⟩
  rw [entry] at he
  rcases ways v with same | on
  · rw [same]; exact a.serving set v hv e he
  · exact .inl on

/-! ### Retirement (R9) -/

/-- A table one of whose ways is being retired: were the way enabled, the hold counts would be kept; and the way's entries are all in
some sets, but those with open holds. -/
structure Retiring (w : Nat) (sets : List Nat) (s : State) : Prop where
  bounded : s.TableBounded
  counted : (s.setWay w ⟨0, true⟩).HoldsCounted
  within : ∀ set e, s.entry set w = some e → set ∈ sets ∨ 0 < e.holdCount

/-- A retirement goes through the sets of its way one after another. -/
theorem Retiring.step {w set : Nat} {sets : List Nat} (hw : w < 4) (a : Retiring w (set :: sets) s) :
    Retiring w sets (retireEntry w s set) := by
  have keep (out : ∀ e, s.entry set w = some e → 0 < e.holdCount) : Retiring w sets s := by
    refine ⟨a.bounded, a.counted, fun set' e he => (a.within set' e he).elim (fun mem => ?_) .inr⟩
    rcases List.mem_cons.1 mem with rfl | mem
    · exact .inr (out e he)
    · exact .inl mem
  unfold retireEntry
  cases he : s.entry set w with
  | none =>
    simp only [he]
    exact keep fun e h => nomatch he.symm.trans h
  | some e =>
    have sound : e.fails = false := by
      rcases a.counted.sound set w hw e he with h | h <;> simp [CardEntry.fails, h]
    simp only [sound, Bool.false_eq_true, if_false, he]
    split
    · rename_i zero
      obtain ⟨l, r, shape⟩ := leaveTable_tells he
      obtain ⟨l', r', shape'⟩ := leaveTable_tells (s := s.setWay w ⟨0, true⟩) (set := set) (w := w) (e := e) he
      refine ⟨?_, ?_, fun set' x hx => ?_⟩
      · exact tableOk_iff.1 (((Checked.refl s).leaveTable hw).table (tableOk_iff.2 a.bounded))
      · refine (a.counted.leaveTable (tableOk_iff.1 (((Checked.refl s).setWay w ⟨0, true⟩).table (tableOk_iff.2 a.bounded))) (set := set)
          hw fun x hx => ?_).congr ?_ ?_ ?_ ?_
        · rw [show x = e from Option.some.inj (hx.symm.trans he)]; exact zero
        all_goals rw [shape, shape']; rfl
      · rw [leaveTable_entry hw hw] at hx
        split at hx
        · cases hx
        · rename_i away
          refine (a.within set' x hx).elim (fun mem => ?_) .inr
          rcases List.mem_cons.1 mem with rfl | mem
          · exact absurd ⟨rfl, rfl⟩ away
          · exact .inl mem
    · rename_i some
      exact keep fun x hx => by
        rw [show x = e from Option.some.inj (hx.symm.trans he)]; omega

theorem Retiring.pass {w : Nat} {sets : List Nat} (hw : w < 4) (a : Retiring w sets s) :
    Retiring w [] (sets.foldl (retireEntry w) s) := by
  induction sets generalizing s with
  | nil => exact a
  | cons set sets ih => exact ih (a.step hw)

theorem Retiring.holdsCounted {w : Nat} (hw : w < 4) (a : Retiring w [] s) : s.HoldsCounted where
  sound := a.counted.sound
  placed := a.counted.placed
  counts := a.counted.counts
  covered := a.counted.covered
  waiting := a.counted.waiting
  serving set v hv e he := by
    by_cases same : v = w
    · subst same
      exact (a.within set e he).elim (fun mem => nomatch mem) .inr
    · have := a.counted.serving set v hv e he
      rwa [State.setWay_way, if_neg same] at this

/-- The listed entries of a way are those of its sets. -/
theorem mem_setsOfWay {w set : Nat} (hw : w < 4) {e : CardEntry} (he : s.entry set w = some e) : set ∈ setsOfWay s w := by
  refine List.mem_map.2 ⟨(4 * set + w, some e), List.mem_filter.2 ⟨?_, by simp; omega⟩, by simp; omega⟩
  rcases Table.read_mem none s.cards.entries (4 * set + w) with h | h
  · exact nomatch he.symm.trans h
  · rwa [show Table.read none s.cards.entries (4 * set + w) = some e from he] at h

theorem State.HoldsCounted.retireWay (a : s.HoldsCounted) (b : s.TableBounded) {w : Nat} (hw : w < 4) :
    (retireWay w false s).HoldsCounted := by
  let u := s.setWay w { s.way w with enabled := false }
  have begun : Retiring w (setsOfWay u w) u := by
    refine ⟨b.congr rfl rfl, a.serve rfl rfl rfl fun v => ?_, fun set e he => .inl (mem_setsOfWay hw he)⟩
    by_cases same : v = w <;> simp [u, same]
  exact (begun.pass hw).holdsCounted hw

end Counted

end Sys2Proof.Machine

namespace Sys2Proof.Machine

open Sys2Proof

/-! ## The card table's operations, with the hold counts -/

section CardOps

variable {s t u : State}

theorem KeepsBooks.tabled (h : KeepsBooks s t) (x : Tabled t u) (holds : t.TableBounded → t.HoldsCounted → u.HoldsCounted) :
    KeepsBooks s u := h.trans (x.keepsBooks holds)

theorem KeepsBooks.foldl {α : Type} {f : State → α → State} (h : KeepsBooks s t) (xs : List α)
    (step : ∀ u, ∀ a ∈ xs, KeepsBooks s u → KeepsBooks s (f u a)) : KeepsBooks s (xs.foldl f t) :=
  List.foldlRecOn xs f h fun u k a ha => step u a ha k

theorem KeepsBooks.verify (h : KeepsBooks s t) {set w : Nat} (hw : w < 4) : KeepsBooks s (verify set w t) :=
  h.tabled ((Checked.refl t).verify hw).tabled fun _ a => by rw [a.verify hw]; exact a

theorem KeepsBooks.setPointer (h : KeepsBooks s t) (set p : Nat) : KeepsBooks s (t.setPointer set p) :=
  h.tabled ((Tabled.refl t).setPointer set p) fun _ a => a.congr rfl rfl rfl rfl

theorem KeepsBooks.setFetch (h : KeepsBooks s t) (n : Nat) (f : Option Fetch)
    (alone : t.TableBounded → ∀ g, f = some g → ∀ m < 16, m ≠ n → ∀ x, t.fetch m = some x → x.card ≠ g.card)
    (own : t.HoldsCounted → ∀ g, f = some g → ∀ p ∈ g.waiting, p.card = g.card) : KeepsBooks s (t.setFetch n f) :=
  h.tabled ((Tabled.refl t).setFetch n f alone) fun _ a => a.setFetch n f (own a)

theorem KeepsBooks.writeEntry (h : KeepsBooks s t) {set w : Nat} (hw : w < 4) (f : CardEntry → CardEntry)
    (same : ∀ e, t.entry set w = some e →
      (f (e.refresh t.clock.day)).card = e.card ∧ (f (e.refresh t.clock.day)).holdCount = e.holdCount)
    (resident : ∀ e, t.entry set w = some e → (f (e.refresh t.clock.day)).resident = true → e.resident = true ∨ residents t set < 3) :
    KeepsBooks s (writeEntry set w f t) :=
  h.tabled ((Checked.refl t).writeEntry hw f (fun e he => (same e he).1) resident).tabled fun b a => a.writeEntry b hw f same

theorem KeepsBooks.leaveTable (h : KeepsBooks s t) {set w : Nat} (hw : w < 4)
    (zero : ∀ e, t.entry set w = some e → e.holdCount = 0) : KeepsBooks s (leaveTable set w t) :=
  h.tabled ((Checked.refl t).leaveTable hw).tabled fun b a => a.leaveTable b hw zero

/-- A read among ways of a sound table changes nothing. -/
theorem State.TableSound.readAmong (ok : s.TableSound) (may : Nat → CardEntry → Bool) (c : Nat) {ws : List Nat}
    (below : ∀ w ∈ ws, w < 4) : (readAmong may c ws s).2 = s := by
  induction ws with
  | nil => rfl
  | cons w ws ih =>
    have rest := ih fun v hv => below v (.tail _ hv)
    unfold Machine.readAmong
    rw [verify_tableSound ok (below w (.head _))]
    split
    · dsimp only
      split
      · split
        · rfl
        · exact rest
      · exact rest
    · exact rest

theorem KeepsBooks.readAmong (h : KeepsBooks s t) (may : Nat → CardEntry → Bool) (c : Nat) :
    KeepsBooks s (readAmong may c (List.range 4) t).2 :=
  h.tabled ((Checked.refl t).readAmong may c fun _ hw => List.mem_range.1 hw).tabled fun _ a => by
    rw [a.tableSound.readAmong may c fun _ hw => List.mem_range.1 hw]; exact a

theorem KeepsBooks.readCard (h : KeepsBooks s t) (c : Nat) : KeepsBooks s (readCard c t).2 := h.readAmong _ c

theorem KeepsBooks.lookup (h : KeepsBooks s t) (c : Nat) : KeepsBooks s (lookup c t).2 := by
  unfold Machine.lookup
  split
  · exact h
  · rename_i w found
    have verified := h.verify (set := setIndex c) (findWay_lt found)
    dsimp only
    split
    · split
      · exact verified
      · exact .ite (fun _ => verified.setPointer _ _) fun _ => verified
    · exact verified

/-! ### Fetches (R22, R25, R26) -/

theorem fetchOf_some {c n : Nat} {f : Fetch} (x : fetchOf t c = some (n, f)) : n < 16 ∧ t.fetch n = some f ∧ f.card = c := by
  have card := List.find?_some x
  obtain ⟨m, hm, hf⟩ := List.mem_filterMap.1 (List.mem_of_find?_eq_some x)
  obtain ⟨g, hg, e⟩ := Option.map_eq_some_iff.1 hf
  cases e
  exact ⟨List.mem_range.1 hm, hg, by simpa using card⟩

theorem noFetch_of_none {c : Nat} (x : fetchOf t c = none) : t.NoFetch c := by
  intro n hn f hf card
  have := List.find?_eq_none.1 x (n, f) (List.mem_filterMap.2 ⟨n, List.mem_range.2 hn, by rw [hf]; rfl⟩)
  simp [card] at this

theorem KeepsBooks.refuseFetch (h : KeepsBooks s t) (n : Nat) (f : Fetch) (r : Result) : KeepsBooks s (refuseFetch n f r t) :=
  (h.setFetch n none (fun _ _ => nofun) fun _ _ => nofun).foldl _ fun _ _ _ k => k.says (says_refuse _ _ _)

/-- A change of a fetch that keeps its card, and lets wait who names the card. -/
theorem KeepsBooks.changeFetch (h : KeepsBooks s t) {n : Nat} {f : Fetch} (hn : n < 16) (hf : t.fetch n = some f) (g : Fetch)
    (card : g.card = f.card) (waiting : ∀ p ∈ g.waiting, p ∈ f.waiting ∨ p.card = f.card) : KeepsBooks s (t.setFetch n (some g)) := by
  refine h.setFetch n (some g) (fun b g' e m hm ne x hx same => ?_) fun a g' e p hp => ?_
  · cases e
    exact ne (b.fetches m hm n hn x f hx hf (same.trans card))
  · cases e
    rw [card]
    exact (waiting p hp).elim (a.waiting n hn f hf p) id

theorem KeepsBooks.startFetch (h : KeepsBooks s t) (p : Presentation) : KeepsBooks s (startFetch p t).2 := by
  unfold Machine.startFetch
  split
  · rename_i n f pending
    obtain ⟨hn, hf, card⟩ := fetchOf_some pending
    split
    · refine h.changeFetch hn hf _ rfl fun q hq => ?_
      rcases List.mem_append.1 hq with old | new
      · exact .inl old
      · exact .inr ((congrArg Presentation.card (List.mem_singleton.1 new)).trans card.symm)
    · exact h
  · rename_i no
    split
    · exact h
    · rename_i n free
      refine (h.setFetch n _ (fun _ g e m hm _ x hx => ?_) fun _ g e q hq => ?_).says (says_notify _ _)
      · cases e
        exact noFetch_of_none no m hm x hx
      · cases e
        exact congrArg Presentation.card (List.mem_singleton.1 hq)

theorem KeepsBooks.cardUnknown (h : KeepsBooks s t) (card : Nat) (id : ReqId) : KeepsBooks s (cardUnknown card id t) := by
  unfold Machine.cardUnknown
  split
  · exact (h.refuseFetch _ _ _).says (says_answer _ _ _ _)
  · exact h.says (says_answer _ _ _ _)

theorem KeepsBooks.fetchExpiry (h : KeepsBooks s t) (n : Nat) : KeepsBooks s (fetchExpiry n t) := by
  unfold Machine.fetchExpiry
  split
  · rename_i f hf
    exact ((h.beside ((Beside.refl t).reachTime f.expiry)).says (says_report _ _ _)).refuseFetch n f _
  · exact h

theorem KeepsBooks.fetchWaitSet (h : KeepsBooks s t) (ms : Nat) (id : ReqId) : KeepsBooks s (fetchWaitSet ms id t) := by
  have wait (x : Nat) : Tabled t (t.withCards { t.cards with fetchWait := x }) :=
    ⟨⟨{ t.cards with fetchWait := x }, t.link, t.frc, rfl⟩, fun a => a, fun a => a,
      fun a => tableOk_iff.2 ((tableOk_iff.1 a).congr rfl rfl), fun a => a⟩
  exact (h.tabled (wait (clampTo 50 2000 (ms / 50 * 50))) fun _ a => a.congr rfl rfl rfl rfl).says (says_answer _ _ _ _)

/-! ### Records, queries and ways (R11, R15, R19, R20, R27) -/

theorem KeepsBooks.cardRevoke (h : KeepsBooks s t) (card : Nat) (id : ReqId) : KeepsBooks s (cardRevoke card id t) := by
  have read := h.readCard card
  have found := fun w e => readCard_found (t := t) (c := card) (w := w) (e := e)
  unfold Machine.cardRevoke
  generalize Machine.readCard card t = x at read found
  obtain ⟨place, u⟩ := x
  have written : KeepsBooks s (place.elim u fun p => Machine.writeEntry (setIndex card) p.1 (fun e => { e with revoked := true }) u) := by
    cases place with
    | none => exact read
    | some p => exact read.writeEntry (found p.1 p.2 rfl).1 (fun e => { e with revoked := true }) (fun _ _ => ⟨rfl, rfl⟩) fun _ _ on => .inl on
  have marked : ∀ v, KeepsBooks s v → KeepsBooks s ((fetchOf v card).elim v fun p => v.setFetch p.1 (some { p.2 with revoked := true })) := by
    intro v k
    cases hf : fetchOf v card with
    | none => exact k
    | some p =>
      obtain ⟨hn, hf, _⟩ := fetchOf_some hf
      exact k.changeFetch hn hf _ rfl fun q hq => .inl hq
  exact .ite (fun _ => (marked _ written).says (says_answer _ _ _ _)) fun _ => (marked _ written).says (says_answer _ _ _ _)

theorem KeepsBooks.cardResident (h : KeepsBooks s t) (card value : Nat) (id : ReqId) : KeepsBooks s (cardResident card value id t) := by
  have read := h.readCard card
  have found := fun w e => readCard_found (t := t) (c := card) (w := w) (e := e)
  unfold Machine.cardResident
  split
  · exact h.says (says_answer _ _ _ _)
  · split <;> rename_i x <;> rw [x] at read found
    · exact read.says (says_answer _ _ _ _)
    · rename_i on _ _ w e u
      refine .ite (fun _ => read.says (says_answer _ _ _ _)) fun _ => .ite (fun _ => read.says (says_answer _ _ _ _)) fun _ =>
        .ite (fun _ => read.says (says_answer _ _ _ _)) fun few => ?_
      refine (read.writeEntry (found _ _ rfl).1 _ (fun _ _ => ⟨rfl, rfl⟩) fun _ _ turned => .inr ?_).says (says_answer _ _ _ _)
      have turned : on = true := turned
      simp only [turned, Bool.true_and, decide_eq_true_eq] at few
      exact Nat.lt_of_not_le few

theorem KeepsBooks.cardQuery (h : KeepsBooks s t) (form key : Nat) (id : ReqId) : KeepsBooks s (cardQuery form key id t) := by
  unfold Machine.cardQuery
  split
  · have read := h.readAmong (sees t) key
    unfold queryCard readSeen
    split <;> rename_i x <;> rw [x] at read <;> exact read.says (says_answer _ _ _ _)
  · refine .ite (fun _ => h.says (says_answer _ _ _ _)) fun small => ?_
    have verified := h.verify (set := querySet key) (Nat.lt_succ_of_le (Nat.le_of_not_lt small))
    dsimp only
    split <;> exact verified.says (says_answer _ _ _ _)
  · exact h.says (says_answer _ _ _ _)

theorem KeepsBooks.flush (h : KeepsBooks s t) (id : ReqId) : KeepsBooks s (flush id t) := by
  refine KeepsBooks.says (h.foldl _ fun u n _ k => ?_) (says_answer _ _ _ _)
  have hw : n % 4 < 4 := Nat.mod_lt _ (by omega)
  have verified := k.verify (set := n / 4) hw
  unfold flushEntry
  dsimp only
  split
  · rename_i e he
    refine .ite (fun goes => verified.leaveTable hw fun x hx => ?_) fun _ => verified
    rw [he] at hx
    cases hx
    simp only [Bool.and_eq_true, decide_eq_true_eq] at goes
    exact goes.2
  · exact verified

theorem KeepsBooks.wayDisable (h : KeepsBooks s t) (w : Nat) (id : ReqId) : KeepsBooks s (wayDisable w id t) :=
  .ite (fun _ => h.says (says_answer _ _ _ _)) fun small => by
    have hw := Nat.lt_succ_of_le (Nat.le_of_not_lt small)
    exact KeepsBooks.says (.ite (fun _ => h.tabled ((Checked.refl t).retireWay hw false).tabled fun b a => a.retireWay b hw) fun _ => h)
      (says_answer _ _ _ _)

theorem KeepsBooks.wayRestore (h : KeepsBooks s t) (w : Nat) (id : ReqId) : KeepsBooks s (wayRestore w id t) := by
  refine .ite (fun _ => h.says (says_answer _ _ _ _)) fun _ => KeepsBooks.says (h.tabled ((Checked.refl t).setWay w _).tabled fun _ a => ?_)
    (says_answer _ _ _ _)
  refine a.serve rfl rfl rfl fun v => ?_
  by_cases same : v = w <;> simp [same]

theorem KeepsBooks.wayQuery (h : KeepsBooks s t) (w : Nat) (id : ReqId) : KeepsBooks s (wayQuery w id t) :=
  .ite (fun _ => h.says (says_answer _ _ _ _)) fun _ =>
    KeepsBooks.says (h.foldl _ fun _ _ hv k => k.foldl _ fun _ _ _ l => l.verify (List.mem_range.1 hv)) (says_answer _ _ _ _)

end CardOps

end Sys2Proof.Machine

namespace Sys2Proof.Machine

open Sys2Proof

/-! ## The open holds when a slot is written (R148, R160) -/

section OpenHolds

variable {s t : State} {k : Nat} {v : HoldSlot}

/-- The list of a slot's hold, if it holds one. -/
def seatOf (k : Nat) (h : Option Hold) : List (Nat × Hold) := (h.map fun h => (k, h)).toList

/-- The open holds are the slot's and the others'; a write of the slot changes the slot's alone. -/
theorem openHolds_split (wf : Table.wf defaultHoldSlot s.purse.holds = true)
    (holds : t.purse.holds = Table.write defaultHoldSlot k v s.purse.holds) :
    ∃ others, (openHolds s).Perm (seatOf k (s.holdSlot k).hold? ++ others) ∧ (openHolds t).Perm (seatOf k v.hold? ++ others) := by
  have default : defaultHoldSlot.hold? = none := rfl
  refine ⟨(Table.drop k s.purse.holds).collect HoldSlot.hold?, Table.collect_split default k wf, ?_⟩
  have split := Table.collect_split default k (Table.wf_write k v wf)
  rw [Table.drop_write k v wf, Table.read_write_same, ← holds] at split
  exact split

/-- What a hold holds against a folio. -/
def share (n : Nat) (h : Option Hold) : Nat := h.elim 0 fun h => if h.folio = n then h.total else 0

theorem heldSum_write (wf : Table.wf defaultHoldSlot s.purse.holds = true)
    (holds : t.purse.holds = Table.write defaultHoldSlot k v s.purse.holds) (n : Nat) :
    heldSum t n + share n (s.holdSlot k).hold? = heldSum s n + share n v.hold? := by
  obtain ⟨others, a, b⟩ := openHolds_split wf holds
  have sum (h : Option Hold) : (((seatOf k h ++ others).filter (·.2.folio = n)).map (·.2.total)).sum =
      share n h + ((others.filter (·.2.folio = n)).map (·.2.total)).sum := by
    cases h with
    | none => simp [seatOf, share]
    | some h => by_cases own : h.folio = n <;> simp [seatOf, share, own]
  have sa := ((a.filter (·.2.folio = n)).map (·.2.total)).sum_eq
  have sb := ((b.filter (·.2.folio = n)).map (·.2.total)).sum_eq
  rw [sum] at sa sb
  unfold heldSum
  omega

/-- How many open holds of a card a slot's hold is. -/
def ofCard (c : Nat) (h : Option Hold) : Nat := h.elim 0 fun h => if h.card = c then 1 else 0

theorem holdsOfCard_write (wf : Table.wf defaultHoldSlot s.purse.holds = true)
    (holds : t.purse.holds = Table.write defaultHoldSlot k v s.purse.holds) (c : Nat) :
    (holdsOfCard t c).length + ofCard c (s.holdSlot k).hold? = (holdsOfCard s c).length + ofCard c v.hold? := by
  obtain ⟨others, a, b⟩ := openHolds_split wf holds
  have count (h : Option Hold) : (((seatOf k h ++ others).map (·.2)).filter (·.card = c)).length =
      ofCard c h + ((others.map (·.2)).filter (·.card = c)).length := by
    cases h with
    | none => simp [seatOf, ofCard]
    | some h =>
      by_cases own : h.card = c
      · simp [seatOf, ofCard, own, Nat.add_comm]
      · simp [seatOf, ofCard, own]
  have la := ((a.map (·.2)).filter (·.card = c)).length_eq
  have lb := ((b.map (·.2)).filter (·.card = c)).length_eq
  rw [count] at la lb
  unfold holdsOfCard
  omega

theorem openHolds_length_write (wf : Table.wf defaultHoldSlot s.purse.holds = true)
    (holds : t.purse.holds = Table.write defaultHoldSlot k v s.purse.holds) :
    (openHolds t).length + (s.holdSlot k).hold?.isSome.toNat = (openHolds s).length + v.hold?.isSome.toNat := by
  obtain ⟨others, a, b⟩ := openHolds_split wf holds
  have length (h : Option Hold) : (seatOf k h).length = h.isSome.toNat := by cases h <;> rfl
  have la := a.length_eq
  have lb := b.length_eq
  rw [List.length_append, length] at la lb
  omega

theorem mem_openHolds {h : Hold} (x : (s.holdSlot k).hold? = some h) : (k, h) ∈ openHolds s := by
  rcases Table.read_mem defaultHoldSlot s.purse.holds k with e | e
  · rw [show s.holdSlot k = defaultHoldSlot from e] at x
    exact nomatch x
  · exact List.mem_filterMap.2 ⟨(k, s.holdSlot k), e, by rw [x]; rfl⟩

end OpenHolds

/-! ## The calls of PUR on a card's entry (R10, R21) -/

section Calls

variable {s : State} {c w : Nat} {e : CardEntry}

/-- The card has one valid entry in its set, whether or not a lookup sees it. -/
structure State.Reads (s : State) (c w : Nat) (e : CardEntry) : Prop where
  way : w < 4
  entry : s.entry (setIndex c) w = some e
  card : e.card = c
  only : ∀ v < 4, v ≠ w → ∀ x, s.entry (setIndex c) v = some x → x.card ≠ c

theorem State.Holds.reads (x : s.Holds c w e) : s.Reads c w e := ⟨x.way, x.entry, x.card, x.only⟩

theorem readCard_reads (x : s.Reads c w e) (ok : e.Sound) : readCard c s = (some (w, e), s) :=
  readAmong_holds x.entry x.card ok rfl (List.mem_range.2 x.way) fun v hv => x.only v (List.mem_range.1 hv)

theorem callEntry_reads (x : s.Reads c w e) (ok : e.Sound) (f : CardEntry → CardEntry → CardEntry) :
    callEntry c f s = s.setEntry (setIndex c) w (some { f e (e.refresh s.clock.day) with codeDiff := 0 }) := by
  unfold callEntry
  rw [readCard_reads x ok]
  exact writeEntry_some _ x.entry

/-- The card's entry is read after a write of it that keeps its card. -/
theorem State.Reads.rewritten (x : s.Reads c w e) {y : CardEntry} (card : y.card = c) :
    (s.setEntry (setIndex c) w (some y)).Reads c w y where
  way := x.way
  entry := State.setEntry_entry_same _ _ _ _
  card := card
  only v hv ne z hz := by
    rw [State.setEntry_entry _ _ _ _ _ _ x.way hv, if_neg fun h => ne h.2] at hz
    exact x.only v hv ne z hz

/-- And it is found, in an enabled way or with open holds. -/
theorem State.Holds.rewritten (x : s.Holds c w e) {y : CardEntry} (card : y.card = c)
    (found : (s.way w).enabled = true ∨ 0 < y.holdCount) : (s.setEntry (setIndex c) w (some y)).Holds c w y :=
  let ⟨way, entry, own, only⟩ := x.reads.rewritten card
  ⟨way, entry, own, found, only⟩

/-- An entry after the day adjustment (R21). -/
def CardEntry.adjusted (e : CardEntry) (spend alcohol : Int) (day today : Nat) : CardEntry :=
  { e.refresh today with
    daySpend := if e.dayStamp = day then adjust maxAmount (e.spend today) spend else e.spend today
    dayAlcohol := if e.dayStamp = day then adjust 255 (e.alcohol today) alcohol else e.alcohol today
    codeDiff := 0 }

theorem callAdjust_reads (x : s.Reads c w e) (ok : e.Sound) (spend alcohol : Int) (day : Nat) :
    callAdjust c spend alcohol day s = s.setEntry (setIndex c) w (some (e.adjusted spend alcohol day s.clock.day)) := by
  unfold callAdjust
  rw [callEntry_reads x ok]
  by_cases h : e.dayStamp = day <;> simp [h, CardEntry.adjusted, CardEntry.refresh]

/-- An entry with one open hold fewer. -/
def CardEntry.oneLess (e : CardEntry) (today : Nat) : CardEntry := { e.refresh today with holdCount := e.holdCount - 1, codeDiff := 0 }

/-- Whether an entry leaves when its last hold has ended (R10). -/
def CardEntry.leavesAt (e : CardEntry) (enabled : Bool) : Bool := e.holdCount = 0 && (e.suspect || !enabled)

theorem callHoldEnd_reads (x : s.Reads c w e) (ok : e.Sound) : callHoldEnd c s =
    let written := s.setEntry (setIndex c) w (some (e.oneLess s.clock.day))
    if (e.oneLess s.clock.day).leavesAt (s.way w).enabled then leaveTable (setIndex c) w written else written := by
  have written := writeEntry_some (fun e => { e with holdCount := e.holdCount - 1 }) x.entry
  unfold callHoldEnd
  rw [readCard_reads x ok]
  simp only [written, State.setEntry_entry_same]
  rfl

end Calls

/-! ## The end of a hold (R153, R156) -/

section Ends

/-- The exposure moves, the card's counters are adjusted and its hold count falls, and the slot is FREE. -/
def endHold (slot : Nat) (h : Hold) (last : LastEnd) (given : Nat → Nat) (spend alcohol : Int) (s : State) : State :=
  let s := moveExposure h.folio given s
  let s := callAdjust h.card spend alcohol h.day s
  let s := callHoldEnd h.card s
  s.setHoldSlot slot { s.holdSlot slot with body := .free, lastEnd := last }

theorem releaseHold_eq (slot : Nat) (h : Hold) (last : LastEnd) (s : State) :
    releaseHold slot h last s = endHold slot h last (· - h.total) (-(h.total : Int)) (-(h.alcohol : Int)) s := rfl

variable {s t : State} {slot : Nat} {h : Hold} {last : LastEnd} {given : Nat → Nat} {spend alcohol : Int}

theorem Keeps.setHoldSlot (k : Keeps s t) (n : Nat) (v : HoldSlot) : Keeps s (t.setHoldSlot n v) :=
  { k with
    wf := fun a => wf_iff.2 (by
      have c := wf_iff.1 (k.wf a)
      exact { c with holds := Table.wf_write n v c.holds }) }

theorem Keeps.setFolio (k : Keeps s t) (n : Nat) (f : Folio) : Keeps s (t.setFolio n f) :=
  { k with
    wf := fun a => wf_iff.2 (by
      have c := wf_iff.1 (k.wf a)
      exact { c with folios := Table.wf_write n f c.folios }) }

/-- The calls of the end of a hold, from the state whose exposure has moved. -/
theorem endHold_calls (s : State) (c : Nat) (spend alcohol : Int) (day : Nat) :
    Checked s (callHoldEnd c (callAdjust c spend alcohol day s)) := ((Checked.refl s).callAdjust c spend alcohol day).callHoldEnd c

theorem Keeps.endHold (k : Keeps s t) (slot : Nat) (h : Hold) (last : LastEnd) (given : Nat → Nat) (spend alcohol : Int) :
    Keeps s (endHold slot h last given spend alcohol t) :=
  ((k.setFolio _ _).trans (endHold_calls _ _ _ _ _).tabled.keeps).setHoldSlot _ _

/-- What the end of a hold leaves of the purse, and of the blocks it does not touch. -/
theorem endHold_checked : ∃ entries ways l r, endHold slot h last given spend alcohol s =
    (((s.withCards { s.cards with entries := entries, ways := ways }).withPurse { s.purse with
      folios := Table.write defaultFolio h.folio { s.folio h.folio with exposure := given (s.folio h.folio).exposure } s.purse.folios
      holds := Table.write defaultHoldSlot slot { s.holdSlot slot with body := .free, lastEnd := last } s.purse.holds }).withLink
        l).withFrc r ∧ Notified s.link l := by
  obtain ⟨⟨x, y, l, r, shape⟩, notified, _⟩ := endHold_calls (moveExposure h.folio given s) h.card spend alcohol h.day
  rw [shape] at notified
  refine ⟨x, y, l, r, ?_, notified⟩
  unfold endHold
  dsimp only
  rw [shape]
  rfl

theorem endHold_shape : ∃ c l r, endHold slot h last given spend alcohol s = (((s.withCards c).withPurse { s.purse with
    folios := Table.write defaultFolio h.folio { s.folio h.folio with exposure := given (s.folio h.folio).exposure } s.purse.folios
    holds := Table.write defaultHoldSlot slot { s.holdSlot slot with body := .free, lastEnd := last } s.purse.holds }).withLink
      l).withFrc r :=
  let ⟨x, y, l, r, shape, _⟩ := endHold_checked
  ⟨{ s.cards with entries := x, ways := y }, l, r, shape⟩

/-- The entry after the end of a hold of its card. -/
def CardEntry.ended (e : CardEntry) (spend alcohol : Int) (day today : Nat) (enabled : Bool) : Option CardEntry :=
  let left := (e.adjusted spend alcohol day today).oneLess today
  if left.leavesAt enabled then none else some left

/-- The table with a card's entry written twice over, once for the counters and once for the hold count. -/
def writtenTwice (c w : Nat) (first second : CardEntry) (s : State) : State :=
  (s.setEntry (setIndex c) w (some first)).setEntry (setIndex c) w (some second)

/-- The calls of the end of a hold write its card's entry, which then stays or leaves. -/
theorem endCalls_eq {w c day : Nat} {e : CardEntry} (x : s.Reads c w e) (ok : e.Sound) :
    callHoldEnd c (callAdjust c spend alcohol day s) =
      let once := e.adjusted spend alcohol day s.clock.day
      let written := writtenTwice c w once (once.oneLess s.clock.day) s
      if (once.oneLess s.clock.day).leavesAt (s.way w).enabled then leaveTable (setIndex c) w written else written := by
  rw [callAdjust_reads x ok]
  exact callHoldEnd_reads (x.rewritten x.card) (.inr rfl)

/-- They write the place of its card's entry, and nothing else of the table. -/
theorem endCalls_reads {w c day : Nat} {e : CardEntry} (x : s.Reads c w e) (ok : e.Sound) :
    (∃ ents, (callHoldEnd c (callAdjust c spend alcohol day s)).cards = { s.cards with entries := ents }) ∧
    ∀ set, ∀ v < 4, (callHoldEnd c (callAdjust c spend alcohol day s)).entry set v =
      if set = setIndex c ∧ v = w then e.ended spend alcohol day s.clock.day (s.way w).enabled else s.entry set v := by
  rw [endCalls_eq x ok]
  dsimp only
  unfold CardEntry.ended
  dsimp only
  generalize e.adjusted spend alcohol day s.clock.day = once
  generalize once.oneLess s.clock.day = left
  have entry (set v : Nat) (hv : v < 4) : (writtenTwice c w once left s).entry set v =
      if set = setIndex c ∧ v = w then some left else s.entry set v := by
    unfold writtenTwice
    rw [State.setEntry_entry _ _ _ _ _ _ x.way hv]
    split
    · rfl
    · rename_i away
      rw [State.setEntry_entry _ _ _ _ _ _ x.way hv, if_neg away]
  split
  · refine ⟨?_, fun set v hv => ?_⟩
    · obtain ⟨l, r, shape⟩ := leaveTable_tells (s := writtenTwice c w once left s) (State.setEntry_entry_same _ _ _ _)
      exact ⟨_, by rw [shape]; rfl⟩
    · rw [leaveTable_entry x.way hv]
      split
      · rfl
      · rename_i away
        rw [entry set v hv, if_neg away]
  · exact ⟨⟨_, rfl⟩, entry⟩

/-- With room for its DAY-TALLY they report no fault, and send at most that. -/
theorem endCalls_quiet {w c day : Nat} {e : CardEntry} (x : s.Reads c w e) (ok : e.Sound) (room : s.NoticeRoom 1) :
    (callHoldEnd c (callAdjust c spend alcohol day s)).frc = s.frc ∧
      noticesWaiting (callHoldEnd c (callAdjust c spend alcohol day s)).link.tx ≤ noticesWaiting s.link.tx + 1 := by
  rw [endCalls_eq x ok]
  dsimp only
  split
  · rw [leaveTable_room (s := writtenTwice c w _ _ s) (State.setEntry_entry_same _ _ _ _) room]
    split
    · exact ⟨rfl, (congrArg noticesWaiting (rfl : _ = s.link.tx ++ _)).trans_le (by simp)⟩
    · exact ⟨rfl, Nat.le_succ _⟩
  · exact ⟨rfl, Nat.le_succ _⟩

/-- So does the end of a hold. -/
theorem endHold_entries {w : Nat} {e : CardEntry} (x : s.Reads h.card w e) (ok : e.Sound) :
    (∃ ents, (endHold slot h last given spend alcohol s).cards = { s.cards with entries := ents }) ∧
    ∀ set, ∀ v < 4, (endHold slot h last given spend alcohol s).entry set v =
      if set = setIndex h.card ∧ v = w then e.ended spend alcohol h.day s.clock.day (s.way w).enabled else s.entry set v :=
  endCalls_reads (s := moveExposure h.folio given s) ⟨x.way, x.entry, x.card, x.only⟩ ok

end Ends

end Sys2Proof.Machine

namespace Sys2Proof.Machine

open Sys2Proof

/-! ## What the writes of a slot keep (R21, R141, R167) -/

section SlotWrites

variable {s t : State} {k : Nat} {v : HoldSlot}

/-- A slot whose hold comes, goes or stays: the exposure of its folio follows, and no append of the queue is of it. -/
theorem State.MoneyKept.slotWritten (a : s.MoneyKept) (wf : Table.wf defaultHoldSlot s.purse.holds = true)
    (holds : t.purse.holds = Table.write defaultHoldSlot k v s.purse.holds) (starting : t.starting = s.starting)
    (states : ∀ n, (t.folio n).state = (s.folio n).state)
    (exposures : ∀ n, (s.folio n).state ≠ .closed → (t.folio n).exposure + share n (s.holdSlot k).hold? + journalSum s n =
      (s.folio n).exposure + share n v.hold? + journalSum t n)
    (closed : ∀ n, (s.folio n).state = .closed → share n v.hold? ≤ share n (s.holdSlot k).hold?)
    (queue : t.store.queue.Sublist s.store.queue) (other : ∀ r ∈ t.store.queue, r.appendSlot ≠ some k)
    (store : t.store = s.store ∨ t.store.write = none) : t.MoneyKept where
  exposure n loaded := by
    rw [states] at loaded
    have sums := heldSum_write wf holds n
    have old := a.exposure n loaded
    have moved := exposures n loaded
    omega
  unloaded n none := by
    rw [states] at none
    have sums := heldSum_write wf holds n
    have old := a.unloaded n none
    have less := closed n none
    omega
  starting on n := (states n).trans (a.starting (starting ▸ on) n)
  appends r hr slot x awaits e := by
    obtain ⟨h, c, body, fits⟩ := a.appends r (queue.subset hr) slot x awaits e
    have ne : slot ≠ k := fun same => other r hr (by rw [e, same]; rfl)
    refine ⟨h, c, ?_, fits⟩
    unfold State.holdSlot
    rw [holds, Table.read_write_other _ _ _ ne]
    exact body
  single := (queue.filterMap _).nodup a.single
  idle empty := by
    rcases store with same | none
    · rw [same]; exact a.idle (same ▸ empty)
    · exact none
  written slot x awaits rest place e next second hq hw := by
    rcases store with same | none
    · exact a.written slot x awaits rest place e next second (same ▸ hq) (same ▸ hw)
    · exact nomatch none.symm.trans hw

/-- No append is queued of a slot that is not COMMITTING. -/
theorem State.MoneyKept.notQueued (a : s.MoneyKept) (held : ∀ h c, (s.holdSlot k).body ≠ .committing h c) :
    ∀ r ∈ s.store.queue, r.appendSlot ≠ some k := by
  intro r hr same
  cases r with
  | entry slot x awaits =>
    obtain ⟨h, c, body, _⟩ := a.appends _ hr slot x awaits rfl
    cases same
    exact held h c body
  | slot | settle | muster | day => exact nomatch same

/-- The held total of a slot is part of its folio's exposure. -/
theorem share_le_heldSum (wf : Table.wf defaultHoldSlot s.purse.holds = true) (k n : Nat) :
    share n (s.holdSlot k).hold? ≤ heldSum s n := by
  have := heldSum_write (t := s.setHoldSlot k defaultHoldSlot) (k := k) (v := defaultHoldSlot) wf rfl n
  have none : share n defaultHoldSlot.hold? = 0 := rfl
  omega

/-- An entry whose hold count is a card's open holds, when one of them ends. -/
theorem State.HoldsCounted.endHold (a : s.HoldsCounted) (b : s.TableBounded) (wf : Table.wf defaultHoldSlot s.purse.holds = true)
    {h : Hold} (held : (s.holdSlot k).hold? = some h) (last : LastEnd) (given : Nat → Nat) (spend alcohol : Int) :
    (endHold k h last given spend alcohol s).HoldsCounted := by
  obtain ⟨w, e, x, ok⟩ : ∃ w e, s.Holds h.card w e ∧ e.Sound := (a.finds b h.card).resolve_left fun lacks => by
    obtain ⟨w, hw, e, he, card⟩ := a.covered _ (mem_openHolds held)
    exact lacks w hw e he card
  obtain ⟨⟨ents, cards⟩, entries⟩ := endHold_entries (slot := k) (last := last) (given := given) (spend := spend) (alcohol := alcohol)
    x.reads ok
  obtain ⟨c, l, r, shape⟩ := endHold_shape (slot := k) (h := h) (last := last) (given := given) (spend := spend) (alcohol := alcohol)
    (s := s)
  have holds : (Machine.endHold k h last given spend alcohol s).purse.holds =
      Table.write defaultHoldSlot k { s.holdSlot k with body := .free, lastEnd := last } s.purse.holds := by rw [shape]; rfl
  obtain ⟨count, two⟩ := a.counts _ w x.way e x.entry
  have fewer (c' : Nat) : (holdsOfCard (Machine.endHold k h last given spend alcohol s) c').length + ofCard c' (some h) =
      (holdsOfCard s c').length := by
    have := holdsOfCard_write wf holds c'
    rwa [held] at this
  have own := fewer h.card
  simp only [ofCard, Option.elim_some, if_true] at own
  rw [x.card] at count
  have left : (e.adjusted spend alcohol h.day s.clock.day).holdCount = e.holdCount := rfl
  refine a.reseat (c := h.card) (w := w) _ (fun y hy => ?_) x.only x.way entries (by rw [cards]) (by rw [cards]) (fun c' ne => ?_)
    (fun y hy => ?_) fun gone => ?_
  · rw [x.entry] at hy; cases hy; exact x.card
  · have := fewer c'
    simpa [ofCard, Ne.symm ne] using this
  · unfold CardEntry.ended at hy
    dsimp only at hy
    split at hy
    · cases hy
    · rename_i stays
      cases hy
      refine ⟨x.card, .inr rfl, ?_, ?_, ?_⟩
      · change e.holdCount - 1 = _; omega
      · change e.holdCount - 1 ≤ 2; omega
      · by_cases zero : e.holdCount - 1 = 0
        · have zero : ((e.adjusted spend alcohol h.day s.clock.day).oneLess s.clock.day).holdCount = 0 := zero
          simp only [CardEntry.leavesAt, zero, decide_true, Bool.true_and, Bool.or_eq_true, Bool.not_eq_true', not_or,
            Bool.not_eq_false] at stays
          exact .inl stays.2
        · exact .inr (Nat.pos_of_ne_zero zero)
  · unfold CardEntry.ended at gone
    dsimp only at gone
    split at gone
    · rename_i goes
      simp only [CardEntry.leavesAt, Bool.and_eq_true, decide_eq_true_eq] at goes
      have zero : e.holdCount - 1 = 0 := goes.1
      exact List.length_eq_zero_iff.1 (by omega)
    · cases gone

end SlotWrites

end Sys2Proof.Machine

namespace Sys2Proof.Machine

open Sys2Proof

/-! ## Holds that end (R156 to R158) -/

section EndedHolds

variable {s t u : State} {k : Nat} {h : Hold} {last : LastEnd} {given : Nat → Nat} {spend alcohol : Int}

/-- The end of a hold gives its total back to the folio, less what the journal has gained meanwhile. -/
theorem State.MoneyKept.endHold (a : s.MoneyKept) (wf : Table.wf defaultHoldSlot s.purse.holds = true)
    (held : (s.holdSlot k).hold? = some h) (purse : u.purse = s.purse) (starting : u.starting = s.starting) (gain : Nat)
    (journal : ∀ n, journalSum u n = journalSum s n + if n = h.folio then gain else 0)
    (moves : ∀ x, given x = x + gain - h.total) (queue : u.store.queue.Sublist s.store.queue)
    (other : ∀ r ∈ u.store.queue, r.appendSlot ≠ some k) (store : u.store = s.store ∨ u.store.write = none) :
    (endHold k h last given spend alcohol u).MoneyKept := by
  obtain ⟨c, l, r, shape⟩ := endHold_shape (slot := k) (h := h) (last := last) (given := given) (spend := spend) (alcohol := alcohol)
    (s := u)
  have folio (n : Nat) : (Machine.endHold k h last given spend alcohol u).folio n =
      if n = h.folio then { s.folio h.folio with exposure := given (s.folio h.folio).exposure } else s.folio n := by
    rw [shape]
    change Table.read defaultFolio (Table.write defaultFolio h.folio
      { Table.read defaultFolio u.purse.folios h.folio with exposure := given (Table.read defaultFolio u.purse.folios h.folio).exposure }
      u.purse.folios) n = _
    rw [purse, Table.read_write]
    rfl
  have sum (n : Nat) : journalSum (Machine.endHold k h last given spend alcohol u) n = journalSum u n := by rw [shape]; rfl
  refine a.slotWritten (k := k) (v := { u.holdSlot k with body := .free, lastEnd := last }) wf ?_ ?_ (fun n => ?_)
    (fun n loaded => ?_) (fun n _ => Nat.zero_le _) ?_ ?_ ?_
  · rw [shape]
    change Table.write _ _ _ u.purse.holds = _
    rw [purse]
  · rw [shape]; exact starting
  · rw [folio]
    split
    · rename_i same
      rw [same]
    · rfl
  · have exposed := a.exposure n loaded
    have part := share_le_heldSum wf k n
    have free : share n ({ u.holdSlot k with body := .free, lastEnd := last } : HoldSlot).hold? = 0 := rfl
    rw [held] at part ⊢
    rw [sum, journal, folio, free]
    by_cases own : n = h.folio
    · subst own
      simp only [share, Option.elim_some, if_true, moves] at part ⊢
      omega
    · simp [share, own, Ne.symm own]
  · rw [shape]; exact queue
  · rw [shape]; exact other
  · rw [shape]; exact store

theorem endHold_room (wf : Table.wf defaultHoldSlot s.purse.holds = true) (held : (s.holdSlot k).hold? = some h) :
    (openHolds (endHold k h last given spend alcohol s)).length + 1 = (openHolds s).length := by
  obtain ⟨c, l, r, shape⟩ := endHold_shape (slot := k) (h := h) (last := last) (given := given) (spend := spend) (alcohol := alcohol)
    (s := s)
  have := openHolds_length_write (s := s) (t := endHold k h last given spend alcohol s) (k := k)
    (v := { s.holdSlot k with body := .free, lastEnd := last }) wf (by rw [shape]; rfl)
  rw [held] at this
  exact this

theorem hold?_held {x : Hold} {expiry : Nat} (body : (s.holdSlot k).body = .held x expiry) : (s.holdSlot k).hold? = some x := by
  simp [HoldSlot.hold?, body]

theorem hold?_committing {x : Hold} {c : CommitPart} (body : (s.holdSlot k).body = .committing x c) :
    (s.holdSlot k).hold? = some x := by
  simp [HoldSlot.hold?, body]

theorem hold?_free (body : (s.holdSlot k).body = .free) : (s.holdSlot k).hold? = none := by
  simp [HoldSlot.hold?, body]

/-- The totals of the listed journal entries that name a folio. -/
def totalsOf (n : Nat) (es : List JournalEntry) : Nat := ((es.filter (·.folio = n)).map (·.total)).sum

theorem journalSum_append {es : List JournalEntry} (h : u.journal.entries = s.journal.entries ++ es) (n : Nat) :
    journalSum u n = journalSum s n + totalsOf n es := by
  simp [journalSum, entriesOfFolio, totalsOf, h]

/-- The journal with entries at its tail. -/
def gainEntries (es : List JournalEntry) (s : State) : State := s.withJournal { s.journal with entries := s.journal.entries ++ es }

/-- The end of a hold, which the journal has one entry of at most. -/
theorem KeepsBooks.endHold (x : KeepsBooks s t) (held : (t.holdSlot k).hold? = some h) {es : List JournalEntry} (few : es.length ≤ 1)
    (gain : Nat) (moves : ∀ x, given x = x + gain - h.total) (own : s.MoneyKept → t.MoneyKept →
      (∀ n, totalsOf n es = if n = h.folio then gain else 0) ∧ ∀ r ∈ t.store.queue, r.appendSlot ≠ some k) :
    KeepsBooks s (endHold k h last given spend alcohol (gainEntries es t)) := by
  refine { ({ x.toKeeps with } : Keeps s (gainEntries es t)).endHold k h last _ _ _ with
    holds := fun w a b => ?_, money := fun w a => ?_, room := fun w a b => ?_ } <;> have c := wf_iff.1 (x.wf w)
  · have b := (holdsOk_iff.1 (x.holds w a b)).congr (t := gainEntries es t) rfl rfl rfl rfl
    exact holdsOk_iff.2 (b.endHold (tableOk_iff.1 (x.table a)) c.holds held _ _ _ _)
  · have m := moneyOk_iff.1 (x.money w a)
    obtain ⟨gained, other⟩ := own (moneyOk_iff.1 a) m
    exact moneyOk_iff.2 (m.endHold c.holds held rfl rfl gain (fun n => (journalSum_append rfl n).trans (by rw [gained])) moves
      (.refl _) other (.inl rfl))
  · have fewer := endHold_room (s := gainEntries es t) (last := last) (given := given) (spend := spend) (alcohol := alcohol)
      c.holds held
    have before := roomOk_iff.1 (x.room w a b)
    have same : openHolds (gainEntries es t) = openHolds t := rfl
    obtain ⟨c, l, r, shape⟩ := endHold_shape (slot := k) (h := h) (last := last) (given := given) (spend := spend)
      (alcohol := alcohol) (s := gainEntries es t)
    have journal : (Machine.endHold k h last given spend alcohol (gainEntries es t)).journal.entries = t.journal.entries ++ es := by
      rw [shape]; rfl
    refine roomOk_iff.2 ?_
    unfold State.RoomForAppends at before ⊢
    rw [journal, List.length_append]
    rw [same] at fewer
    omega

theorem gainEntries_nil (s : State) : gainEntries [] s = s := by
  unfold gainEntries
  rw [List.append_nil]
  rfl

/-- The release of a hold no append is queued of. -/
theorem KeepsBooks.letGo (x : KeepsBooks s t) (held : (t.holdSlot k).hold? = some h) (last : LastEnd)
    (own : s.MoneyKept → t.MoneyKept → ∀ r ∈ t.store.queue, r.appendSlot ≠ some k) : KeepsBooks s (releaseHold k h last t) := by
  rw [releaseHold_eq, ← gainEntries_nil t]
  exact x.endHold held (Nat.zero_le _) 0 (fun _ => rfl) fun a b => ⟨fun n => by simp [totalsOf], own a b⟩

/-- The release of a HELD hold. -/
theorem KeepsBooks.releaseHold (x : KeepsBooks s t) {expiry : Nat} (body : (t.holdSlot k).body = .held h expiry) (last : LastEnd) :
    KeepsBooks s (releaseHold k h last t) :=
  x.letGo (hold?_held body) last fun _ m => m.notQueued fun _ _ e => nomatch body.symm.trans e

theorem Says.holdSlot (x : Says s t) (n : Nat) : t.holdSlot n = s.holdSlot n := by
  obtain ⟨⟨l, r, rfl⟩, _⟩ := x
  rfl

theorem KeepsBooks.expireIfDue (x : KeepsBooks s t) (slot : Nat) : KeepsBooks s (expireIfDue slot t) := by
  unfold Machine.expireIfDue
  split
  · rename_i h expiry body
    have told : Says t (tellExpired slot h .timeout t) := says_notify t _
    exact .ite (fun _ => (x.says told).releaseHold ((congrArg HoldSlot.body (told.holdSlot slot)).trans body) _) fun _ => x
  all_goals exact x

theorem namedHold_ok {number expiry : Nat} {onExpiry : Result} (x : namedHold number onExpiry s = .ok (h, expiry)) :
    (s.holdSlot (holdNumberSlot number)).body = .held h expiry := by
  unfold namedHold at x
  dsimp only at x
  split at x
  · cases x
  · rename_i h' expiry' body
    split at x
    · cases x; exact body
    · cases x
  · cases x

theorem KeepsBooks.voidHold (x : KeepsBooks s t) (number : Nat) (id : ReqId) : KeepsBooks s (voidHold number id t) := by
  unfold Machine.voidHold
  split
  · exact x.says (says_answer _ _ _ _)
  · rename_i named
    exact (x.releaseHold (namedHold_ok named) _).says (says_answer _ _ _ _)

end EndedHolds

end Sys2Proof.Machine

namespace Sys2Proof.Machine

open Sys2Proof

/-! ## Holds that are committed (R152, R165) -/

section Commits

variable {s t : State}

/-- What a keeping of the hold counts starts from. -/
structure Sound (s : State) : Prop where
  canonical : s.Canonical
  bounded : s.TableBounded
  counted : s.HoldsCounted

theorem KeepsBooks.sound (x : KeepsBooks s t) (a : Sound s) : Sound t where
  canonical := wf_iff.1 (x.wf (wf_iff.2 a.canonical))
  bounded := tableOk_iff.1 (x.table (tableOk_iff.2 a.bounded))
  counted := holdsOk_iff.1 (x.holds (wf_iff.2 a.canonical) (tableOk_iff.2 a.bounded) (holdsOk_iff.2 a.counted))

/-- As many open holds of each card as before. -/
theorem State.HoldsCounted.recount (a : s.HoldsCounted) (cards : t.cards = s.cards)
    (counts : ∀ c, (holdsOfCard t c).length = (holdsOfCard s c).length) : t.HoldsCounted := by
  have entry (m n : Nat) : t.entry m n = s.entry m n := by unfold State.entry; rw [cards]
  have way (m : Nat) : t.way m = s.way m := by unfold State.way; rw [cards]
  have fetch (m : Nat) : t.fetch m = s.fetch m := by unfold State.fetch; rw [cards]
  refine ⟨by simpa only [entry] using a.1, by simpa only [entry] using a.2, fun set v hv e he => ?_,
    by simpa only [entry, way] using a.4, fun y hy => ?_, by simpa only [fetch] using a.6⟩
  · rw [entry] at he
    rw [counts]
    exact a.counts set v hv e he
  · have some : 0 < (holdsOfCard s y.2.card).length := by
      rw [← counts]
      exact List.length_pos_of_mem (mem_holdsOfCard.2 ⟨rfl, y.1, hy⟩)
    obtain ⟨z, hz⟩ := List.exists_mem_of_length_pos some
    obtain ⟨own, n, mem⟩ := mem_holdsOfCard.1 hz
    obtain ⟨v, hv, e, he, card⟩ := a.covered _ mem
    rw [own] at he card
    exact ⟨v, hv, e, (entry _ _).trans he, card⟩

/-- A slot goes on to hold the same. -/
theorem State.HoldsCounted.sameHold (a : s.HoldsCounted) (wf : Table.wf defaultHoldSlot s.purse.holds = true) {k : Nat} {v : HoldSlot}
    (holds : t.purse.holds = Table.write defaultHoldSlot k v s.purse.holds) (same : v.hold? = (s.holdSlot k).hold?)
    (cards : t.cards = s.cards) : t.HoldsCounted :=
  a.recount cards fun c => by
    have := holdsOfCard_write wf holds c
    rw [same] at this
    omega

/-- A HELD hold becomes COMMITTING and its append joins the queue. -/
def joinCommit (slot : Nat) (h : Hold) (c : CommitPart) (awaits : Option ReqId) (s : State) : State :=
  let u := s.setHoldSlot slot { s.holdSlot slot with body := .committing h c }
  u.withStore { u.store with queue := u.store.queue ++ [.entry slot (appendOf h c) awaits] }

theorem KeepsBooks.joinCommit (x : KeepsBooks s t) {slot expiry : Nat} {h : Hold} (body : (t.holdSlot slot).body = .held h expiry)
    (c : CommitPart) (awaits : Option ReqId) (room : t.store.queue.length < 8) : KeepsBooks s (joinCommit slot h c awaits t) := by
  have same : ({ t.holdSlot slot with body := .committing h c } : HoldSlot).hold? = (t.holdSlot slot).hold? := by
    rw [hold?_held body]; rfl
  have free : t.MoneyKept → ∀ r ∈ t.store.queue, r.appendSlot ≠ some slot := fun a =>
    a.notQueued fun _ _ e => nomatch body.symm.trans e
  have holds : (Machine.joinCommit slot h c awaits t).purse.holds =
      Table.write defaultHoldSlot slot { t.holdSlot slot with body := .committing h c } t.purse.holds := rfl
  have bounded : (Machine.joinCommit slot h c awaits t).StoreBounded :=
    ⟨by simpa [Machine.joinCommit] using room, fun _ => List.append_ne_nil_of_right_ne_nil _ (List.cons_ne_nil _ _)⟩
  refine x.trans { (Keeps.refl t).setHoldSlot slot { t.holdSlot slot with body := .committing h c } with
    store := fun _ => storeOk_iff.2 bounded, holds := fun w _ b => ?_, money := fun w a => ?_, room := fun w _ b => ?_ }
  · exact holdsOk_iff.2 ((holdsOk_iff.1 b).sameHold (wf_iff.1 w).holds holds same rfl)
  · have m := moneyOk_iff.1 a
    have committing := m.slotWritten (t := t.setHoldSlot slot { t.holdSlot slot with body := .committing h c }) (wf_iff.1 w).holds rfl rfl
      (fun _ => rfl) (fun n _ => by rw [same]; rfl) (fun n _ => by rw [same]) (.refl _) (free m) (.inl rfl)
    refine moneyOk_iff.2 (committing.join _ fun slot' a' awaits' e => ?_)
    cases e
    refine ⟨fun mem => ?_, h, c, ?_, rfl, rfl⟩
    · obtain ⟨r, hr, own⟩ := List.mem_filterMap.1 mem
      exact free m r hr own
    · rw [State.setHoldSlot_holdSlot, if_pos rfl]
  · have length := openHolds_length_write (wf_iff.1 w).holds holds
    rw [same] at length
    have room := roomOk_iff.1 b
    refine roomOk_iff.2 (Eq.trans_le (congrArg (· + t.journal.entries.length) ?_) room)
    omega

theorem KeepsBooks.beginWrite (x : KeepsBooks s t) : KeepsBooks s (beginWrite t) := x.beside (Beside.refl t).beginWrite

theorem KeepsBooks.commit (x : KeepsBooks s t) (number subtotal alcohol : Nat) (id : ReqId) :
    KeepsBooks s (commit number subtotal alcohol id t) := by
  unfold Machine.commit
  split
  · exact x.says (says_answer _ _ _ _)
  · rename_i h expiry named
    refine .ite (fun _ => x.says (says_answer _ _ _ _)) fun _ => .ite (fun _ => x.says (says_answer _ _ _ _)) fun _ =>
      .ite (fun _ => (x.says (says_report _ _ _)).says (says_answer _ _ _ _)) fun _ => .ite (fun _ => x.says (says_answer _ _ _ _))
        fun room => ?_
    have joined := x.joinCommit (namedHold_ok named) (commitPart h subtotal alcohol (expiry - t.clock.shipTime)) (some id)
      (length_of_not_full room)
    exact .ite (fun _ => joined.beginWrite) fun _ => joined

end Commits

/-! ## Holds that are created (R121 to R124) -/

section Creations

variable {s t u : State} {slot reuse expiry : Nat} {h : Hold}

/-- The slot is taken, the exposure moves, and the card's counters and hold count with it. -/
def takeHold (slot reuse : Nat) (h : Hold) (expiry : Nat) (s : State) : State :=
  callAuthorize h.card h.total h.alcohol
    (moveExposure h.folio (· + h.total) (s.setHoldSlot slot { s.holdSlot slot with body := .held h expiry, reuse := reuse }))

theorem createHold_eq (p : Presentation) (h : Hold) (slot : Nat) (d : Decision) (s : State) :
    createHold p h slot d s =
      let reuse := ((s.holdSlot slot).reuse + 1) % 8
      expireIfDue slot (decide' p { d with outcome := .approved, hold := some (holdNumber slot reuse), sign := d.tier = 1 }
        (takeHold slot reuse h (expiryAfter s.purse.holdTime s) s)) := rfl

/-- What it leaves of the purse, and of the blocks it does not touch. -/
theorem takeHold_shape : ∃ c l r, takeHold slot reuse h expiry s = (((s.withCards c).withPurse { s.purse with
    folios := Table.write defaultFolio h.folio { s.folio h.folio with exposure := (s.folio h.folio).exposure + h.total } s.purse.folios
    holds := Table.write defaultHoldSlot slot { s.holdSlot slot with body := .held h expiry, reuse := reuse } s.purse.holds }).withLink
      l).withFrc r := by
  obtain ⟨⟨c, l, r, shape⟩, _⟩ := ((Checked.refl (moveExposure h.folio (· + h.total)
    (s.setHoldSlot slot { s.holdSlot slot with body := .held h expiry, reuse := reuse }))).callAuthorize h.card h.total
      h.alcohol).tabled
  exact ⟨c, l, r, shape.trans rfl⟩

/-- The entry of an approved charge. -/
def CardEntry.charged (e : CardEntry) (total alcohol today : Nat) : CardEntry :=
  { e.refresh today with
    holdCount := e.holdCount + 1, daySpend := satAdd maxAmount (e.spend today) total
    dayAlcohol := satAdd 255 (e.alcohol today) alcohol, codeDiff := 0 }

theorem takeHold_holds {w : Nat} {e : CardEntry} (x : s.Holds h.card w e) (ok : e.Sound) :
    takeHold slot reuse h expiry s =
      (moveExposure h.folio (· + h.total) (s.setHoldSlot slot { s.holdSlot slot with body := .held h expiry, reuse := reuse })).setEntry
        (setIndex h.card) w (some (e.charged h.total h.alcohol s.clock.day)) :=
  callEntry_reads (s := moveExposure h.folio (· + h.total)
    (s.setHoldSlot slot { s.holdSlot slot with body := .held h expiry, reuse := reuse })) ⟨x.way, x.entry, x.card, x.only⟩ ok _

/-- The entry of a card at a way, that a resumed charge is decided by. -/
def Seated (c w : Nat) (e : CardEntry) (s : State) : Prop := w < 4 ∧ s.entry (setIndex c) w = some e ∧ e.card = c

theorem Sound.holds (a : Sound s) {c w : Nat} {e : CardEntry} (seat : Seated c w e s) : s.Holds c w e ∧ e.Sound := by
  obtain ⟨hw, he, card⟩ := seat
  refine ⟨⟨hw, he, card, a.counted.serving _ w hw e he, fun v hv ne x hx same => ?_⟩, a.counted.sound _ w hw e he⟩
  exact ne (a.bounded.one _ v hv w hw x e hx he (same.trans card.symm))

theorem Sound.takeHold (a : Sound s) {w : Nat} {e : CardEntry} (seat : Seated h.card w e s) (few : e.holdCount < 2)
    (free : (s.holdSlot slot).body = .free) : (takeHold slot reuse h expiry s).HoldsCounted := by
  obtain ⟨x, ok⟩ := a.holds seat
  have holds : (Machine.takeHold slot reuse h expiry s).purse.holds =
      Table.write defaultHoldSlot slot { s.holdSlot slot with body := .held h expiry, reuse := reuse } s.purse.holds := by
    obtain ⟨c, l, r, shape⟩ := takeHold_shape (slot := slot) (reuse := reuse) (h := h) (expiry := expiry) (s := s)
    rw [shape]; rfl
  have more (c : Nat) : (holdsOfCard (Machine.takeHold slot reuse h expiry s) c).length = (holdsOfCard s c).length + ofCard c (some h) := by
    have := holdsOfCard_write a.canonical.holds holds c
    rwa [hold?_free free] at this
  obtain ⟨count, _⟩ := a.counted.counts _ w x.way e x.entry
  have own := more h.card
  simp only [ofCard, Option.elim_some, if_true] at own
  rw [x.card] at count
  refine a.counted.reseat (c := h.card) (w := w) (some (e.charged h.total h.alcohol s.clock.day)) (fun y hy => ?_) x.only x.way
    (fun set v hv => ?_) (by rw [takeHold_holds x ok]; rfl) (by rw [takeHold_holds x ok]; rfl) (fun c ne => ?_) (fun y hy => ?_) nofun
  · rw [x.entry] at hy; cases hy; exact x.card
  · rw [takeHold_holds x ok, State.setEntry_entry _ _ _ _ _ _ x.way hv]
    rfl
  · rw [more]
    simp [ofCard, Ne.symm ne]
  · cases hy
    refine ⟨x.card, .inr rfl, ?_, ?_, .inr (Nat.succ_pos _)⟩
    · change e.holdCount + 1 = _; omega
    · change e.holdCount + 1 ≤ 2; omega

theorem Keeps.takeHold (x : Keeps s t) (slot reuse : Nat) (h : Hold) (expiry : Nat) : Keeps s (takeHold slot reuse h expiry t) :=
  ((x.setHoldSlot _ _).setFolio _ _).trans ((Checked.refl _).callAuthorize _ _ _).tabled.keeps

theorem KeepsBooks.takeHold (x : KeepsBooks s t) (free : (t.holdSlot slot).body = .free) (opened : (t.folio h.folio).state ≠ .closed)
    (seat : Sound s → ∃ w e, Seated h.card w e t ∧ e.holdCount < 2) (room : boundSum t < 512) (reuse expiry : Nat) :
    KeepsBooks s (takeHold slot reuse h expiry t) := by
  obtain ⟨c, l, r, shape⟩ := takeHold_shape (slot := slot) (reuse := reuse) (h := h) (expiry := expiry) (s := t)
  have holds : (Machine.takeHold slot reuse h expiry t).purse.holds =
      Table.write defaultHoldSlot slot { t.holdSlot slot with body := .held h expiry, reuse := reuse } t.purse.holds := by
    rw [shape]; rfl
  refine { x.toKeeps.takeHold slot reuse h expiry with
    holds := fun w a b => ?_, money := fun w a => ?_, room := fun w a b => ?_ }
  · have source : Sound s := ⟨wf_iff.1 w, tableOk_iff.1 a, holdsOk_iff.1 b⟩
    obtain ⟨way, e, here, few⟩ := seat source
    exact holdsOk_iff.2 ((x.sound source).takeHold here few free)
  · have m := moneyOk_iff.1 (x.money w a)
    have folio (n : Nat) : (Machine.takeHold slot reuse h expiry t).folio n =
        if n = h.folio then { t.folio h.folio with exposure := (t.folio h.folio).exposure + h.total } else t.folio n := by
      rw [shape]
      exact Table.read_write _ _ _ _ _
    refine moneyOk_iff.2 (m.slotWritten (wf_iff.1 (x.wf w)).holds holds (by rw [shape]; rfl) (fun n => ?_) (fun n _ => ?_)
      (fun n closed => ?_) (by rw [shape]; exact .refl _) ?_ (by rw [shape]; exact .inl rfl))
    · rw [folio]
      split
      · rename_i same
        rw [same]
      · rfl
    · have sum : journalSum (Machine.takeHold slot reuse h expiry t) n = journalSum t n := by rw [shape]; rfl
      rw [hold?_free free, sum, folio]
      by_cases own : n = h.folio
      · subst own
        simp only [share, Option.elim_none, HoldSlot.hold?, Option.elim_some, if_true]
        omega
      · simp [share, HoldSlot.hold?, own, Ne.symm own]
    · have ne : h.folio ≠ n := fun same => opened (same ▸ closed)
      simp [share, HoldSlot.hold?, ne]
    · rw [shape]
      exact m.notQueued fun _ _ e => nomatch free.symm.trans e
  · refine roomOk_iff.2 ?_
    have length := openHolds_length_write (wf_iff.1 (x.wf w)).holds holds
    rw [hold?_free free] at length
    have journal : (Machine.takeHold slot reuse h expiry t).journal = t.journal := by rw [shape]; rfl
    unfold State.RoomForAppends
    unfold boundSum at room
    rw [journal]
    change (openHolds (Machine.takeHold slot reuse h expiry t)).length + 0 = (openHolds t).length + 1 at length
    omega

theorem KeepsBooks.createHold (x : KeepsBooks s t) (p : Presentation) (d : Decision) (free : (t.holdSlot slot).body = .free)
    (opened : (t.folio h.folio).state ≠ .closed) (seat : Sound s → ∃ w e, Seated h.card w e t ∧ e.holdCount < 2)
    (room : boundSum t < 512) : KeepsBooks s (createHold p h slot d t) := by
  rw [createHold_eq]
  exact ((x.takeHold free opened seat room _ _).says (says_decide' _ _ _)).expireIfDue slot

end Creations

end Sys2Proof.Machine

namespace Sys2Proof.Machine

open Sys2Proof

/-! ## Presentations handed back (R7, R8, R23, R24) -/

section HandedBack

variable {s t u : State} {p : Presentation} {e : CardEntry}

/-- What an approved charge has been through: a free slot, a loaded folio, a card with fewer than two holds, and room. -/
structure Creates (p : Presentation) (e : CardEntry) (t u : State) (slot : Nat) (h : Hold) (d : Decision) : Prop where
  result : u = createHold p h slot d t
  card : h.card = p.card
  free : (t.holdSlot slot).body = .free
  opened : (t.folio h.folio).state ≠ .closed
  few : e.holdCount < 2
  room : boundSum t < 512

/-- A charge is answered, and nothing else, or it creates its hold. -/
theorem decideCharge_cases (p : Presentation) (a : ChargeAmounts) (e : CardEntry) (t : State) :
    Says t (decideCharge p a e t) ∨ ∃ slot h d, Creates p e t (decideCharge p a e t) slot h d := by
  have refused (r : Result) : Says t (refuseCharge p e r t) := says_decide' t p _
  unfold decideCharge
  split
  · exact .inl (refused _)
  split
  · exact .inl (refused _)
  split
  · exact .inl (refused _)
  split
  · exact .inl (refused _)
  split
  · exact .inl (refused _)
  split
  · exact .inl (refused _)
  split
  · exact .inl (refused _)
  · exact .inl (refused _)
  rename_i opened
  unfold amountChecks
  dsimp only
  split
  · exact .inl (says_decide' t p _)
  split
  · exact .inl (says_decide' t p _)
  unfold roomChecks
  split
  · exact .inl (says_decide' t p _)
  rename_i slot found
  split
  · exact .inl (says_decide' t p _)
  split
  · exact .inl ((says_report t _ _).trans (says_decide' _ p _))
  rename_i few room
  exact .inr ⟨slot, _, _, rfl, rfl, by simpa using List.find?_some found, fun closed => (nomatch opened.symm.trans closed),
    Nat.lt_of_not_le few, Nat.lt_of_not_le room⟩

/-- A presentation handed back to its block leaves the books alone, or is a charge that creates its hold. -/
theorem handBack_cases (p : Presentation) (e : CardEntry) (t : State) :
    Beside t (handBack p e t) ∨ (∃ a, p.job = .charge a) ∧ ∃ slot h d, Creates p e t (handBack p e t) slot h d := by
  unfold handBack
  split
  · exact .inl ((Beside.refl t).decideDoor p e)
  · exact .inl ((Beside.refl t).decideLane p e)
  · exact .inl ((Beside.refl t).decideMuster p e)
  · rename_i a job
    exact (decideCharge_cases p a e t).imp Says.beside fun x => ⟨⟨a, job⟩, x⟩

/-- A charge must be decided by the entry of its card. -/
theorem KeepsBooks.handBack (x : KeepsBooks s t) (seat : ∀ a, p.job = .charge a → Sound s → ∃ w, Seated p.card w e t) :
    KeepsBooks s (handBack p e t) := by
  rcases handBack_cases p e t with beside | ⟨⟨a, job⟩, slot, h, d, created⟩
  · exact x.beside beside
  · rw [created.result]
    refine x.createHold p d created.free created.opened (fun source => ?_) created.room
    obtain ⟨w, here⟩ := seat a job source
    exact ⟨w, e, created.card ▸ here, created.few⟩

theorem KeepsBooks.resumeWith (x : KeepsBooks s t) (seat : ∀ a, p.job = .charge a → Sound s → ∃ w, Seated p.card w e t) :
    KeepsBooks s (resumeWith e t p) :=
  .ite (fun _ => x.says (says_refuse _ _ _)) fun _ => .ite (fun _ => x.says (says_refuse _ _ _)) fun _ => x.handBack seat

/-- The entry a lookup hands back is the card's. -/
theorem Sound.lookup (a : Sound s) {c : Nat} (found : (lookup c s).1 = some e) : ∃ w, Seated c w e (lookup c s).2 := by
  unfold Machine.lookup at found ⊢
  split at found
  · cases found
  · rename_i w way
    have hw := findWay_lt way
    have own := List.find?_some way
    dsimp only at found ⊢
    rw [a.counted.verify hw] at found ⊢
    cases he : s.entry (setIndex c) w with
    | none => rw [he] at found; cases found
    | some o =>
      rw [he] at found own
      simp only [Option.any_some, Bool.and_eq_true, decide_eq_true_eq] at own
      dsimp only at found ⊢
      split at found
      · cases found
      · rename_i fresh
        rw [if_neg fresh]
        cases found
        refine ⟨w, hw, ?_, own.1⟩
        split
        · exact he
        · exact he

theorem KeepsBooks.askCard (x : KeepsBooks s t) (p : Presentation) : KeepsBooks s (askCard p t).2 := by
  have waits (v : State) (y : KeepsBooks s v) : KeepsBooks s (Machine.startFetch p v).2 := y.startFetch p
  have looked := x.lookup p.card
  unfold Machine.askCard
  dsimp only
  split
  · exact x
  · split <;> rename_i found <;> rw [found] at looked
    · split
      · exact looked
      · split
        · exact looked
        · exact waits _ looked
    · exact waits _ looked

theorem Sound.askCard (a : Sound s) (found : (askCard p s).1 = .handedBack e) : ∃ w, Seated p.card w e (askCard p s).2 := by
  have asked (v : State) : (if (Machine.startFetch p v).1 = true then CardAnswer.waiting else .refused .fetchFull) ≠ .handedBack e := by
    split <;> exact nofun
  have looked := fun o => a.lookup (c := p.card) (e := o)
  unfold Machine.askCard at found ⊢
  dsimp only at found ⊢
  split at found <;> rename_i zero
  · cases found
  · rw [if_neg zero]
    cases hl : Machine.lookup p.card s with
    | mk o v =>
      rw [hl] at found looked
      cases o with
      | none => exact absurd found (asked _)
      | some o =>
        dsimp only at found ⊢
        split at found <;> rename_i newer
        · cases found
        · split at found <;> rename_i same
          · rw [if_neg newer, if_pos same]
            cases found
            exact looked _ rfl
          · exact absurd found (asked _)

theorem KeepsBooks.present (x : KeepsBooks s t) (p : Presentation) : KeepsBooks s (present p t) := by
  have asked := x.askCard p
  have seat := fun (source : Sound s) o => (x.sound source).askCard (p := p) (e := o)
  unfold Machine.present
  split
  · exact x.says (says_refuse _ _ _)
  · cases hask : Machine.askCard p t with
    | mk answer v =>
      rw [hask] at asked seat
      cases answer with
      | handedBack e => exact asked.handBack fun _ _ source => seat source e rfl
      | refused r => exact asked.says (says_refuse _ _ _)
      | waiting => exact asked

theorem KeepsBooks.presentAt (x : KeepsBooks s t) (portal card gen : Nat) (id : ReqId) : KeepsBooks s (presentAt portal card gen id t) := by
  unfold Machine.presentAt
  dsimp only
  split
  · exact x.says (says_reply _ _ _)
  · exact .ite (fun _ => x.says (says_refuse _ _ _)) fun _ => .ite (fun _ => x.says (says_refuse _ _ _)) fun _ =>
      .ite (fun _ => x.says (says_refuse _ _ _)) fun _ => x.present _

theorem KeepsBooks.authorize (x : KeepsBooks s t) (portal card gen : Nat) (a : ChargeAmounts) (id : ReqId) :
    KeepsBooks s (authorize portal card gen a id t) :=
  .ite (fun _ => x.says (says_refuse _ _ _)) fun _ => .ite (fun _ => x.says (says_refuse _ _ _)) fun _ =>
    .ite (fun _ => x.says (says_refuse _ _ _)) fun _ => x.present _

/-! ### A charge leaves its card's entry in its place -/

/-- The card has its entry at a way, not suspect. -/
def Stays (c w : Nat) (s : State) : Prop := ∃ e, Seated c w e s ∧ e.suspect = false

theorem Stays.congr {c w : Nat} (a : Stays c w s) (same : t.cards = s.cards) : Stays c w t := by
  obtain ⟨e, ⟨hw, he, card⟩, fresh⟩ := a
  refine ⟨e, ⟨hw, ?_, card⟩, fresh⟩
  unfold State.entry at he ⊢
  rw [same]; exact he

theorem Tells.holds {c w : Nat} (h : Tells s t) (x : s.Holds c w e) : t.Holds c w e := by
  obtain ⟨l, r, rfl⟩ := h
  exact ⟨x.way, x.entry, x.card, x.found, x.only⟩

/-- The entry stays where it is not suspect and is served without the hold that ended. -/
theorem ended_stays (fresh : e.suspect = false) {spend alcohol : Int} {day today : Nat} {enabled : Bool}
    (served : enabled = true ∨ 1 < e.holdCount) :
    ∃ y, e.ended spend alcohol day today enabled = some y ∧ y.card = e.card ∧ y.suspect = false := by
  refine ⟨(e.adjusted spend alcohol day today).oneLess today, if_neg ?_, rfl, fresh⟩
  change ¬ (decide (e.holdCount - 1 = 0) && (e.suspect || !enabled)) = true
  rw [fresh]
  rcases served with on | more
  · simp [on]
  · simp [show ¬ e.holdCount - 1 = 0 by omega]

/-- So it does when a hold of its card expires. -/
theorem expireIfDue_stays {w slot expiry : Nat} {h : Hold} (x : s.Holds h.card w e) (ok : e.Sound) (fresh : e.suspect = false)
    (served : (s.way w).enabled = true ∨ 1 < e.holdCount) (body : (s.holdSlot slot).body = .held h expiry) :
    Stays h.card w (expireIfDue slot s) := by
  unfold expireIfDue
  rw [body]
  dsimp only
  split
  · have told : Tells s (tellExpired slot h .timeout s) := tells_notify s _
    have there := told.holds x
    rw [← told.way] at served
    generalize tellExpired slot h .timeout s = t at there served
    obtain ⟨y, ended, card, plain⟩ := ended_stays fresh (spend := -(h.total : Int)) (alcohol := -(h.alcohol : Int)) (day := h.day)
      (today := t.clock.day) served
    obtain ⟨_, entries⟩ := endHold_entries (slot := slot) (last := .expired) (given := (· - h.total)) (spend := -(h.total : Int))
      (alcohol := -(h.alcohol : Int)) there.reads ok
    have entry := entries (setIndex h.card) w x.way
    rw [if_pos ⟨rfl, rfl⟩, ended] at entry
    exact ⟨y, ⟨x.way, entry, card.trans x.card⟩, plain⟩
  · exact ⟨e, ⟨x.way, x.entry, x.card⟩, fresh⟩

theorem takeHold_body {slot reuse expiry : Nat} {h : Hold} : ((takeHold slot reuse h expiry s).holdSlot slot).body = .held h expiry := by
  obtain ⟨c, l, r, shape⟩ := takeHold_shape (slot := slot) (reuse := reuse) (h := h) (expiry := expiry) (s := s)
  have read : (takeHold slot reuse h expiry s).holdSlot slot = { s.holdSlot slot with body := .held h expiry, reuse := reuse } := by
    rw [shape]
    exact Table.read_write_same defaultHoldSlot s.purse.holds slot { s.holdSlot slot with body := .held h expiry, reuse := reuse }
  rw [read]

/-- The hold is released again only where it leaves the entry as many holds as it had. -/
theorem Sound.createHold_stays (a : Sound s) {w slot : Nat} {h : Hold} (seat : Seated h.card w e s) (fresh : e.suspect = false)
    (d : Decision) : Stays h.card w (createHold p h slot d s) := by
  obtain ⟨x, ok⟩ := a.holds seat
  have served := a.counted.serving _ w x.way e x.entry
  rw [createHold_eq]
  dsimp only
  generalize ((s.holdSlot slot).reuse + 1) % 8 = reuse
  generalize expiryAfter s.purse.holdTime s = expiry
  have taken := takeHold_holds (slot := slot) (reuse := reuse) (expiry := expiry) x ok
  have there : (Machine.takeHold slot reuse h expiry s).Holds h.card w (e.charged h.total h.alcohol s.clock.day) := by
    rw [taken]
    have moved : (moveExposure h.folio (· + h.total)
        (s.setHoldSlot slot { s.holdSlot slot with body := .held h expiry, reuse := reuse })).Holds h.card w e :=
      ⟨x.way, x.entry, x.card, x.found, x.only⟩
    exact moved.rewritten (y := e.charged h.total h.alcohol s.clock.day) x.card (.inr (Nat.succ_pos e.holdCount))
  have way : (Machine.takeHold slot reuse h expiry s).way w = s.way w := by rw [taken]; rfl
  have body := takeHold_body (s := s) (slot := slot) (reuse := reuse) (h := h) (expiry := expiry)
  generalize Machine.takeHold slot reuse h expiry s = v at there way body
  have said := says_decide' v p { d with outcome := .approved, hold := some (holdNumber slot reuse), sign := d.tier = 1 }
  refine expireIfDue_stays (said.shape.holds there) (.inr rfl) fresh ?_ ((congrArg HoldSlot.body (said.holdSlot slot)).trans body)
  rw [said.shape.way, way]
  exact served.imp_right Nat.succ_lt_succ

theorem Sound.handBack_stays (a : Sound s) {c w : Nat} (card : p.card = c) (seat : Seated c w e s) (fresh : e.suspect = false) :
    Stays c w (handBack p e s) := by
  rcases handBack_cases p e s with beside | ⟨_, slot, h, d, created⟩
  · exact Stays.congr ⟨e, seat, fresh⟩ beside.cards
  · rw [created.result]
    have own : h.card = c := created.card.trans card
    exact own ▸ a.createHold_stays (own ▸ seat) fresh d

end HandedBack

end Sys2Proof.Machine

namespace Sys2Proof.Machine

open Sys2Proof

/-! ## Delivered records (R16 to R18, R23, R24) -/

section Loads

variable {s t u : State} {fresh : CardEntry}

/-- A record as it is delivered: its entry is a new one. -/
structure CardEntry.Delivered (e : CardEntry) : Prop where
  resident : e.resident = false
  holdCount : e.holdCount = 0
  suspect : e.suspect = false
  codeDiff : e.codeDiff = 0

/-- The way a record's entry stands at. -/
def Placed.way : Placed → Option Nat
  | .updated w | .installed w => some w
  | .failed => none

theorem install_entry {e : CardEntry} {w : Nat} (x : (install e s).1 = some w) :
    w < 4 ∧ (install e s).2.entry (setIndex e.card) w = some e := by
  cases choice : chooseWay s (setIndex e.card) with
  | none => rw [install_none choice] at x; cases x
  | some v =>
    have hw := chooseWay_lt choice
    unfold install at x ⊢
    simp only [choice] at x ⊢
    cases x
    exact ⟨hw, (State.setEntry_entry (leaveTable (setIndex e.card) w s) _ _ _ _ (some e) hw hw).trans (if_pos ⟨rfl, rfl⟩)⟩

/-- A record is merged into its card's entry, or installed where the card has none. -/
theorem State.HoldsCounted.placeRecord (a : s.HoldsCounted) (b : s.TableBounded) (d : fresh.Delivered) :
    (placeRecord fresh s).2.HoldsCounted ∧
      ∀ w, (Machine.placeRecord fresh s).1.way = some w → Stays fresh.card w (Machine.placeRecord fresh s).2 := by
  rcases a.finds b fresh.card with lacks | ⟨w, e, x, ok⟩
  · have installed := a.install b lacks (.inr d.codeDiff) d.holdCount
    have entry := fun w => install_entry (s := s) (e := fresh) (w := w)
    rw [placeRecord_lacks lacks fun v hv y hy => a.sound _ v hv y hy]
    split <;> rename_i hi <;> rw [hi] at installed entry
    · refine ⟨installed, fun v hv => ?_⟩
      cases hv
      obtain ⟨hw, he⟩ := entry _ rfl
      exact ⟨fresh, ⟨hw, he, rfl⟩, d.suspect⟩
    · exact ⟨installed, nofun⟩
  · rw [placeRecord_holds x ok]
    refine ⟨a.writeEntry b x.way (·.merge fresh) fun y hy => ?_, fun v hv => ?_⟩
    · cases x.entry.symm.trans hy
      exact ⟨x.card.symm, rfl⟩
    · cases hv
      dsimp only
      rw [writeEntry_some _ x.entry]
      exact ⟨_, ⟨x.way, (State.setEntry_entry _ _ _ _ _ _ x.way x.way).trans (if_pos ⟨rfl, rfl⟩), rfl⟩, d.suspect⟩

theorem KeepsBooks.placeRecord (h : KeepsBooks s t) (d : fresh.Delivered) : KeepsBooks s (placeRecord fresh t).2 :=
  h.tabled ((Tabled.refl t).placeRecord fresh d.resident) fun b a => (a.placeRecord b d).1

/-- A presentation resumed against the table's entry, which it leaves in its place. -/
theorem KeepsBooks.resumeAt {p : Presentation} {c w : Nat} (h : KeepsBooks s t) (own : Sound s → p.card = c)
    (seat : Sound s → Stays c w t) : KeepsBooks s (resumeAt c w fresh t p) ∧ (Sound s → Stays c w (Machine.resumeAt c w fresh t p)) := by
  have entry (a : Sound s) : ∃ e, (t.entry (setIndex c) w).getD fresh = e ∧ Seated c w e t ∧ e.suspect = false := by
    obtain ⟨e, x, plain⟩ := seat a
    exact ⟨e, by rw [x.2.1]; rfl, x, plain⟩
  constructor
  · refine h.resumeWith fun _ _ a => ⟨w, ?_⟩
    obtain ⟨e, he, x, _⟩ := entry a
    rw [he, own a]
    exact x
  · intro a
    obtain ⟨e, he, x, plain⟩ := entry a
    unfold Machine.resumeAt Machine.resumeWith
    rw [he]
    split
    · exact (seat a).congr (says_refuse t p _).beside.cards
    split
    · exact (seat a).congr (says_refuse t p _).beside.cards
    · exact (h.sound a).handBack_stays (own a) x plain

theorem KeepsBooks.resumeAll {ps : List Presentation} {c w : Nat} (h : KeepsBooks s t) (own : Sound s → ∀ p ∈ ps, p.card = c)
    (seat : Sound s → Stays c w t) : KeepsBooks s (ps.foldl (Machine.resumeAt c w fresh) t) := by
  induction ps generalizing t with
  | nil => exact h
  | cons p ps ih =>
    obtain ⟨kept, stays⟩ := h.resumeAt (fresh := fresh) (fun a => own a p (.head _)) seat
    exact ih kept (fun a q hq => own a q (.tail _ hq)) stays

theorem KeepsBooks.resumePassed {p : Presentation} (h : KeepsBooks s t) : KeepsBooks s (resumePassed fresh t p) := by
  unfold Machine.resumePassed
  split <;> rename_i job
  · exact h.says (says_refuse _ _ _)
  all_goals exact h.resumeWith fun a charge => nomatch job.symm.trans charge

theorem KeepsBooks.answerFetch (h : KeepsBooks s t) (id : ReqId) {n : Nat} {f : Fetch} (d : fresh.Delivered) (hn : n < 16)
    (hf : t.fetch n = some f) (card : f.card = fresh.card) : KeepsBooks s (answerFetch id n f fresh t) := by
  have marked : (f.marks fresh).Delivered := ⟨d.1, d.2, d.3, d.4⟩
  have placed := h.placeRecord marked
  have seat := fun a : Sound s => (((h.sound a).counted).placeRecord (h.sound a).bounded marked).2
  have own (a : Sound s) (p : Presentation) (hp : p ∈ f.waiting) : p.card = fresh.card :=
    ((h.sound a).counted.waiting n hn f hf p hp).trans card
  cases hp : Machine.placeRecord (f.marks fresh) t with
  | mk x v =>
    rw [hp] at placed seat
    have ended : KeepsBooks s (v.setFetch n none) := placed.setFetch n none (fun _ _ => nofun) fun _ _ => nofun
    cases x with
    | updated w =>
      rw [answerFetch_updated hp]
      exact (ended.resumeAll own fun a => seat a w rfl).says (says_answer _ _ _ _)
    | installed w =>
      rw [answerFetch_installed hp]
      exact (ended.resumeAll own fun a => seat a w rfl).says (says_answer _ _ _ _)
    | failed =>
      rw [answerFetch_passed hp]
      exact (ended.foldl f.waiting (f := Machine.resumePassed (f.marks fresh)) fun _ _ _ k => k.resumePassed).says (says_answer _ _ _ _)

theorem KeepsBooks.loadRecord (h : KeepsBooks s t) (id : ReqId) (d : fresh.Delivered) : KeepsBooks s (loadRecord id fresh t) := by
  have placed := h.placeRecord d
  unfold Machine.loadRecord
  split <;> rename_i hp <;> rw [hp] at placed <;> exact placed.says (says_answer _ _ _ _)

theorem KeepsBooks.cardLoad (h : KeepsBooks s t) (r : CardRecord) (id : ReqId) : KeepsBooks s (cardLoad r id t) := by
  unfold Machine.cardLoad
  split
  · exact h.says (says_answer _ _ _ _)
  · have delivered (cls : CardClass) (grants : List Grant) : (entryOf r cls grants t.clock.day).Delivered := ⟨rfl, rfl, rfl, rfl⟩
    dsimp only
    split
    · rename_i pending
      obtain ⟨hn, hf, card⟩ := fetchOf_some pending
      exact h.answerFetch id (delivered _ _) hn hf card
    · exact h.loadRecord id (delivered _ _)

end Loads

end Sys2Proof.Machine

namespace Sys2Proof.Machine

open Sys2Proof

/-! ## The ends of the store's writes (R153, R154, R171, R181) -/

section WriteEnds

variable {s t u : State}

/-- The slot of an append that has left the queue: COMMITTING under the folio and total of its entry, and of no other append. -/
structure Appended (slot folio total : Nat) (s : State) : Prop where
  committing : ∃ h c, (s.holdSlot slot).body = .committing h c ∧ folio = h.folio ∧ total = c.total
  other : ∀ r ∈ s.store.queue, r.appendSlot ≠ some slot

theorem Says.appended {slot folio total : Nat} (x : Says s t) (a : Appended slot folio total s) : Appended slot folio total t := by
  obtain ⟨⟨l, r, rfl⟩, _⟩ := x
  exact ⟨a.committing, a.other⟩

theorem KeepsBooks.closeCommit (x : KeepsBooks s t) {slot : Nat} {e : JournalEntry} (awaits : Option ReqId)
    (own : s.MoneyKept → Appended slot e.folio e.total t) : KeepsBooks s (closeCommit slot e awaits t) := by
  unfold Machine.closeCommit
  dsimp only
  split <;> rename_i body <;> have body : (t.holdSlot slot).body = _ := body
  · rename_i h c _
    have ended : KeepsBooks s (Machine.endHold slot h .committed (fun x => x + c.total - h.total) ((c.total : Int) - h.total)
        ((c.alcohol : Int) - h.alcohol) (gainEntries [e] t)) := by
      refine x.endHold (hold?_committing body) (Nat.le_refl _) c.total (fun _ => rfl) fun a _ => ?_
      obtain ⟨⟨h', c', body', folio, total⟩, other⟩ := own a
      obtain ⟨rfl, rfl⟩ := HoldBody.committing.inj (body.symm.trans body')
      refine ⟨fun n => ?_, other⟩
      by_cases same : n = h.folio
      · simp [totalsOf, folio, total, same]
      · simp [totalsOf, folio, same, Ne.symm same]
    exact .ite (fun _ => ended) fun _ => ended.says (says_replyWaiting _ _ _)
  all_goals
    have lost (a : s.MoneyKept) : False := by
      obtain ⟨⟨h, c, body', _⟩, _⟩ := own a
      exact nomatch body.symm.trans body'
    exact { x with
      holds := fun w a b => holdsOk_iff.2 ((holdsOk_iff.1 (x.holds w a b)).congr rfl rfl rfl rfl)
      money := fun _ a => (lost (moneyOk_iff.1 a)).elim
      room := fun _ a _ => (lost (moneyOk_iff.1 a)).elim }

/-- An append that failed leaves its hold HELD. -/
theorem KeepsBooks.backToHeld (x : KeepsBooks s t) {slot : Nat} {h : Hold} {c : CommitPart}
    (body : (t.holdSlot slot).body = .committing h c) (expiry : Nat) (other : s.MoneyKept → ∀ r ∈ t.store.queue, r.appendSlot ≠ some slot) :
    KeepsBooks s (t.setHoldSlot slot { t.holdSlot slot with body := .held h expiry }) := by
  have same : ({ t.holdSlot slot with body := .held h expiry } : HoldSlot).hold? = (t.holdSlot slot).hold? := by
    rw [hold?_committing body]; rfl
  refine { x.toKeeps.setHoldSlot slot { t.holdSlot slot with body := .held h expiry } with
    holds := fun w a b => ?_, money := fun w a => ?_, room := fun w a b => ?_ } <;> have c := wf_iff.1 (x.wf w)
  · exact holdsOk_iff.2 ((holdsOk_iff.1 (x.holds w a b)).sameHold c.holds rfl same rfl)
  · exact moneyOk_iff.2 ((moneyOk_iff.1 (x.money w a)).slotWritten c.holds rfl rfl (fun _ => rfl) (fun n _ => by rw [same]; rfl)
      (fun n _ => by rw [same]) (.refl _) (other (moneyOk_iff.1 a)) (.inl rfl))
  · have length := openHolds_length_write (t := t.setHoldSlot slot { t.holdSlot slot with body := .held h expiry }) (k := slot)
      (v := { t.holdSlot slot with body := .held h expiry }) c.holds rfl
    rw [same] at length
    have room := roomOk_iff.1 (x.room w a b)
    refine roomOk_iff.2 (Eq.trans_le (congrArg (· + t.journal.entries.length) ?_) room)
    omega

theorem KeepsBooks.failCommit (x : KeepsBooks s t) {slot folio total : Nat} (awaits : Option ReqId)
    (own : s.MoneyKept → Appended slot folio total t) : KeepsBooks s (failCommit slot awaits t) := by
  unfold Machine.failCommit
  split <;> rename_i body
  · rename_i h c
    dsimp only
    refine .ite (fun _ => ?_) fun _ => ?_
    · have told : Says t (tellExpired slot h .unbooked t) := says_notify t _
      exact (x.says told).letGo (hold?_committing ((congrArg HoldSlot.body (told.holdSlot slot)).trans body)) _ fun a _ =>
        (told.appended (own a)).other
    · exact ((x.backToHeld body _ fun a => (own a).other).says (says_replyWaiting _ _ _)).expireIfDue slot
  all_goals exact x

/-! ### Settlements -/

/-- Folios change and nothing else, in a way the books bear. -/
theorem State.MoneyKept.refolio (a : s.MoneyKept) (holds : t.purse.holds = s.purse.holds) (store : t.store = s.store)
    (loaded : ∀ n, (t.folio n).state ≠ .closed → (t.folio n).exposure = heldSum s n + journalSum t n)
    (closed : ∀ n, (t.folio n).state = .closed → heldSum s n = 0)
    (starting : t.starting = true → ∀ n, (t.folio n).state = .closed) : t.MoneyKept := by
  have slot (n : Nat) : t.holdSlot n = s.holdSlot n := by unfold State.holdSlot; rw [holds]
  refine ⟨fun n ln => ?_, fun n cn => ?_, starting, ?_, store ▸ a.single, store ▸ a.idle, store ▸ a.written⟩
  · rw [heldSum_congr holds]; exact loaded n ln
  · rw [heldSum_congr holds]; exact closed n cn
  · simp only [slot, store]
    exact a.appends

/-- The totals of entries move off the exposures of loaded folios. -/
structure Settles (s t : State) (es : List JournalEntry) : Prop where
  shape : ∃ fs, t = s.withPurse { s.purse with folios := fs }
  wf : Table.wf defaultFolio s.purse.folios = true → Table.wf defaultFolio t.purse.folios = true
  states : ∀ n, (t.folio n).state = (s.folio n).state
  exposures : ∀ n, (s.folio n).state ≠ .closed → (t.folio n).exposure = (s.folio n).exposure - totalsOf n es

theorem settles_nil (s : State) : Settles s s [] := ⟨⟨s.purse.folios, rfl⟩, id, fun _ => rfl, fun _ _ => rfl⟩

theorem totalsOf_append (n : Nat) (es fs : List JournalEntry) : totalsOf n (es ++ fs) = totalsOf n es + totalsOf n fs := by
  simp [totalsOf]

theorem totalsOf_singleton (n : Nat) (e : JournalEntry) : totalsOf n [e] = if n = e.folio then e.total else 0 := by
  by_cases same : n = e.folio
  · simp [totalsOf, same]
  · simp [totalsOf, same, Ne.symm same]

theorem Settles.step {es : List JournalEntry} {acc : State × SettleTally} (x : Settles s acc.1 es) (e : JournalEntry) :
    Settles s (settleEntry acc e).1 (es ++ [e]) := by
  obtain ⟨t, tally⟩ := acc
  unfold settleEntry
  dsimp only at x ⊢
  split <;> rename_i closed
  · refine { x with exposures := fun n loaded => ?_ }
    have ne : n ≠ e.folio := fun same => loaded (by rw [← x.states, same]; exact closed)
    rw [x.exposures n loaded, totalsOf_append, totalsOf_singleton, if_neg ne, Nat.add_zero]
  · refine ⟨?_, fun a => Table.wf_write _ _ (x.wf a), fun n => ?_, fun n loaded => ?_⟩
    · obtain ⟨fs, rfl⟩ := x.shape
      exact ⟨_, rfl⟩
    · rw [← x.states n, State.setFolio_folio]
      split
      · rename_i same
        rw [same]
      · rfl
    · rw [State.setFolio_folio, totalsOf_append, totalsOf_singleton]
      have before := x.exposures n loaded
      split
      · rename_i same
        subst same
        dsimp only
        omega
      · exact before

theorem settles_foldl {es fs : List JournalEntry} {acc : State × SettleTally} (x : Settles s acc.1 fs) :
    Settles s (es.foldl settleEntry acc).1 (fs ++ es) := by
  induction es generalizing acc fs with
  | nil => rw [List.append_nil]; exact x
  | cons e es ih =>
    have := ih (x.step e)
    rwa [List.append_assoc] at this

theorem KeepsBooks.completeSettle (x : KeepsBooks s t) (awaits : Option ReqId) : KeepsBooks s (completeSettle awaits t) := by
  unfold Machine.completeSettle
  split
  · exact x
  · rename_i m _
    dsimp only
    have settled := settles_foldl (s := t.withJournal { t.journal with entries := t.journal.entries.drop m.count, settle := none })
      (es := t.journal.entries.take m.count) (fs := [])
      (acc := (t.withJournal { t.journal with entries := t.journal.entries.drop m.count, settle := none }, {})) (settles_nil _)
    rw [List.nil_append] at settled
    generalize (t.journal.entries.take m.count).foldl settleEntry
      (t.withJournal { t.journal with entries := t.journal.entries.drop m.count, settle := none }, {}) = acc at settled ⊢
    refine KeepsBooks.says (t := acc.1) ?_ (says_replyWaiting _ _ _)
    obtain ⟨u, tally⟩ := acc
    obtain ⟨⟨fs, shape⟩, wf, states, exposures⟩ := settled
    dsimp only at shape wf states exposures ⊢
    have books (n : Nat) : journalSum t n = totalsOf n (t.journal.entries.take m.count) + journalSum u n := by
      have left : journalSum u n = totalsOf n (t.journal.entries.drop m.count) := by rw [shape]; rfl
      rw [left, ← totalsOf_append, List.take_append_drop]
      rfl
    have keeps : Keeps t u := by
      rw [shape] at wf ⊢
      exact { Keeps.refl t with wf := fun a => wf_iff.2 (by
                have c := wf_iff.1 a
                exact { c with folios := wf c.folios }) }
    refine x.trans { keeps with holds := fun _ _ b => ?_, money := fun _ a => ?_, room := fun _ _ b => ?_ }
    · refine holdsOk_iff.2 ((holdsOk_iff.1 b).congr ?_ ?_ ?_ ?_) <;> rw [shape] <;> rfl
    · have a := moneyOk_iff.1 a
      refine moneyOk_iff.2 (a.refolio (by rw [shape]; rfl) (by rw [shape]; rfl) (fun n loaded => ?_) (fun n closed => ?_) fun on n => ?_)
      · rw [states] at loaded
        have old := a.exposure n loaded
        have moved : (u.folio n).exposure = (t.folio n).exposure - _ := exposures n loaded
        have := books n
        omega
      · exact a.unloaded n ((states n).symm.trans closed)
      · exact (states n).trans (a.starting (by rw [shape] at on; exact on) n)
    · have b := roomOk_iff.1 b
      refine roomOk_iff.2 ?_
      unfold State.RoomForAppends at b ⊢
      have holds : openHolds u = openHolds t := by rw [shape]; rfl
      have : u.journal.entries = t.journal.entries.drop m.count := by rw [shape]; rfl
      rw [holds, this, List.length_drop]
      omega

/-! ### The end of a write -/

theorem KeepsBooks.reportEnd (x : KeepsBooks s t) (r : StoreReq) (c : WriteContent) (ok : Bool)
    (own : s.MoneyKept → ∀ slot a awaits place e next, r = .entry slot a awaits → c = .entry place e next →
      Appended slot e.folio e.total t) : KeepsBooks s (reportEnd r c ok t) := by
  unfold Machine.reportEnd
  split
  · exact x.beside ((Beside.refl t).endSlotWrite _ _ _ _)
  · exact .ite (fun _ => x.closeCommit _ fun a => own a _ _ _ _ _ _ rfl rfl) fun _ =>
      x.failCommit _ fun a => own a _ _ _ _ _ _ rfl rfl
  · exact .ite (fun _ => x.completeSettle _) fun _ => x.beside ((Beside.refl t).failSettle _)
  · exact x.beside ((Beside.refl t).endRecordWrite _ _)
  · exact x.beside ((Beside.refl t).endDayWrite _ _)
  · exact x

/-- The request at the head leaves the queue, its write done. -/
def dropHead (s : State) : State := s.withStore { s.store with queue := s.store.queue.drop 1, write := none }

theorem Beside.dropHead (h : Beside s t) : Beside s (dropHead t) :=
  { h with
    store := fun a => storeOk_iff.2 ⟨by
      have := (storeOk_iff.1 (h.store a)).queue
      change (t.store.queue.drop 1).length ≤ 8
      rw [List.length_drop]
      omega, nofun⟩
    money := fun a => moneyOk_iff.2 (by
      have m := moneyOk_iff.1 (h.money a)
      have queue : (t.store.queue.drop 1).Sublist t.store.queue := List.drop_sublist _ _
      exact ⟨m.exposure, m.unloaded, m.starting, fun r hr => m.appends r (queue.subset hr), (queue.filterMap _).nodup m.single,
        fun _ => rfl, nofun⟩) }

/-- The append whose write ends has left a COMMITTING hold of its own. -/
theorem State.MoneyKept.appended (a : s.MoneyKept) {slot place : Nat} {x : Append} {awaits : Option ReqId} {rest : List StoreReq}
    {e : JournalEntry} {next : Option Nat} {second : Bool} (hq : s.store.queue = .entry slot x awaits :: rest)
    (hw : s.store.write = some ⟨.entry place e next, second⟩) : Appended slot e.folio e.total (dropHead s) := by
  obtain ⟨folio, total⟩ := a.written slot x awaits rest place e next second hq hw
  obtain ⟨h, c, body, named, amount⟩ := a.appends _ (hq ▸ .head _) slot x awaits rfl
  refine ⟨⟨h, c, body, folio.trans named, total.trans amount⟩, fun r hr own => ?_⟩
  change r ∈ s.store.queue.drop 1 at hr
  have single := a.single
  rw [hq] at hr single
  rw [List.filterMap_cons_some (f := StoreReq.appendSlot) rfl] at single
  exact (List.nodup_cons.1 single).1 (List.mem_filterMap.2 ⟨r, hr, own⟩)

theorem writeMarker_store (m : Option Marker) (s : State) : (writeMarker m s).store = s.store := by
  have drawn (u : State) : (markerTry u).2.store = u.store := by unfold markerTry draw; split <;> rfl
  unfold writeMarker
  dsimp only
  split
  · exact drawn s
  · split
    · exact (drawn _).trans (drawn s)
    · exact (tells_report _ _ _).store.trans ((drawn _).trans (drawn s))

/-- The content of a write takes its place in the image. -/
theorem Beside.applyContent (h : Beside s t) (c : WriteContent) : Beside s (t.withImage (t.image.apply c)) := by
  cases c with
  | slot p r => exact h.withImage _ id (Table.wf_write p r)
  | entry place e next => exact h.withImage _ (fun a => Table.wf_write place (some (⟨e, next⟩ : EntryRecord)) a) id
  | settle | muster | day => exact h.withImage _ id id

theorem endWrite_keepsBooks {r : StoreReq} {rest : List StoreReq} {w : Write} (hq : t.store.queue = r :: rest)
    (hw : t.store.write = some w) (ok : Bool) : KeepsBooks t (endWrite r w ok t) := by
  have applied : Beside t (if ok = true then t.withImage (t.image.apply w.content) else t) :=
    .ite (fun _ => (Beside.refl t).applyContent _) fun _ => .refl t
  have same : (if ok = true then t.withImage (t.image.apply w.content) else t).store = t.store := by split <;> rfl
  unfold endWrite
  dsimp only
  generalize (if ok = true then t.withImage (t.image.apply w.content) else t) = a at applied same
  have counted := applied.withStore { a.store with
    secondAttempts := if (ok && w.second) = true then satAdd 65535 a.store.secondAttempts 1 else a.store.secondAttempts
    faults := if ok = true then a.store.faults else satAdd 65535 a.store.faults 1 }
  have marked := counted.writeMarker none
  have left := writeMarker_store none (a.withStore { a.store with
    secondAttempts := if (ok && w.second) = true then satAdd 65535 a.store.secondAttempts 1 else a.store.secondAttempts
    faults := if ok = true then a.store.faults else satAdd 65535 a.store.faults 1 })
  generalize writeMarker none _ = v at marked left
  have queue : v.store.queue = r :: rest := (congrArg Store.queue left).trans ((congrArg Store.queue same).trans hq)
  have write : v.store.write = some w := (congrArg Store.write left).trans ((congrArg Store.write same).trans hw)
  have said : Says (Machine.dropHead v) (if (!ok && !failedBefore w.content (Machine.dropHead v)) = true then
      report .storeFault (storeFaultFields r (Machine.dropHead v)) (Machine.dropHead v) else Machine.dropHead v) := by
    split
    · exact says_report _ _ _
    · exact .refl _
  refine (marked.dropHead.says said).keepsBooks.reportEnd r _ ok fun a slot y awaits place e next hr content => said.appended ?_
  have m : v.MoneyKept := moneyOk_iff.1 (marked.money (moneyOk_iff.2 a))
  obtain ⟨c, second⟩ := w
  subst hr content
  exact m.appended queue write

theorem KeepsBooks.attemptEnd (x : KeepsBooks s t) (readBackMatches : Bool) : KeepsBooks s (attemptEnd readBackMatches t) := by
  unfold Machine.attemptEnd
  split
  · rename_i w r rest hw hq
    exact .ite (fun _ => x.trans (endWrite_keepsBooks hq hw _)) fun _ => .ite (fun _ => x.trans (endWrite_keepsBooks hq hw _)) fun _ =>
      x.beside ((Beside.refl t).secondAttempt hw hq)
  · exact x

end WriteEnds

end Sys2Proof.Machine

namespace Sys2Proof.Machine

open Sys2Proof

/-! ## Folios (R141 to R145) -/

section Folios

variable {s t u : State}

theorem KeepsBooks.setFolio (x : KeepsBooks s t) {n : Nat} {f : Folio}
    (loaded : t.MoneyKept → f.state ≠ .closed → f.exposure = heldSum t n + journalSum t n ∧ t.starting = false)
    (closed : t.MoneyKept → f.state = .closed → heldSum t n = 0) : KeepsBooks s (t.setFolio n f) := by
  refine x.trans { (Keeps.refl t).setFolio n f with
    holds := fun _ _ b => holdsOk_iff.2 ((holdsOk_iff.1 b).congr rfl rfl rfl rfl), money := fun _ a => moneyOk_iff.2 ?_
    room := fun _ _ b => roomOk_iff.2 ((roomOk_iff.1 b).congr rfl rfl) }
  have a := moneyOk_iff.1 a
  refine a.refolio rfl rfl (fun m => ?_) (fun m => ?_) fun on m => ?_ <;> rw [State.setFolio_folio]
  · split
    · rename_i same
      subst same
      exact fun loaded' => (loaded a loaded').1
    · exact a.exposure m
  · split
    · rename_i same
      subst same
      exact closed a
    · exact a.unloaded m
  · split
    · by_contra loaded'
      exact nomatch (loaded a loaded').2.symm.trans on
    · exact a.starting on m

/-- A loaded folio goes on with its exposure. -/
theorem KeepsBooks.reload (x : KeepsBooks s t) {n : Nat} {f : Folio} (was : (t.folio n).state ≠ .closed) (is : f.state ≠ .closed)
    (exposure : f.exposure = (t.folio n).exposure) : KeepsBooks s (t.setFolio n f) :=
  x.setFolio (fun a _ => ⟨exposure.trans (a.exposure n was), by
    by_contra on
    exact was (a.starting (by simpa using on) n)⟩) fun _ closed => (is closed).elim

theorem loadedState_ne {n : Nat} {st : FolioState} (h : loadedState n = some st) : st ≠ .closed := by
  unfold loadedState at h
  split at h <;> cases h <;> exact nofun

theorem KeepsBooks.folioLoad (x : KeepsBooks s t) (ready : t.starting = false) (n limit : Nat) (balance : Int) (state : Nat) (id : ReqId) :
    KeepsBooks s (folioLoad n limit balance state id t) := by
  unfold Machine.folioLoad
  split
  · exact x.says (says_answer _ _ _ _)
  · rename_i st named
    have is := loadedState_ne named
    dsimp only
    refine .ite (fun _ => x.says (says_answer _ _ _ _)) fun _ => .ite (fun _ => x.says (says_answer _ _ _ _)) fun _ =>
      .ite (fun closed => ?_) fun was =>
      (x.reload (f := ⟨st, limit, balance, (t.folio n).exposure⟩) was is rfl).says (says_answer _ _ _ _)
    refine .ite (fun _ => x.says (says_answer _ _ _ _)) fun _ => (x.setFolio (fun a _ => ⟨?_, ready⟩) fun _ no => (is no).elim).says
      (says_answer _ _ _ _)
    rw [a.unloaded n closed, Nat.zero_add]

theorem KeepsBooks.folioPost (x : KeepsBooks s t) (n : Nat) (balance : Int) (id : ReqId) : KeepsBooks s (folioPost n balance id t) :=
  .ite (fun _ => x.says (says_answer _ _ _ _)) fun _ => .ite (fun _ => x.says (says_answer _ _ _ _)) fun was =>
    .ite (fun _ => x.says (says_answer _ _ _ _)) fun _ =>
      (x.reload (f := { t.folio n with balance := balance }) was was rfl).says (says_answer _ _ _ _)

theorem KeepsBooks.moveFolio (x : KeepsBooks s t) (n : Nat) {st : FolioState} (is : st ≠ .closed) (id : ReqId) :
    KeepsBooks s (moveFolio n st id t) :=
  .ite (fun _ => x.says (says_answer _ _ _ _)) fun _ => .ite (fun _ => x.says (says_answer _ _ _ _)) fun was =>
    (x.reload (f := { t.folio n with state := st }) was is rfl).says (says_answer _ _ _ _)

/-- A folio is closed where nothing is exposed. -/
theorem KeepsBooks.folioClose (x : KeepsBooks s t) (n : Nat) (id : ReqId) : KeepsBooks s (folioClose n id t) :=
  .ite (fun _ => x.says (says_answer _ _ _ _)) fun _ => .ite (fun _ => x.says (says_answer _ _ _ _)) fun was =>
    .ite (fun _ => x.says (says_answer _ _ _ _)) fun bare => by
      refine (x.setFolio (fun _ no => (no rfl).elim) fun a _ => ?_).says (says_answer _ _ _ _)
      have := a.exposure n was
      omega

end Folios

/-! ## Ship time (R29 to R31) -/

section ShipTime

variable {s t u : State}

theorem KeepsBooks.takeDue (x : KeepsBooks s t) (d : Due) : KeepsBooks s (takeDue d t) := by
  cases d with
  | deadline => exact x.beside (Beside.refl t).takeDeadline
  | hold slot => exact x.expireIfDue slot
  | reply id b => exact x.says (says_reply t id b)

theorem KeepsBooks.takeOneOf (x : KeepsBooks s t) (n : Nat) (ds : List Due) : KeepsBooks s (takeOneOf n ds t) := by
  induction n generalizing ds t with
  | zero => cases ds <;> exact x
  | succ n ih =>
    match ds with
    | [] => exact x
    | [d] => exact x.takeDue d
    | d :: d' :: ds =>
      have drawn := x.beside (Beside.refl t).draw
      unfold Machine.takeOneOf
      dsimp only
      split
      · exact ih (drawn.takeDue _) _
      · exact ih drawn _

theorem KeepsBooks.takeAll (x : KeepsBooks s t) (ds : List Due) : KeepsBooks s (takeAll ds t) := x.takeOneOf _ _

theorem KeepsBooks.secondCount (x : KeepsBooks s t) : KeepsBooks s (secondCount t) := by
  have begun : Beside t (nextSecond t) := ((Beside.refl t).withClock _).reachTime _
  exact .ite (fun _ => (x.beside (begun.withClock _).evaluateDay).takeAll _) fun _ => x.beside begun

theorem KeepsBooks.timeSet (x : KeepsBooks s t) (time : Nat) (id : ReqId) : KeepsBooks s (timeSet time id t) := by
  have told : Beside t (if stepCode t.clock time = 3 then report .clockStep { req := some id } t else t) :=
    .ite (fun _ => (says_report _ _ _).beside) fun _ => .refl t
  exact (x.beside (told.withClock _).evaluateDay).takeAll _

end ShipTime

/-! ## Settings and queries -/

section Settings

variable {s t : State}

theorem Beside.guardSet (h : Beside s t) (seconds : Nat) (id : ReqId) : Beside s (guardSet seconds id t) :=
  (h.withRoll _).says (says_answer _ _ _ _)

theorem Beside.capacityAck (h : Beside s t) (id : ReqId) : Beside s (capacityAck id t) :=
  (h.withRoll { t.roll with armed := true }).says (says_answer _ _ _ _)

theorem Beside.holdTimeSet (h : Beside s t) (seconds : Nat) (id : ReqId) : Beside s (holdTimeSet seconds id t) :=
  (h.withPurse _).says (says_answer _ _ _ _)

theorem Beside.tariffDiscard (h : Beside s t) (id : ReqId) : Beside s (tariffDiscard id t) :=
  (h.withPurse { t.purse with staged := none }).says (says_answer _ _ _ _)

theorem Beside.status (h : Beside s t) (id : ReqId) : Beside s (status id t) := (h.withLink _).says (says_answer _ _ _ _)

theorem says_personQuery (n : Nat) (id : ReqId) (s : State) : Says s (personQuery n id s) := by
  unfold personQuery
  split <;> exact says_answer _ _ _ _

theorem says_rollRead (start state kind : Nat) (id : ReqId) (s : State) : Says s (rollRead start state kind id s) := by
  unfold rollRead
  split
  · split <;> exact says_answer _ _ _ _
  · exact says_answer _ _ _ _

theorem says_timingQuery (n : Nat) (id : ReqId) (s : State) : Says s (timingQuery n id s) := by
  unfold timingQuery
  split <;> exact says_answer _ _ _ _

theorem says_musterRead (n : Nat) (id : ReqId) (s : State) : Says s (musterRead n id s) := by
  unfold musterRead
  split <;> exact says_answer _ _ _ _

theorem says_holdQuery (n : Nat) (id : ReqId) (s : State) : Says s (holdQuery n id s) := by
  unfold holdQuery
  split <;> exact says_answer _ _ _ _

theorem says_folioQuery (n : Nat) (id : ReqId) (s : State) : Says s (folioQuery n id s) := by
  unfold folioQuery
  split <;> exact says_answer _ _ _ _

theorem says_tariffQuery (n : Nat) (id : ReqId) (s : State) : Says s (tariffQuery n id s) := by
  unfold tariffQuery
  dsimp only
  split <;> exact says_answer _ _ _ _

theorem says_journalRead (start count : Nat) (id : ReqId) (s : State) : Says s (journalRead start count id s) := by
  unfold journalRead
  split <;> exact says_answer _ _ _ _

end Settings

end Sys2Proof.Machine

namespace Sys2Proof.Machine

open Sys2Proof

/-! ## The acceptance of a request (R200) -/

section Acceptance

variable {s t u : State}

/-- A tag that is not in use joins the tags. -/
theorem tags_fresh {l m : Link} {id : ReqId} (free : ¬ tagInUse l id.tag = true) (nonzero : id.tag ≠ 0)
    (x : m.tags.Perm (id.tag :: l.tags)) (nodup : l.tags.Nodup) (tagged : 0 ∉ l.tags) : m.tags.Nodup ∧ 0 ∉ m.tags := by
  have new : id.tag ∉ l.tags := fun mem => free ((tagInUse_iff _ _).2 mem)
  refine ⟨x.nodup_iff.2 (List.nodup_cons.2 ⟨new, nodup⟩), fun mem => ?_⟩
  rcases List.mem_cons.1 (x.mem_iff.1 mem) with zero | old
  · exact nonzero zero.symm
  · exact tagged old

theorem Beside.enlist (h : Beside s t) {id : ReqId} (free : ¬ tagInUse t.link id.tag = true) (nonzero : id.tag ≠ 0)
    (room : ¬ 16 ≤ t.link.outstanding.length) : Beside s (enlist id t) :=
  { h with
    link := fun a => linkOk_iff.2 (by
      have b := linkOk_iff.1 (h.link a)
      obtain ⟨tags, tagged⟩ := tags_fresh (m := (Machine.enlist id t).link) free nonzero (by
        change ((t.link.outstanding ++ [id] ++ t.link.busy).map ReqId.tag).Perm (id.tag :: (t.link.outstanding ++ t.link.busy).map _)
        rw [List.append_assoc]
        exact List.perm_middle.map ReqId.tag) b.tags b.tagged
      refine ⟨?_, b.busy, b.notices, tags, tagged, b.sending⟩
      change (t.link.outstanding ++ [id]).length ≤ 16
      rw [List.length_append]
      exact Nat.lt_of_not_le room) }

theorem Beside.refuseBusy (h : Beside s t) {id : ReqId} (free : ¬ tagInUse t.link id.tag = true) (nonzero : id.tag ≠ 0) :
    Beside s (refuseBusy id t) := by
  refine .ite (fun room => ?_) fun _ => h.withLink _
  have waits : Beside s (t.withLink { t.link with busy := t.link.busy ++ [id] }) :=
    { h with
      link := fun a => linkOk_iff.2 (by
        have b := linkOk_iff.1 (h.link a)
        obtain ⟨tags, tagged⟩ := tags_fresh (m := { t.link with busy := t.link.busy ++ [id] }) free nonzero (by
          change ((t.link.outstanding ++ (t.link.busy ++ [id])).map ReqId.tag).Perm (id.tag :: (t.link.outstanding ++ t.link.busy).map _)
          rw [← List.append_assoc]
          exact (List.perm_append_singleton id _).map ReqId.tag) b.tags b.tagged
        refine ⟨b.outstanding, ?_, b.notices, tags, tagged, b.sending⟩
        change (t.link.busy ++ [id]).length ≤ 8
        rw [List.length_append]
        exact room) }
  rw [pushFrame_eq]
  exact waits.says (says_transmits _ (List.cons_ne_nil _ _) fun a => a.notices)

/-- A request's owner answers it in a state that is READY, unless STARTING does not refuse its kind. -/
theorem KeepsBooks.accept (x : KeepsBooks s t) (kind : Nat) (h : Hdr) (need : Nat) (always : Bool) {act : ReqId → State → State}
    (step : ∀ id u, KeepsBooks s u → (always = false → u.starting = false) → KeepsBooks s (act id u)) :
    KeepsBooks s (accept kind h need always act t) := by
  have hunting : Beside t (t.withLink { t.link with rx := .hunting }) := (Beside.refl t).withLink { t.link with rx := .hunting }
  unfold Machine.accept
  dsimp only
  refine .ite (fun _ => .ite (fun _ => (x.beside hunting).says (says_report _ _ _)) fun nonzero =>
    .ite (fun _ => (x.beside hunting).says (says_report _ _ _)) fun free => .ite (fun _ => x.beside (hunting.refuseBusy free nonzero))
      fun room => ?_) fun _ => x
  have enlisted := x.beside (hunting.enlist (id := ⟨kind, h.tag⟩) free nonzero room)
  refine .ite (fun _ => enlisted.says (says_answer _ _ _ _)) fun _ => .ite (fun _ => enlisted.says (says_answer _ _ _ _))
    fun ready => step _ _ enlisted fun off => ?_
  rw [off] at ready
  simpa using ready

theorem KeepsBooks.acceptBeside (kind : Nat) (h : Hdr) (need : Nat) (always : Bool) {act : ReqId → State → State}
    (step : ∀ id u, Beside u (act id u)) : KeepsBooks s (Machine.accept kind h need always act s) :=
  (KeepsBooks.refl s).accept kind h need always fun id u x _ => x.beside (step id u)

/-- An event of the part itself. -/
theorem KeepsBooks.powered {act : State → State} (step : KeepsBooks s (act s)) : KeepsBooks s (powered act s) :=
  .ite (fun _ => step) fun _ => .refl s

end Acceptance

/-! ## Power and resets (R183, R186, R205, R206) -/

section Resets

variable {s t u : State}

theorem keepsBooks_afterPower (supply : Bool) (check : SelfCheck) (straps : Straps) (s : State) :
    KeepsBooks s (afterPower supply check straps s) where
  link _ := linkOk_iff.2 (reset_linkBounded.congr rfl rfl rfl rfl)
  store _ := storeOk_iff.2 ⟨reset_storeBounded.1, reset_storeBounded.2⟩
  recorder _ := recorderOk_iff.2 ⟨reset_recorderSound.1, reset_recorderSound.2, reset_recorderSound.3⟩
  table _ := tableOk_iff.2 (reset_tableBounded.congr rfl rfl)
  roll _ := rollOk_iff.2 (reset_rollCounted.congr rfl rfl)
  muster _ := musterOk_iff.2 (reset_musterCounted.congr rfl rfl rfl)
  marked _ := markedOk_iff.2 (reset_markedAboard.congr rfl rfl)
  wf a := wf_iff.2 (by
    have c := wf_iff.1 a
    exact { reset_canonical with imageEntries := c.imageEntries, imageSlots := c.imageSlots })
  holds _ _ _ := holdsOk_iff.2 (reset_holdsCounted.congr rfl rfl rfl rfl)
  money _ _ := moneyOk_iff.2 (reset_moneyKept.congr rfl rfl rfl rfl rfl rfl)
  room _ _ _ := roomOk_iff.2 (reset_roomForAppends.congr rfl rfl)

theorem Beside.clearLink (h : Beside s t) (straps : Straps) : Beside s ((strapsStand straps t).withLink (resetLink straps)) :=
  { h with link := fun _ => linkOk_iff.2 (reset_linkBounded.congr rfl rfl rfl rfl) }

/-- The contact is UNKNOWN (R69). -/
def Portal.unread (p : Portal) : Portal := { p with contact := .unknown }

theorem Beside.placeAll (h : Beside s t) : Beside s (placeAll t) := by
  have unread : Beside s (t.withPtu { t.ptu with portals := Table.update defaultPortal Portal.unread t.ptu.portals }) :=
    { h with
      wf := fun a => wf_iff.2 (by
        have c := wf_iff.1 (h.wf a)
        exact { c with portals := Table.wf_update Portal.unread c.portals }) }
  exact unread.foldl (f := fun s n => Machine.place false n s) (fun _ n (k : Beside s _) => Beside.place k false n) _

theorem unawaited_appendSlot (r : StoreReq) : r.unawaited.appendSlot = r.appendSlot := by cases r <;> rfl

theorem unawaited_entry {r : StoreReq} {slot : Nat} {a : Append} {awaits : Option ReqId} (h : r.unawaited = .entry slot a awaits) :
    ∃ before, r = .entry slot a before := by
  cases r with
  | entry n x before => cases h; exact ⟨before, rfl⟩
  | slot | settle | muster | day => exact nomatch h

/-- Who waits for a write is dropped; the writes go on. -/
theorem Beside.dropAwaiting (h : Beside s t) : Beside s (dropAwaiting t) := by
  have store : Beside s (t.withStore { t.store with queue := t.store.queue.map StoreReq.unawaited }) :=
    { h with
      store := fun a => storeOk_iff.2 ((storeOk_iff.1 (h.store a)).congr (List.length_map _) rfl)
      money := fun a => moneyOk_iff.2 (by
        have m := moneyOk_iff.1 (h.money a)
        refine ⟨m.exposure, m.unloaded, m.starting, fun r hr slot x awaits e => ?_, ?_, fun e => m.idle (List.map_eq_nil_iff.1 e),
          fun slot x awaits rest place e next second hq hw => ?_⟩
        · obtain ⟨q, hq, rfl⟩ := List.mem_map.1 hr
          obtain ⟨before, rfl⟩ := unawaited_entry e
          exact m.appends _ hq slot x before rfl
        · change ((t.store.queue.map StoreReq.unawaited).filterMap StoreReq.appendSlot).Nodup
          rw [List.filterMap_map]
          exact (List.filterMap_congr (l := t.store.queue) fun r _ => unawaited_appendSlot r) ▸ m.single
        · obtain ⟨q, qs, queue, head, _⟩ := List.map_eq_cons_iff.1 hq
          obtain ⟨before, rfl⟩ := unawaited_entry head
          exact m.written slot x before qs place e next second queue hw) }
  exact store.withEmu _

/-! ### Holds at a warm reset (R161) -/

/-- Every COMMITTING hold is orphaned. -/
def orphanHolds (s : State) : State := s.withPurse { s.purse with holds := Table.update defaultHoldSlot HoldSlot.orphan s.purse.holds }

theorem orphan_hold? (v : HoldSlot) : v.orphan.hold? = v.hold? := by
  obtain ⟨body, reuse, last⟩ := v
  cases body <;> rfl

theorem orphan_committing {v : HoldSlot} {h : Hold} {c : CommitPart} (body : v.body = .committing h c) :
    v.orphan.body = .committing h { c with orphaned := true } := by
  obtain ⟨b, reuse, last⟩ := v
  cases body
  rfl

theorem openHolds_orphan (s : State) : openHolds (orphanHolds s) = openHolds s :=
  Table.collect_update (g := HoldSlot.hold?) rfl orphan_hold?

theorem orphanHolds_holdSlot (wf : Table.wf defaultHoldSlot s.purse.holds = true) (n : Nat) :
    (orphanHolds s).holdSlot n = (s.holdSlot n).orphan := Table.read_update rfl n wf

theorem State.MoneyKept.orphan (a : s.MoneyKept) (wf : Table.wf defaultHoldSlot s.purse.holds = true) : (orphanHolds s).MoneyKept := by
  have held (n : Nat) : heldSum (orphanHolds s) n = heldSum s n := by unfold heldSum; rw [openHolds_orphan]
  refine ⟨fun n => ?_, fun n => ?_, a.starting, fun r hr slot x awaits e => ?_, a.single, a.idle, a.written⟩
  · rw [held]; exact a.exposure n
  · rw [held]; exact a.unloaded n
  · obtain ⟨h, c, body, folio, total⟩ := a.appends r hr slot x awaits e
    exact ⟨h, _, (congrArg HoldSlot.body (orphanHolds_holdSlot wf slot)).trans (orphan_committing body), folio, total⟩

theorem keepsBooks_orphanHolds (s : State) : KeepsBooks s (orphanHolds s) := by
  refine { Keeps.refl s with
    wf := fun a => wf_iff.2 ?_, holds := fun _ _ b => holdsOk_iff.2 ((holdsOk_iff.1 b).recount rfl fun c => ?_)
    money := fun w a => moneyOk_iff.2 ((moneyOk_iff.1 a).orphan (wf_iff.1 w).holds), room := fun _ _ b => roomOk_iff.2 ?_ }
  · have c := wf_iff.1 a
    exact { c with holds := Table.wf_update HoldSlot.orphan c.holds }
  · unfold holdsOfCard
    rw [openHolds_orphan]
  · have b := roomOk_iff.1 b
    unfold State.RoomForAppends at b ⊢
    rw [openHolds_orphan]
    exact b

theorem KeepsBooks.releaseAtReset (x : KeepsBooks s t) (slot : Nat) : KeepsBooks s (releaseAtReset t slot) := by
  unfold Machine.releaseAtReset
  split
  · rename_i body
    exact x.releaseHold body _
  all_goals exact x

theorem KeepsBooks.resetHolds (x : KeepsBooks s t) : KeepsBooks s (resetHolds t) :=
  (x.trans (keepsBooks_orphanHolds t)).foldl _ fun _ n _ k => k.releaseAtReset n

theorem KeepsBooks.dropFetches (x : KeepsBooks s t) : KeepsBooks s (t.withCards { t.cards with fetches := [] }) := by
  have tabled : Tabled t (t.withCards { t.cards with fetches := [] }) :=
    ⟨⟨{ t.cards with fetches := [] }, t.link, t.frc, rfl⟩, id, id, fun a => tableOk_iff.2 (by
      have b := tableOk_iff.1 a
      exact ⟨b.one, b.residents, fun _ _ _ _ _ _ => nofun⟩), fun ⟨a, b, c, _⟩ => ⟨a, b, c, rfl⟩⟩
  exact x.tabled tabled fun _ a => ⟨a.sound, a.placed, a.counts, a.serving, a.covered, fun _ _ _ => nofun⟩

theorem KeepsBooks.warmReset (x : KeepsBooks s t) (source : ResetSource) (straps : Straps) : KeepsBooks s (warmReset source straps t) := by
  have cleared := x.beside ((Beside.refl t).clearLink straps)
  unfold Machine.warmReset
  dsimp only
  refine .ite (fun _ => cleared) fun _ => ?_
  exact ((cleared.says (says_notify _ _)).dropFetches.beside (Beside.refl _).dropAwaiting.placeAll).resetHolds

end Resets

end Sys2Proof.Machine

namespace Sys2Proof.Machine

open Sys2Proof

/-! ## The scan of a cold start (R175, R184, R185) -/

section Scan

variable {s t : State}

/-- While the part is STARTING no folio is loaded, and no exposure follows the journal. -/
theorem keepsCounts_scanJournal (starting : s.starting = true) : KeepsCounts s (scanJournal s) :=
  { Keeps.refl s with
    holds := fun _ _ b => holdsOk_iff.2 ((holdsOk_iff.1 b).congr rfl rfl rfl rfl)
    money := fun _ a => moneyOk_iff.2 (by
      have m := moneyOk_iff.1 a
      exact { m with exposure := fun n loaded => (loaded (m.starting starting n)).elim }) }

/-- Only ABOARD slots are restored with a mark (R117). -/
theorem restoredSlot_aboard (m : MusterRecord) (r : SlotRecord) (marked : (restoredSlot m r).mark.isSome = true) :
    (restoredSlot m r).state = .aboard := by
  unfold restoredSlot at marked ⊢
  dsimp only at marked ⊢
  split at marked
  · rename_i here
    simp only [Bool.and_eq_true, decide_eq_true_eq] at here
    exact here.2
  · cases marked

theorem Beside.scanSlots (h : Beside s t) : Beside s (scanSlots t) :=
  (h.withEmu _).foldl (fun _ p k => k.setPerson p.1 _ fun _ => restoredSlot_aboard _ p.2) _

theorem Beside.scanMarker (h : Beside s t) : Beside s (scanMarker t) := by
  unfold Machine.scanMarker
  split
  · exact h
  · exact ((h.says (says_notify _ _)).says (says_report _ _ _)).writeMarker none

theorem KeepsCounts.coldReady (x : KeepsCounts s t) : KeepsCounts s (coldReady t) := by
  have ready : KeepsCounts t { t with starting := false } :=
    { Keeps.refl t with
      holds := fun _ _ b => holdsOk_iff.2 ((holdsOk_iff.1 b).congr rfl rfl rfl rfl)
      money := fun _ a => moneyOk_iff.2 { moneyOk_iff.1 a with starting := nofun } }
  have told := (Beside.refl { t with starting := false }).says (says_notify _ (.restarted .power t.check))
  exact (x.trans ready).beside ((Beside.ite (fun _ => told.says (says_tellMuster _)) fun _ => told).evalWarning.withEmu _)

theorem keepsCounts_storeScan (s : State) : KeepsCounts s (storeScan s) := by
  unfold storeScan
  split
  · rename_i starting
    have rebuilt : Beside (scanJournal s) (scanMarker (scanDay (scanSlots (scanJournal s)))) :=
      ((Beside.refl _).scanSlots.withClock _).scanMarker
    exact ((keepsCounts_scanJournal starting).beside rebuilt).coldReady
  · exact .refl s

end Scan

/-! ## Every command -/

/-- The command is carried out and keeps the books. -/
def Kept (i : Instr) (s : State) : Prop := ∃ t, exec i s = .next t ∧ KeepsBooks s t

section Commands

variable {s : State} {i : Instr}

theorem Kept.accepted {kind need : Nat} {h : Hdr} {always : Bool} {act : ReqId → State → State}
    (result : exec i s = .next (accept kind h need always act s))
    (step : ∀ id u, KeepsBooks s u → (always = false → u.starting = false) → KeepsBooks s (act id u)) : Kept i s :=
  ⟨_, result, (KeepsBooks.refl s).accept kind h need always step⟩

/-- A request that leaves the card table, the holds, the folios and the journal alone. -/
theorem Kept.beside {kind need : Nat} {h : Hdr} {always : Bool} {act : ReqId → State → State}
    (result : exec i s = .next (accept kind h need always act s)) (step : ∀ id u, Beside u (act id u)) : Kept i s :=
  ⟨_, result, .acceptBeside kind h need always step⟩

/-- A request that is answered and does nothing else. -/
theorem Kept.answered {kind need : Nat} {h : Hdr} {always : Bool} {act : ReqId → State → State}
    (result : exec i s = .next (accept kind h need always act s)) (step : ∀ id u, Says u (act id u)) : Kept i s :=
  .beside result fun id u => (step id u).beside

theorem Kept.event {act : State → State} (result : exec i s = .next (powered act s)) (step : KeepsBooks s (act s)) : Kept i s :=
  ⟨_, result, .powered step⟩

theorem Kept.own {t : State} (result : exec i s = .next t) (step : Beside s t) : Kept i s := ⟨t, result, step.keepsBooks⟩

theorem keepsBooks_strapsStand (straps : Straps) (s : State) : KeepsBooks s (strapsStand straps s) :=
  Beside.keepsBooks { Beside.refl s with }

theorem kept_warmReset (straps : Straps) : Kept (.warmReset straps) s := by
  refine ⟨_, rfl, ?_⟩
  have released : Beside s (resetReleased s) := { Beside.refl s with }
  exact released.keepsBooks.trans (.powered ((KeepsBooks.refl _).warmReset _ _))

/-- Each command is carried out by an operation whose keeping of the books stands above; the scan apart, which takes the image's
entries (`keepsCounts_storeScan`). -/
theorem kept (s : State) : ∀ i, i ≠ .storeScan → Kept i s
  | .powerLoss, _ => ⟨_, rfl, keepsBooks_afterPower _ _ _ s⟩
  | .coldReset _ straps, _ =>
    ⟨_, rfl, (keepsBooks_strapsStand straps s).trans (keepsBooks_afterPower _ _ _ (strapsStand straps s))⟩
  | .storeScan, no => (no rfl).elim
  | .resetAsserted, _ => .own rfl (Beside.refl s).resetAsserted
  | .warmReset straps, _ => kept_warmReset straps
  | .holdLineChange high, _ => .own rfl ((Beside.refl s).holdLineChange high)
  | .frameSent, _ => .event rfl (Beside.refl s).frameSent.keepsBooks
  | .byteGapTimeout bytes, _ => .own rfl ((Beside.refl s).abandonFrame bytes)
  | .frameAbandoned bytes, _ => .own rfl ((Beside.refl s).abandonFrame bytes)
  | .frameDiscarded, _ => .own rfl (Beside.refl s).frameDiscarded
  | .unknownKind _ _, _ => .answered rfl fun id u => says_answer u id _ _
  | .ping _, _ => .answered rfl fun id u => says_answer u id _ _
  | .status _, _ => .beside rfl fun id u => (Beside.refl u).status id
  | .restart h, _ => .accepted rfl fun id _ x _ => x.warmReset (.request id.tag) h.straps
  | .linkQuery _, _ => .answered rfl fun id u => says_answer u id _ _
  | .cardLoad _ r, _ => .accepted rfl fun id _ x _ => x.cardLoad r id
  | .cardUnknown _ card, _ => .accepted rfl fun id _ x _ => x.cardUnknown card id
  | .cardRevoke _ card, _ => .accepted rfl fun id _ x _ => x.cardRevoke card id
  | .cardResident _ card value, _ => .accepted rfl fun id _ x _ => x.cardResident card value id
  | .cardQuery _ form key, _ => .accepted rfl fun id _ x _ => x.cardQuery form key id
  | .flush _, _ => .accepted rfl fun id _ x _ => x.flush id
  | .wayDisable _ way, _ => .accepted rfl fun id _ x _ => x.wayDisable way id
  | .wayRestore _ way, _ => .accepted rfl fun id _ x _ => x.wayRestore way id
  | .wayQuery _, _ => .accepted rfl fun id _ x _ => x.wayQuery _ id
  | .fetchWaitSet _ ms, _ => .accepted rfl fun id _ x _ => x.fetchWaitSet ms id
  | .fetchExpiry n, _ => .event rfl ((KeepsBooks.refl s).fetchExpiry n)
  | .secondCount, _ => .event rfl (KeepsBooks.refl s).secondCount
  | .dayRollover, _ => .event rfl (Beside.refl s).evaluateDay.keepsBooks
  | .dayWriteRetry, _ => .event rfl (Beside.refl s).retryDay.keepsBooks
  | .timeSet _ time, _ => .accepted rfl fun id _ x _ => x.timeSet time id
  | .rolloverSet _ offset, _ => .beside rfl fun id u => (Beside.refl u).rolloverSet offset id
  | .clockQuery _, _ => .answered rfl fun id u => says_answer u id _ _
  | .present _ portal card gen, _ => .accepted rfl fun id _ x _ => x.presentAt portal card gen id
  | .portalSet _ c, _ => .beside rfl fun id u => (Beside.refl u).portalSet c id
  | .portalDisable _ portal, _ => .beside rfl fun id u => (Beside.refl u).portalDisable portal id
  | .portalEnable _ portal, _ => .beside rfl fun id u => (Beside.refl u).portalEnable portal id
  | .portalQuery _ _, _ => .answered rfl fun id u => says_answer u id _ _
  | .portalScan _, _ => .answered rfl fun id u => says_answer u id _ _
  | .contact _ portal position, _ => .beside rfl fun id u => (Beside.refl u).contact portal position id
  | .strikeAck _ portal, _ => .beside rfl fun id u => (Beside.refl u).strikeAck portal id
  | .remoteRelease _ portal, _ => .beside rfl fun id u => (Beside.refl u).remoteRelease portal id
  | .timingStage _ set release heldOpen strike applyNow, _ =>
    .beside rfl fun id u => (Beside.refl u).timingStage set release heldOpen strike applyNow id
  | .timingQuery _ set, _ => .answered rfl (says_timingQuery set)
  | .releaseTimerExpiry portal, _ => .event rfl ((Beside.refl s).releaseExpiry portal).keepsBooks
  | .strikeConfirmExpiry portal, _ => .event rfl ((Beside.refl s).strikeExpiry portal).keepsBooks
  | .heldOpenExpiry portal, _ => .event rfl ((Beside.refl s).heldOpenExpiry portal).keepsBooks
  | .capacitySet _ limit level hysteresis, _ => .beside rfl fun id u => (Beside.refl u).capacitySet limit level hysteresis id
  | .guardSet _ seconds, _ => .beside rfl fun id u => (Beside.refl u).guardSet seconds id
  | .capacityAck _, _ => .beside rfl fun id u => (Beside.refl u).capacityAck id
  | .deadlineSet _ deadline, _ => .beside rfl fun id u => (Beside.refl u).deadlineSet deadline id
  | .deadlineEvent, _ => .event rfl (Beside.refl s).takeDeadline.keepsBooks
  | .enrol _ person kind state, _ => .beside rfl fun id u => (Beside.refl u).enrol person kind state id
  | .discharge _ person, _ => .beside rfl fun id u => (Beside.refl u).discharge person id
  | .presenceSet _ person state, _ => .beside rfl fun id u => (Beside.refl u).presenceSet person state id
  | .presenceCounts _, _ => .answered rfl fun id u => says_answer u id _ _
  | .personQuery _ person, _ => .answered rfl (says_personQuery person)
  | .rollRead _ start state kind, _ => .answered rfl (says_rollRead start state kind)
  | .alarmLineChange line high, _ => .own rfl ((Beside.refl s).alarmLineChange line high)
  | .debounceExpiry line, _ => .event rfl ((Beside.refl s).debounceExpiry line).keepsBooks
  | .alarmSet _ enableA enableB debounce startsMuster, _ =>
    .beside rfl fun id u => (Beside.refl u).alarmSet enableA enableB debounce startsMuster id
  | .emergencyDeclare _ value, _ => .beside rfl fun id u => (Beside.refl u).emergencyDeclare value id
  | .emergencyClear _, _ => .beside rfl fun id u => (Beside.refl u).emergencyClear id
  | .resume _ scope portal, _ => .beside rfl fun id u => (Beside.refl u).resume scope portal id
  | .musterStart _, _ => .beside rfl fun id u => (Beside.refl u).musterStart id
  | .musterEnd _, _ => .beside rfl fun id u => (Beside.refl u).musterEnd id
  | .musterWriteRetry, _ => .event rfl (Beside.refl s).retryRecord.keepsBooks
  | .musterQuery _, _ => .answered rfl fun id u => says_answer u id _ _
  | .musterRead _ start, _ => .answered rfl (says_musterRead start)
  | .emergencyQuery _, _ => .answered rfl fun id u => says_answer u id _ _
  | .authorize _ portal card gen a, _ => .accepted rfl fun id _ x _ => x.authorize portal card gen a id
  | .commit _ hold subtotal alcohol, _ => .accepted rfl fun id _ x _ => x.commit hold subtotal alcohol id
  | .voidHold _ hold, _ => .accepted rfl fun id _ x _ => x.voidHold hold id
  | .holdExpiry slot, _ => .event rfl ((KeepsBooks.refl s).expireIfDue slot)
  | .holdTimeSet _ seconds, _ => .beside rfl fun id u => (Beside.refl u).holdTimeSet seconds id
  | .holdQuery _ slot, _ => .answered rfl (says_holdQuery slot)
  | .holdScan _, _ => .answered rfl fun id u => says_answer u id _ _
  | .folioLoad _ n limit balance state, _ => .accepted rfl fun id _ x ready => x.folioLoad (ready rfl) n limit balance state id
  | .folioPost _ n balance, _ => .accepted rfl fun id _ x _ => x.folioPost n balance id
  | .folioFreeze _ n, _ => .accepted rfl fun id _ x _ => x.moveFolio n (by decide) id
  | .folioOpen _ n, _ => .accepted rfl fun id _ x _ => x.moveFolio n (by decide) id
  | .folioClose _ n, _ => .accepted rfl fun id _ x _ => x.folioClose n id
  | .folioQuery _ n, _ => .answered rfl (says_folioQuery n)
  | .tariffStage _ t applyNow, _ => .beside rfl fun id u => (Beside.refl u).tariffStage t applyNow id
  | .tariffDiscard _, _ => .beside rfl fun id u => (Beside.refl u).tariffDiscard id
  | .tariffQuery _ which, _ => .answered rfl (says_tariffQuery which)
  | .journalRead _ start count, _ => .answered rfl (says_journalRead start count)
  | .settle _ sequence, _ => .beside rfl fun id u => (Beside.refl u).settle sequence id
  | .storeQuery _, _ => .answered rfl fun id u => says_answer u id _ _
  | .storeWriteBegin, _ => .event rfl (Beside.refl s).beginWrite.keepsBooks
  | .storeAttemptEnd readBackMatches, _ => .event rfl ((KeepsBooks.refl s).attemptEnd readBackMatches)
  | .severitySet _ kind severity, _ => .beside rfl fun id u => (Beside.refl u).severitySet kind severity id
  | .faultRead _, _ => .answered rfl fun id u => says_answer u id _ _
  | .faultClear _, _ => .beside rfl fun id u => (Beside.refl u).faultClear id

end Commands

/-! ## Every step (R1, R21, R71, R107, R141, R167, R178, R200) -/

section Steps

variable {s t : State}

theorem keepsBooks_withPending (s : State) (q : List Instr) : KeepsBooks s (s.withPending q) :=
  Beside.keepsBooks { Beside.refl s with }

/-- A step keeps the books, unless it is the scan of a cold start. -/
theorem step_keepsBooks (notScan : s.pending.head? ≠ some .storeScan) (x : step s = .next t) : KeepsBooks s t := by
  unfold step at x
  split at x
  · cases x
    exact Beside.keepsBooks (.ite (fun _ => (Beside.refl s).withNow _) fun _ => .refl s)
  · rename_i c rest pending
    obtain ⟨u, result, keeps⟩ := kept (s.withPending rest) c fun scan => notScan (by rw [pending, scan]; rfl)
    cases result.symm.trans x
    exact (keepsBooks_withPending s rest).trans keeps

theorem step_keepsCounts (x : step s = .next t) : KeepsCounts s t := by
  by_cases scan : s.pending.head? = some .storeScan
  · unfold step at x
    split at x <;> rename_i pending <;> rw [pending] at scan
    · cases scan
    · rename_i c rest
      cases scan
      cases x
      refine (keepsBooks_withPending s rest).toKeepsCounts.trans ?_
      unfold powered
      split
      · exact keepsCounts_storeScan _
      · exact .refl _
  · exact (step_keepsBooks scan x).toKeepsCounts

end Steps

/-- Settles O57: each command keeps each block's bounds (`step_keepsCounts`), operation by operation. -/
theorem boundsKept : Obligations.BoundsKept := by
  refine ⟨fun s t a x => ?_, ⟨fun s t a x => ?_, fun s t a x => ?_⟩, fun s t a _ x => ?_⟩ <;> have k := step_keepsCounts x
  · exact linkOk_iff.1 (k.link (linkOk_iff.2 a))
  · exact storeOk_iff.1 (k.store (storeOk_iff.2 a))
  · exact recorderOk_iff.1 (k.recorder (recorderOk_iff.2 a))
  · exact tableOk_iff.1 (k.table (tableOk_iff.2 a))

/-- Settles O58: each command moves the counters with the slots, the hold counts and exposures with the holds, and appends only
where there is room (`step_keepsBooks`). -/
theorem countsFollowSlots : Obligations.CountsFollowSlots := by
  refine ⟨fun s t a _ x => ?_, fun s t a _ x => ?_, fun s t a _ x => ?_, fun s t a b c x => ?_, fun s t a c x => ?_,
    fun s t a m c notScan x => ?_⟩
  · exact rollOk_iff.1 ((step_keepsCounts x).roll (rollOk_iff.2 a))
  · exact musterOk_iff.1 ((step_keepsCounts x).muster (musterOk_iff.2 a))
  · exact markedOk_iff.1 ((step_keepsCounts x).marked (markedOk_iff.2 a))
  · exact holdsOk_iff.1 ((step_keepsCounts x).holds (wf_iff.2 c) (tableOk_iff.2 b) (holdsOk_iff.2 a))
  · exact moneyOk_iff.1 ((step_keepsCounts x).money (wf_iff.2 c) (moneyOk_iff.2 a))
  · exact roomOk_iff.1 ((step_keepsBooks notScan x).room (wf_iff.2 c) (moneyOk_iff.2 m) (roomOk_iff.2 a))

end Sys2Proof.Machine

namespace Sys2Proof.Machine

open Sys2Proof

/-! ## The portals at a warm reset (R43, R69) -/

section Placement

variable {s : State} {n : Nat}

/-- A portal that the placement step has placed (R43). -/
def Portal.placed (p : Portal) (s : State) : Portal :=
  if p.isDoor && p.preset != .normal && s.emu.condition then
    if p.state = .emergency then p.stopped else { (p.leaving s).stopped with state := .emergency }
  else if p.disabled then { (p.leaving s).stopped with state := .outOfService }
  else { p.stopped with state := .secure }

theorem place_quiet (n : Nat) (s : State) : place false n s = s.setPortal n ((s.portal n).placed s) := by
  unfold place enterEmergency Portal.placed
  dsimp only
  split
  · split <;> rfl
  · split <;> rfl

/-- The portals that meet a condition are listed once each. -/
theorem portalsWhere_nodup (f : Portal → Bool) (wf : Table.wf defaultPortal s.ptu.portals = true) : (portalsWhere f s).Nodup := by
  obtain ⟨_, sorted⟩ := (Table.wf_iff _ _).1 wf
  exact (List.pairwise_map.2 ((sorted.filter _).imp Nat.ne_of_lt))

theorem mem_portalsWhere {f : Portal → Bool} (off : f defaultPortal = false) (wf : Table.wf defaultPortal s.ptu.portals = true) :
    n ∈ portalsWhere f s ↔ f (s.portal n) = true := by
  constructor
  · intro mem
    obtain ⟨⟨m, v⟩, hp, rfl⟩ := List.mem_map.1 mem
    obtain ⟨listed, on⟩ := List.mem_filter.1 hp
    obtain ⟨kept, rest, here⟩ := List.append_of_mem listed
    have read : s.portal m = v := by
      unfold State.portal
      rw [here] at wf ⊢
      exact read_append wf
    rw [read]
    exact on
  · intro on
    rcases Table.read_mem defaultPortal s.ptu.portals n with e | listed
    · rw [show s.portal n = defaultPortal from e, off] at on
      cases on
    · exact List.mem_map.2 ⟨(n, s.portal n), List.mem_filter.2 ⟨listed, on⟩, rfl⟩

/-- Portals placed one after the other: each by its own fields. -/
theorem placeEach (ns : List Nat) (once : ns.Nodup) (s : State) :
    (∃ ps, ns.foldl (fun s n => place false n s) s = s.withPtu { s.ptu with portals := ps }) ∧
    ∀ n, (ns.foldl (fun s n => place false n s) s).portal n = if n ∈ ns then (s.portal n).placed s else s.portal n := by
  induction ns generalizing s with
  | nil => exact ⟨⟨s.ptu.portals, rfl⟩, fun n => by simp⟩
  | cons m ns ih =>
    obtain ⟨fresh, once⟩ := List.nodup_cons.1 once
    obtain ⟨⟨ps, shape⟩, each⟩ := ih once (place false m s)
    rw [List.foldl_cons]
    refine ⟨⟨ps, shape.trans (by rw [place_quiet]; rfl)⟩, fun n => ?_⟩
    rw [each n, place_quiet, State.setPortal_portal]
    have same (p : Portal) : p.placed (s.setPortal m ((s.portal m).placed s)) = p.placed s := rfl
    by_cases here : n = m
    · subst here
      simp [fresh]
    · simp [here, same]

/-- The contacts unread and the configured portals placed; nothing else changes. -/
theorem placeAll_portals (wf : Table.wf defaultPortal s.ptu.portals = true) :
    (∃ ps, placeAll s = s.withPtu { s.ptu with portals := ps }) ∧
    ∀ n, (placeAll s).portal n = if (s.portal n).cls.isSome then (s.portal n).unread.placed s else (s.portal n).unread := by
  let u := s.withPtu { s.ptu with portals := Table.update defaultPortal Portal.unread s.ptu.portals }
  have canonical : Table.wf defaultPortal u.ptu.portals = true := Table.wf_update Portal.unread wf
  have unread (n : Nat) : u.portal n = (s.portal n).unread := Table.read_update rfl n wf
  obtain ⟨⟨ps, shape⟩, each⟩ := placeEach (portalsWhere (fun p => p.cls.isSome) u) (portalsWhere_nodup _ canonical) u
  refine ⟨⟨ps, shape⟩, fun n => (each n).trans ?_⟩
  simp only [mem_portalsWhere (s := u) (f := fun p => p.cls.isSome) rfl canonical, unread]
  rfl

end Placement

section PlacedPortals

variable {s : State} {p : Portal}

/-- A portal without what a placement may change. -/
def Portal.masked (p : Portal) : Portal :=
  { p with
    state := .secure, contact := .unknown, captured := defaultTiming, releaseTimer := none, heldOpenTimer := none,
    strikeTimer := none, strikePending := false }

/-- A portal that leaves SECURE takes its timing; nothing else changes (R66). -/
theorem Portal.leaving_cases (p : Portal) (s : State) :
    p.leaving s = p ∨ p.state = .secure ∧ p.leaving s = { p with captured := s.timing p.timingSet } := by
  unfold Portal.leaving
  split
  · rename_i leaves
    simp only [Bool.and_eq_true, decide_eq_true_eq] at leaves
    exact .inr ⟨leaves.1, rfl⟩
  · exact .inl rfl

/-- What a placement makes of a portal (R43). -/
structure Portal.PlacedAs (s : State) (p q : Portal) : Prop where
  masked : q.masked = p.masked
  contact : q.contact = p.contact
  captured : p.state ≠ .secure ∨ q.state = .secure → q.captured = p.captured
  state : q.state = if p.isDoor = true ∧ p.preset ≠ .normal ∧ s.emu.condition = true then .emergency
    else if p.disabled = true then .outOfService else .secure
  timers : q.releaseTimer = none ∧ q.heldOpenTimer = none ∧ q.strikeTimer = none ∧ q.strikePending = false

theorem Portal.placed_placedAs (p : Portal) (s : State) : Portal.PlacedAs s p (p.placed s) := by
  have held : (p.isDoor && p.preset != .normal && s.emu.condition) = true ↔
      p.isDoor = true ∧ p.preset ≠ .normal ∧ s.emu.condition = true := by simp [and_assoc]
  have out (x : PortalState) (ne : x ≠ .secure) (state : x = if p.isDoor = true ∧ p.preset ≠ .normal ∧ s.emu.condition = true then
      .emergency else if p.disabled = true then .outOfService else .secure) :
      Portal.PlacedAs s p { (p.leaving s).stopped with state := x } := by
    rcases p.leaving_cases s with same | ⟨secure, taken⟩
    · rw [same]
      exact ⟨rfl, rfl, fun _ => rfl, state, rfl, rfl, rfl, rfl⟩
    · rw [taken]
      exact ⟨rfl, rfl, fun still => (still.elim (· secure) ne).elim, state, rfl, rfl, rfl, rfl⟩
  unfold Portal.placed
  split <;> rename_i condition <;> rw [held] at condition
  · split
    · rename_i there
      exact ⟨rfl, rfl, fun _ => rfl, there.trans (if_pos condition).symm, rfl, rfl, rfl, rfl⟩
    · exact out .emergency nofun (if_pos condition).symm
  · split <;> rename_i disabled
    · exact out .outOfService nofun ((if_neg condition).trans (if_pos disabled)).symm
    · exact ⟨rfl, rfl, fun _ => rfl, ((if_neg condition).trans (if_neg disabled)).symm, rfl, rfl, rfl, rfl⟩

end PlacedPortals

end Sys2Proof.Machine

namespace Sys2Proof.Machine

open Sys2Proof

/-! ## The holds released at a warm reset (R10, R161) -/

/-! ### An entry after holds of its card are released -/

section Entries

variable {e f : CardEntry} {hs : List Hold} {h : Hold} {day : Nat} {enabled : Bool}

/-- An entry after the release of the listed holds of its card (R28, R156). -/
def CardEntry.less (e : CardEntry) (hs : List Hold) (day : Nat) (enabled : Bool) : Option CardEntry :=
  if hs = [] then some e
  else if e.holdCount ≤ hs.length ∧ (e.suspect = true ∨ enabled = false) then none
  else some { e with
    holdCount := e.holdCount - hs.length, dayStamp := day
    daySpend := e.spend day - ((hs.filter (·.day = day)).map (·.total)).sum
    dayAlcohol := e.alcohol day - ((hs.filter (·.day = day)).map (·.alcohol)).sum
    codeDiff := 0 }

theorem released_eq (e : CardEntry) (s : State) (w : Nat) :
    e.released s w = e.less ((heldNow s).filter (·.card = e.card)) s.clock.day (s.way w).enabled := rfl

theorem less_card (x : e.less hs day enabled = some f) : f.card = e.card := by
  unfold CardEntry.less at x
  split at x
  · cases x; rfl
  split at x
  · cases x
  · cases x; rfl

theorem less_sound (ok : e.Sound) (x : e.less hs day enabled = some f) : f.Sound := by
  unfold CardEntry.less at x
  split at x
  · cases x; exact ok
  split at x
  · cases x
  · cases x; exact .inr rfl

/-- What has left does not come back. -/
theorem less_gone (x : e.less hs day enabled = none) : e.less (hs ++ [h]) day enabled = none := by
  unfold CardEntry.less at x ⊢
  split at x
  · cases x
  split at x
  · rename_i goes
    rw [if_neg (List.append_ne_nil_of_right_ne_nil _ (List.cons_ne_nil _ _)),
      if_pos ⟨goes.1.trans (by rw [List.length_append]; exact Nat.le_add_right _ _), goes.2⟩]
  · cases x

/-- A counter within its range, less an amount. -/
theorem adjust_less {cap v x : Nat} (range : v ≤ cap) : adjust cap v (-(x : Int)) = v - x := by
  unfold adjust
  omega

/-- What a hold takes off a counter of the day: nothing, if it is of another day. -/
def ofDay (h : Hold) (day x : Nat) : Nat := if h.day = day then x else 0

/-- The entry after the end of one hold, before it may leave. -/
def CardEntry.without (e : CardEntry) (h : Hold) (day : Nat) : CardEntry :=
  { e with
    holdCount := e.holdCount - 1, dayStamp := day, daySpend := e.spend day - ofDay h day h.total
    dayAlcohol := e.alcohol day - ofDay h day h.alcohol, codeDiff := 0 }

theorem spend_le (spend : e.daySpend ≤ maxAmount) : e.spend day ≤ maxAmount := by unfold CardEntry.spend; split <;> omega

theorem alcohol_le (alcohol : e.dayAlcohol ≤ 255) : e.alcohol day ≤ 255 := by unfold CardEntry.alcohol; split <;> omega

theorem ended_eq (spend : e.daySpend ≤ maxAmount) (alcohol : e.dayAlcohol ≤ 255) :
    e.ended (-(h.total : Int)) (-(h.alcohol : Int)) h.day day enabled =
      if e.holdCount ≤ 1 ∧ (e.suspect = true ∨ enabled = false) then none else some (e.without h day) := by
  have daily (x : Nat) (v : Nat) (zero : e.dayStamp ≠ day → v = 0) :
      (if e.dayStamp = h.day then v - x else v) = v - ofDay h day x := by
    unfold ofDay
    by_cases own : e.dayStamp = h.day <;> by_cases now : h.day = day
    · rw [if_pos own, if_pos now]
    · rw [if_pos own, if_neg now, zero fun same => now (own ▸ same), Nat.zero_sub]
    · rw [if_neg own, if_pos now, zero fun same => own (same.trans now.symm), Nat.zero_sub]
    · rw [if_neg own, if_neg now, Nat.sub_zero]
  have left : (e.adjusted (-(h.total : Int)) (-(h.alcohol : Int)) h.day day).oneLess day = e.without h day := by
    have a := daily h.total (e.spend day) fun ne => if_neg ne
    have b := daily h.alcohol (e.alcohol day) fun ne => if_neg ne
    rw [← adjust_less (spend_le spend)] at a
    rw [← adjust_less (alcohol_le alcohol)] at b
    simp only [CardEntry.oneLess, CardEntry.adjusted, CardEntry.refresh, CardEntry.without, CardEntry.spend, CardEntry.alcohol] at a b ⊢
    simp only [a, b, if_true]
  have leaves : (e.without h day).leavesAt enabled = true ↔ e.holdCount ≤ 1 ∧ (e.suspect = true ∨ enabled = false) := by
    simp only [CardEntry.leavesAt, CardEntry.without, Bool.and_eq_true, Bool.or_eq_true, Bool.not_eq_true']
    exact and_congr_left' (decide_eq_true_iff.trans (by omega))
  unfold CardEntry.ended
  simp only [left, leaves]

theorem sum_ofDay (hs : List Hold) (h : Hold) (day : Nat) (g : Hold → Nat) :
    (((hs ++ [h]).filter (·.day = day)).map g).sum = ((hs.filter (·.day = day)).map g).sum + ofDay h day (g h) := by
  unfold ofDay
  rw [List.filter_append, List.map_append, List.sum_append]
  by_cases now : h.day = day <;> simp [now]

/-- The end of one hold more. -/
theorem less_ended (spend : e.daySpend ≤ maxAmount) (alcohol : e.dayAlcohol ≤ 255) (x : e.less hs day enabled = some f) :
    f.ended (-(h.total : Int)) (-(h.alcohol : Int)) h.day day enabled = e.less (hs ++ [h]) day enabled := by
  have listed : hs ++ [h] ≠ [] := List.append_ne_nil_of_right_ne_nil _ (List.cons_ne_nil _ _)
  have more : (hs ++ [h]).length = hs.length + 1 := by simp
  conv_rhs => unfold CardEntry.less
  rw [if_neg listed, more, sum_ofDay, sum_ofDay]
  unfold CardEntry.less at x
  split at x
  · rename_i none
    cases x
    subst none
    rw [ended_eq spend alcohol]
    simp [CardEntry.without]
  · split at x
    · cases x
    · cases x
      rename_i stays
      rw [ended_eq ((Nat.sub_le _ _).trans (spend_le spend)) ((Nat.sub_le _ _).trans (alcohol_le alcohol))]
      have count : e.holdCount - hs.length ≤ 1 ↔ e.holdCount ≤ hs.length + 1 := by omega
      simp only [CardEntry.without, CardEntry.spend, CardEntry.alcohol, count, Nat.sub_sub, if_true]

end Entries

end Sys2Proof.Machine

namespace Sys2Proof.Machine

open Sys2Proof

/-! ### The slots gone through in order (R161) -/

section Slots

variable {s t : State} {h : Hold} {k : Nat}

/-- The hold that a slot holds HELD. -/
def heldAt (s : State) (n : Nat) : Option Hold := match (s.holdSlot n).body with
  | .held h _ => some h
  | .free | .committing _ _ => none

/-- The slot freed of a hold that was HELD. -/
def HoldSlot.emptied (v : HoldSlot) : HoldSlot := match v.body with
  | .held _ _ => { v with body := .free, lastEnd := .released }
  | .free | .committing _ _ => v

/-- The HELD holds of the slots below a number. -/
def heldBelow (s : State) (k : Nat) : List Hold := (List.range k).filterMap (heldAt s)

theorem heldNow_eq (s : State) : heldNow s = heldBelow s 32 := rfl

theorem heldBelow_succ (s : State) (k : Nat) : heldBelow s (k + 1) = heldBelow s k ++ (heldAt s k).toList := by
  unfold heldBelow
  rw [List.range_succ, List.filterMap_append]
  cases h : heldAt s k <;> simp [h]

theorem heldAt_congr (same : t.holdSlot k = s.holdSlot k) : heldAt t k = heldAt s k := by unfold heldAt; rw [same]

theorem releaseAtReset_none (x : heldAt s k = none) : releaseAtReset s k = s ∧ (s.holdSlot k).emptied = s.holdSlot k := by
  unfold heldAt at x
  unfold releaseAtReset HoldSlot.emptied
  cases body : (s.holdSlot k).body with
  | held => rw [body] at x; cases x
  | free | committing => exact ⟨rfl, rfl⟩

theorem releaseAtReset_some (x : heldAt s k = some h) : releaseAtReset s k =
      endHold k h .released (· - h.total) (-(h.total : Int)) (-(h.alcohol : Int)) s ∧
    (s.holdSlot k).emptied = { s.holdSlot k with body := .free, lastEnd := .released } := by
  unfold heldAt at x
  unfold releaseAtReset HoldSlot.emptied
  cases body : (s.holdSlot k).body with
  | held => rw [body] at x; cases x; exact ⟨rfl, rfl⟩
  | free | committing => rw [body] at x; cases x

/-- From `s` to `t` entries, ways, the purse, the link and the recorder may change, and nothing else. -/
structure Drains (s t : State) : Prop where
  blocks : (t.supply, t.starting, t.check, t.pins, t.clock, t.ptu, t.roll, t.emu, t.journal, t.store, t.image) =
    (s.supply, s.starting, s.check, s.pins, s.clock, s.ptu, s.roll, s.emu, s.journal, s.store, s.image)
  table : (t.cards.pointers, t.cards.fetches, t.cards.fetchWait) = (s.cards.pointers, s.cards.fetches, s.cards.fetchWait)

/-- From `s` to `t` the HELD holds of the slots below `k` have been released; the card table apart, what that changes. -/
structure Drained (s t : State) (k : Nat) : Prop where
  shape : Drains s t
  notified : Notified s.link t.link
  settings : (t.purse.holdTime, t.purse.active, t.purse.staged) = (s.purse.holdTime, s.purse.active, s.purse.staged)
  slots : ∀ n, t.holdSlot n = if n < k then (s.holdSlot n).emptied else s.holdSlot n
  folios : ∀ n, t.folio n = { s.folio n with
    exposure := (s.folio n).exposure - (((heldBelow s k).filter (·.folio = n)).map (·.total)).sum }

theorem Drained.step (x : Drained s t k) : Drained s (releaseAtReset t k) (k + 1) := by
  have here : t.holdSlot k = s.holdSlot k := (x.slots k).trans (if_neg (Nat.lt_irrefl k))
  have held : heldAt t k = heldAt s k := heldAt_congr here
  have slot (n : Nat) (v : HoldSlot) (other : n ≠ k → v = t.holdSlot n) (own : n = k → v = (s.holdSlot k).emptied) :
      v = if n < k + 1 then (s.holdSlot n).emptied else s.holdSlot n := by
    by_cases same : n = k
    · rw [own same, same, if_pos (Nat.lt_succ_self k)]
    · rw [other same, x.slots n]
      exact if_congr (by omega) rfl rfl
  cases hk : heldAt s k with
  | none =>
    rw [hk] at held
    obtain ⟨stays, full⟩ := releaseAtReset_none held
    rw [stays]
    have below : heldBelow s (k + 1) = heldBelow s k := by rw [heldBelow_succ, hk]; exact List.append_nil _
    refine { x with slots := fun n => slot n _ (fun _ => rfl) fun same => ?_, folios := below ▸ x.folios }
    rw [same, ← here, full]
  | some h =>
    rw [hk] at held
    obtain ⟨ends, empty⟩ := releaseAtReset_some held
    rw [ends]
    have below : heldBelow s (k + 1) = heldBelow s k ++ [h] := by rw [heldBelow_succ, hk]; rfl
    obtain ⟨ents, ways, l, r, shape, notified⟩ := endHold_checked (slot := k) (h := h) (last := .released) (given := (· - h.total))
      (spend := -(h.total : Int)) (alcohol := -(h.alcohol : Int)) (s := t)
    have holds : (endHold k h .released (· - h.total) (-(h.total : Int)) (-(h.alcohol : Int)) t).purse.holds =
        Table.write defaultHoldSlot k (t.holdSlot k).emptied t.purse.holds := by rw [shape, empty]; rfl
    have folios : (endHold k h .released (· - h.total) (-(h.total : Int)) (-(h.alcohol : Int)) t).purse.folios =
        Table.write defaultFolio h.folio { t.folio h.folio with exposure := (t.folio h.folio).exposure - h.total } t.purse.folios := by
      rw [shape]; rfl
    refine ⟨⟨Eq.trans (by rw [shape]; rfl) x.shape.blocks, Eq.trans (by rw [shape]; rfl) x.shape.table⟩, ?_, ?_,
      fun n => slot n _ (fun ne => ?_) fun same => ?_, fun n => ?_⟩
    · rw [shape]
      exact x.notified.trans notified
    · rw [shape]
      exact x.settings
    · unfold State.holdSlot
      rw [holds, Table.read_write_other _ _ _ ne]
    · rw [same, ← here]
      unfold State.holdSlot
      rw [holds, Table.read_write_same]
      rfl
    · unfold State.folio at folios ⊢
      rw [folios, Table.read_write, below, List.filter_append, List.map_append, List.sum_append]
      have before := x.folios
      unfold State.folio at before
      split
      · rename_i own
        rw [own, before]
        simp [Nat.sub_sub]
      · rename_i other
        simp [Ne.symm other, before n]

theorem drained (s : State) (k : Nat) : Drained s ((List.range k).foldl releaseAtReset s) k := by
  induction k with
  | zero => exact ⟨⟨rfl, rfl⟩, .refl _, rfl, fun _ => rfl, fun _ => rfl⟩
  | succ k ih =>
    rw [List.range_succ, List.foldl_append]
    exact ih.step

end Slots

end Sys2Proof.Machine

namespace Sys2Proof.Machine

open Sys2Proof

/-! ### The card table as the holds are released (R10, R28, R156) -/

section Sweep

variable {s t : State} {h : Hold} {k : Nat}

/-- A table with no entry that fails its check, each in its card's set and one a card, the counters in their ranges. -/
structure Orderly (s : State) : Prop where
  entries : ∀ set, ∀ w < 4, ∀ e, s.entry set w = some e →
    e.Sound ∧ setIndex e.card = set ∧ e.daySpend ≤ maxAmount ∧ e.dayAlcohol ≤ 255
  one : ∀ set, ∀ v < 4, ∀ w < 4, ∀ x y, s.entry set v = some x → s.entry set w = some y → x.card = y.card → v = w

/-- What the listed holds leave of an entry. -/
def CardEntry.after (e : CardEntry) (hs : List Hold) (s : State) (w : Nat) : Option CardEntry :=
  e.less (hs.filter (·.card = e.card)) s.clock.day (s.way w).enabled

theorem after_other {e : CardEntry} {hs : List Hold} {w : Nat} (other : h.card ≠ e.card) : e.after (hs ++ [h]) s w = e.after hs s w := by
  unfold CardEntry.after
  rw [List.filter_append]
  simp [other]

theorem after_own {e : CardEntry} {hs : List Hold} {w : Nat} (own : h.card = e.card) :
    e.after (hs ++ [h]) s w = e.less (hs.filter (·.card = e.card) ++ [h]) s.clock.day (s.way w).enabled := by
  unfold CardEntry.after
  rw [List.filter_append]
  simp [own]

/-- From `s` to `t` the listed holds have left the card table's entries; no fault is reported, and at most one notice is sent for
each. -/
structure Swept (s t : State) (hs : List Hold) (k : Nat) : Prop where
  entries : ∀ set, ∀ w < 4, t.entry set w = (s.entry set w).bind fun e => e.after hs s w
  ways : t.cards.ways = s.cards.ways
  day : t.clock = s.clock
  frc : t.frc = s.frc
  room : noticesWaiting t.link.tx ≤ noticesWaiting s.link.tx + k

/-- The card's entry after some of its holds is the entry it had, still read, or it has none. -/
theorem Swept.finds (a : Orderly s) {hs : List Hold} (x : Swept s t hs k) (c : Nat) : t.Lacks c ∨
    ∃ w e f, s.entry (setIndex c) w = some e ∧ e.card = c ∧ e.after hs s w = some f ∧ f.Sound ∧ t.Reads c w f := by
  have from' (w : Nat) (hw : w < 4) (f : CardEntry) (hf : t.entry (setIndex c) w = some f) :
      ∃ e, s.entry (setIndex c) w = some e ∧ e.after hs s w = some f := by
    rw [x.entries _ w hw] at hf
    exact Option.bind_eq_some_iff.1 hf
  by_cases lacks : t.Lacks c
  · exact .inl lacks
  · unfold State.Lacks at lacks
    push Not at lacks
    obtain ⟨w, hw, f, hf, card⟩ := lacks
    obtain ⟨e, he, left⟩ := from' w hw f hf
    obtain ⟨ok, _⟩ := a.entries _ w hw e he
    have own : e.card = c := (less_card left).symm.trans card
    refine .inr ⟨w, e, f, he, own, left, less_sound ok left, hw, hf, card, fun v hv ne g hg same => ?_⟩
    obtain ⟨e', he', left'⟩ := from' v hv g hg
    exact ne (a.one _ v hv w hw e' e he' he (((less_card left').symm.trans same).trans own.symm))

theorem noEntry_calls {c day : Nat} {spend alcohol : Int} (lacks : t.Lacks c) :
    callHoldEnd c (callAdjust c spend alcohol day t) = t := by
  have adjusted : callAdjust c spend alcohol day t = t := by simp only [callAdjust, callEntry, readCard_lacks lacks]
  rw [adjusted]
  simp only [callHoldEnd, readCard_lacks lacks]

/-- What the end of a hold leaves of the card table, the recorder and the link is what its calls leave. -/
theorem endHold_blocks {slot : Nat} {last : LastEnd} {given : Nat → Nat} {spend alcohol : Int} :
    let u := callHoldEnd h.card (callAdjust h.card spend alcohol h.day (moveExposure h.folio given t))
    let v := endHold slot h last given spend alcohol t
    v.cards = u.cards ∧ v.clock = u.clock ∧ v.frc = u.frc ∧ v.link = u.link := ⟨rfl, rfl, rfl, rfl⟩

/-- One hold more: the entries that are not its card's stand. -/
theorem bind_after {set w : Nat} {hs : List Hold} (own : ∀ e, s.entry set w = some e → e.card = h.card →
      e.after (hs ++ [h]) s w = t.entry set w)
    (other : ∀ e, s.entry set w = some e → e.card ≠ h.card → e.after hs s w = t.entry set w) (none : s.entry set w = none → t.entry set w = none) :
    t.entry set w = (s.entry set w).bind fun e => e.after (hs ++ [h]) s w := by
  cases he : s.entry set w with
  | none => exact none he
  | some e =>
    by_cases card : e.card = h.card
    · exact (own e he card).symm
    · exact ((after_other (Ne.symm card)).trans (other e he card)).symm

theorem Swept.endHold (a : Orderly s) {hs : List Hold} (x : Swept s t hs k) (room : noticesWaiting s.link.tx + k < 48) (slot : Nat) :
    Swept s (endHold slot h .released (· - h.total) (-(h.total : Int)) (-(h.alcohol : Int)) t) (hs ++ [h]) (k + 1) := by
  obtain ⟨cards, clock, frc, link⟩ := endHold_blocks (t := t) (h := h) (slot := slot) (last := .released) (given := (· - h.total))
    (spend := -(h.total : Int)) (alcohol := -(h.alcohol : Int))
  generalize Machine.endHold slot h .released (· - h.total) (-(h.total : Int)) (-(h.alcohol : Int)) t = v at cards clock frc link ⊢
  let m := moveExposure h.folio (· - h.total) t
  have entry (set w : Nat) : v.entry set w = (callHoldEnd h.card (callAdjust h.card (-(h.total : Int)) (-(h.alcohol : Int)) h.day m)).entry
      set w := by unfold State.entry; rw [cards]
  rcases x.finds a h.card with lacks | ⟨w, e, f, he, own, left, ok, reads⟩
  · have still := noEntry_calls (t := m) (c := h.card) (day := h.day) (spend := -(h.total : Int)) (alcohol := -(h.alcohol : Int)) lacks
    rw [still] at cards clock frc link
    refine ⟨fun set w hw => ?_, cards ▸ x.ways, clock.trans x.day, frc.trans x.frc, ?_⟩
    · have same : v.entry set w = t.entry set w := by rw [entry, still]; rfl
      have before := x.entries set w hw
      refine bind_after (fun e he own => ?_) (fun e he _ => ?_) fun none => ?_ <;> rw [same, before]
      · rw [he]
        rw [he] at before
        obtain ⟨_, place, _⟩ := a.entries set w hw e he
        have gone : e.after hs s w = none := by
          cases left : e.after hs s w with
          | none => rfl
          | some f =>
            rw [own] at place
            rw [← place] at before
            exact (lacks w hw f (before.trans left) ((less_card left).trans own)).elim
        rw [after_own own.symm]
        exact (less_gone gone).trans gone.symm
      · rw [he]; rfl
      · rw [none]; rfl
    · rw [link]
      exact x.room.trans (Nat.le_succ _)
  · have reads : m.Reads h.card w f := ⟨reads.1, reads.2, reads.3, reads.4⟩
    obtain ⟨⟨ents, table⟩, places⟩ := endCalls_reads (day := h.day) (spend := -(h.total : Int)) (alcohol := -(h.alcohol : Int))
      reads ok
    obtain ⟨quiet, few⟩ := endCalls_quiet (day := h.day) (spend := -(h.total : Int)) (alcohol := -(h.alcohol : Int)) reads ok
      (show noticesWaiting t.link.tx + 1 ≤ 48 by have := x.room; omega)
    have day : m.clock.day = s.clock.day := congrArg Clock.day x.day
    have way : (m.way w).enabled = (s.way w).enabled := by
      change (Table.read defaultWay t.cards.ways w).enabled = (Table.read defaultWay s.cards.ways w).enabled
      rw [x.ways]
    have untouched : (callHoldEnd h.card (callAdjust h.card (-(h.total : Int)) (-(h.alcohol : Int)) h.day m)).clock = m.clock := by
      obtain ⟨⟨_, _, _, _, shape⟩, _⟩ := endHold_calls m h.card (-(h.total : Int)) (-(h.alcohol : Int)) h.day
      rw [shape]; rfl
    refine ⟨fun set v' hv => bind_after (fun e' he' own' => ?_) (fun e' he' ne => ?_) fun none => ?_, ?_, ?_, ?_, ?_⟩
    · obtain ⟨_, place, _⟩ := a.entries set v' hv e' he'
      rw [own'] at place
      subst place
      obtain rfl := a.one _ v' hv w reads.way e' e he' he (own'.trans own.symm)
      cases he.symm.trans he'
      obtain ⟨_, _, spend, alcohol⟩ := a.entries _ v' hv e he
      rw [entry, places _ v' hv, if_pos ⟨rfl, rfl⟩, after_own own.symm, day, way]
      exact (less_ended spend alcohol left).symm
    · have away : ¬ (set = setIndex h.card ∧ v' = w) := by
        rintro ⟨rfl, rfl⟩
        cases he.symm.trans he'
        exact ne own
      rw [entry, places set v' hv, if_neg away]
      exact ((x.entries set v' hv).trans (by rw [he']; rfl)).symm
    · have away : ¬ (set = setIndex h.card ∧ v' = w) := by
        rintro ⟨rfl, rfl⟩
        exact nomatch he.symm.trans none
      rw [entry, places set v' hv, if_neg away]
      exact (x.entries set v' hv).trans (by rw [none]; rfl)
    · rw [cards, table]
      exact x.ways
    · exact clock.trans (untouched.trans x.day)
    · exact frc.trans (quiet.trans x.frc)
    · rw [link]
      exact few.trans (Nat.succ_le_succ x.room)

theorem swept (a : Orderly s) (room : noticesWaiting s.link.tx + 32 ≤ 48) (hk : k ≤ 32) :
    Swept s ((List.range k).foldl releaseAtReset s) (heldBelow s k) k := by
  induction k with
  | zero =>
    refine ⟨fun set w _ => ?_, rfl, rfl, rfl, Nat.le_refl _⟩
    change s.entry set w = _
    cases s.entry set w <;> rfl
  | succ k ih =>
    have before := ih (Nat.le_of_succ_le hk)
    have slot := (drained s k).slots k
    rw [if_neg (Nat.lt_irrefl k)] at slot
    have held := heldAt_congr slot
    rw [List.range_succ, List.foldl_append, heldBelow_succ]
    change Swept s (releaseAtReset _ k) _ (k + 1)
    cases hh : heldAt s k with
    | none =>
      rw [(releaseAtReset_none (held.trans hh)).1]
      simpa using { before with room := before.room.trans (Nat.le_succ _) }
    | some h =>
      rw [(releaseAtReset_some (held.trans hh)).1]
      exact before.endHold a (by omega) k

end Sweep

end Sys2Proof.Machine

namespace Sys2Proof.Machine

open Sys2Proof

/-! ## The warm reset (R28, R69, R133, R161, R186, R205) -/

section Warm

variable {s : State} {source : ResetSource} {straps : Straps}

/-- The link cleared, with the straps that now stand, and led by RESTARTED. -/
def restarted (source : ResetSource) (straps : Straps) (s : State) : State :=
  ((strapsStand straps s).withLink (resetLink straps)).transmits [.notice (.restarted source s.check)]

/-- The fetches and those that await a write dropped as well. -/
def clearedLink (source : ResetSource) (straps : Straps) (s : State) : State :=
  dropAwaiting ((restarted source straps s).withCards { (restarted source straps s).cards with fetches := [] })

/-- The state whose HELD holds a warm reset goes through: the portals placed and the COMMITTING holds orphaned. -/
def beforeRelease (source : ResetSource) (straps : Straps) (s : State) : State := orphanHolds (placeAll (clearedLink source straps s))

theorem warmReset_eq (ready : s.starting = false) :
    warmReset source straps s = (List.range 32).foldl releaseAtReset (beforeRelease source straps s) := by
  have room : ((strapsStand straps s).withLink (resetLink straps)).NoticeRoom 1 := Nat.one_le_ofNat
  have starting : ((strapsStand straps s).withLink (resetLink straps)).starting = false := ready
  have told : notify (.restarted source ((strapsStand straps s).withLink (resetLink straps)).check)
      ((strapsStand straps s).withLink (resetLink straps)) = restarted source straps s := notify_room _ _ room
  unfold warmReset beforeRelease clearedLink resetHolds orphanHolds
  dsimp only
  rw [starting, told]
  rfl

theorem orphan_body (v : HoldSlot) : v.orphan.emptied = match v.body with
    | .free => v
    | .held _ _ => { v with body := .free, lastEnd := .released }
    | .committing x p => { v with body := .committing x { p with orphaned := true } } := by
  obtain ⟨body, reuse, last⟩ := v
  cases body <;> rfl

theorem heldAt_orphan {o : State} {n : Nat} (same : o.holdSlot n = (s.holdSlot n).orphan) : heldAt o n = heldAt s n := by
  unfold heldAt
  rw [same]
  obtain ⟨body, reuse, last⟩ := s.holdSlot n
  cases body <;> rfl

theorem heldBelow_orphan {o : State} (same : ∀ n, o.holdSlot n = (s.holdSlot n).orphan) (k : Nat) : heldBelow o k = heldBelow s k :=
  List.filterMap_congr fun n _ => heldAt_orphan (same n)

/-- What the link's clearing leaves. -/
structure Cleared (source : ResetSource) (straps : Straps) (s d : State) : Prop where
  blocks : (d.supply, d.starting, d.pins, d.clock, d.roll, d.emu, d.journal, d.store, d.image, d.frc) =
    (s.supply, s.starting, { s.pins with straps := straps }, s.clock, s.roll, { s.emu with waiters := [] }, s.journal,
      { s.store with queue := s.store.queue.map StoreReq.unawaited }, s.image, s.frc)
  cards : d.cards = { s.cards with fetches := [] }
  link : d.link = (restarted source straps s).link
  ptu : d.ptu = s.ptu
  purse : d.purse = s.purse

theorem clearedLink_cleared : Cleared source straps s (clearedLink source straps s) := ⟨rfl, rfl, rfl, rfl, rfl⟩

/-- What the holds are released from. -/
structure Prepared (source : ResetSource) (straps : Straps) (s o : State) : Prop where
  blocks : (o.supply, o.starting, o.pins, o.clock, o.roll, o.emu, o.journal, o.store, o.image, o.frc) =
    (s.supply, s.starting, { s.pins with straps := straps }, s.clock, s.roll, { s.emu with waiters := [] }, s.journal,
      { s.store with queue := s.store.queue.map StoreReq.unawaited }, s.image, s.frc)
  timings : o.ptu.timings = s.ptu.timings
  cards : o.cards = { s.cards with fetches := [] }
  link : o.link = (restarted source straps s).link
  purse : (o.purse.folios, o.purse.holdTime, o.purse.active, o.purse.staged) =
    (s.purse.folios, s.purse.holdTime, s.purse.active, s.purse.staged)
  portals : ∀ n, o.portal n = if (s.portal n).cls.isSome then (s.portal n).unread.placed s else (s.portal n).unread
  slots : ∀ n, o.holdSlot n = (s.holdSlot n).orphan

theorem placed_congr {t : State} (condition : t.emu.condition = s.emu.condition) (ptu : t.ptu = s.ptu) (p : Portal) :
    p.placed t = p.placed s := by
  unfold Portal.placed Portal.leaving State.timing
  rw [condition, ptu]

theorem Cleared.prepared {d : State} (x : Cleared source straps s d) (c : s.Canonical) :
    Prepared source straps s (orphanHolds (placeAll d)) := by
  obtain ⟨⟨ps, shape⟩, portals⟩ := placeAll_portals (s := d) (x.ptu.symm ▸ c.portals)
  have condition : d.emu.condition = s.emu.condition := by
    have blocks := x.blocks
    simp only [Prod.mk.injEq] at blocks
    obtain ⟨_, _, _, _, _, emu, _⟩ := blocks
    rw [emu]
  have wf : Table.wf defaultHoldSlot (placeAll d).purse.holds = true := by rw [shape]; exact x.purse.symm ▸ c.holds
  have slot (n : Nat) : (placeAll d).holdSlot n = s.holdSlot n := by
    rw [shape]
    exact congrArg (fun p : Purse => Table.read defaultHoldSlot p.holds n) x.purse
  have portal (n : Nat) : d.portal n = s.portal n := congrArg (fun p : Portals => Table.read defaultPortal p.portals n) x.ptu
  refine ⟨?_, ?_, ?_, ?_, ?_, fun n => ?_, fun n => (orphanHolds_holdSlot wf n).trans (congrArg _ (slot n))⟩
  · unfold orphanHolds
    rw [shape]
    exact x.blocks
  · unfold orphanHolds
    rw [shape]
    exact (congrArg Portals.timings x.ptu :)
  · unfold orphanHolds
    rw [shape]
    exact x.cards
  · unfold orphanHolds
    rw [shape]
    exact x.link
  · unfold orphanHolds
    rw [shape]
    exact (congrArg (fun p : Purse => (p.folios, p.holdTime, p.active, p.staged)) x.purse :)
  · refine (portals n).trans ?_
    rw [portal, placed_congr condition x.ptu]

/-- Every portal at a warm reset: placed if it is configured, its contact UNKNOWN. -/
structure Portal.Restarted (s : State) (p q : Portal) : Prop where
  masked : q.masked = p.masked
  contact : q.contact = .unknown
  captured : p.state ≠ .secure ∨ q.state = .secure → q.captured = p.captured
  placed : p.cls ≠ none → Portal.PlacedAs s p.unread q

theorem Prepared.restarted {o : State} (x : Prepared source straps s o) (n : Nat) : Portal.Restarted s (s.portal n) (o.portal n) := by
  rw [x.portals n]
  split
  · have placed := (s.portal n).unread.placed_placedAs s
    exact ⟨placed.masked, placed.contact, placed.captured, fun _ => placed⟩
  · rename_i unconfigured
    exact ⟨rfl, rfl, fun _ => rfl, fun configured => (unconfigured (Option.isSome_iff_ne_none.2 configured)).elim⟩

end Warm

end Sys2Proof.Machine

namespace Sys2Proof.Machine

open Sys2Proof

/-! ## The end of the warm reset -/

section Whole

variable {s o t : State} {source : ResetSource} {straps : Straps}

/-- The HELD holds released from the prepared state: the warm reset. -/
theorem Prepared.warmReset (x : Prepared source straps s o) (d : Drained o t 32)
    (w : Orderly o → Swept o t (heldBelow o 32) 32) (supply : s.supply = true) (ready : s.starting = false)
    (high : s.pins.resetHigh = true) : WarmReset s t source straps := by
  have heldSame : heldBelow o 32 = heldNow s := (heldBelow_orphan x.slots 32).trans (heldNow_eq s).symm
  have blocks := d.shape.blocks
  have before := x.blocks
  simp only [Prod.mk.injEq] at blocks before
  obtain ⟨supplyT, startingT, _, pinsT, clockT, ptuT, rollT, emuT, journalT, storeT, imageT⟩ := blocks
  obtain ⟨supplyO, startingO, pinsO, clockO, rollO, emuO, journalO, storeO, imageO, frcO⟩ := before
  have table := d.shape.table
  simp only [Prod.mk.injEq] at table
  obtain ⟨pointers, fetches, fetchWait⟩ := table
  obtain ⟨⟨ns, tx⟩, rest⟩ := d.notified
  rw [x.link] at tx rest
  simp only [Prod.mk.injEq] at rest
  obtain ⟨rx, outstanding, busy, busySent, discarded, framesSent, strapsL⟩ := rest
  have portal (n : Nat) : Portal.Restarted s (s.portal n) (t.portal n) := by
    have := x.restarted n
    unfold State.portal at this ⊢
    rwa [ptuT]
  refine { running := ⟨supplyT.trans (supplyO.trans supply), startingT.trans (startingO.trans ready), ?_⟩
           emptied := ⟨rx, outstanding, busy⟩
           counts := ⟨busySent, discarded, framesSent, strapsL⟩
           told := ⟨ns, tx⟩
           fetches := fun n => ?_
           contacts := fun n => ?_
           placed := fun n configured => ?_
           holds := fun n hn => ?_
           store := storeT.trans storeO
           portals := fun n => ⟨(portal n).masked, (portal n).captured⟩
           timings := (congrArg Portals.timings ptuT).trans x.timings
           settings := ?_
           folios := fun n => ?_
           entries := fun ranges bounded => ?_
           kept := ?_ }
  · rw [pinsT, pinsO, ← high]
  · unfold State.fetch
    rw [fetches, x.cards]
    rfl
  · exact ⟨(portal n).contact, (congrArg Portal.cls (portal n).masked :), (congrArg Portal.disabled (portal n).masked :)⟩
  · have placed := (portal n).placed configured
    exact ⟨placed.state, placed.timers⟩
  · rw [d.slots n, if_pos hn, x.slots n]
    exact orphan_body _
  · have settings := d.settings
    have purse := x.purse
    simp only [Prod.mk.injEq] at settings purse ⊢
    rw [pointers, fetchWait, x.cards]
    obtain ⟨_, holdTime, active, staged⟩ := purse
    exact ⟨rfl, rfl, settings.1.trans holdTime, settings.2.1.trans active, settings.2.2.trans staged⟩
  · have folio : o.folio n = s.folio n := by
      have purse := x.purse
      simp only [Prod.mk.injEq] at purse
      unfold State.folio
      rw [purse.1]
    rw [d.folios n, folio, heldSame]
  · have entry (set w : Nat) : o.entry set w = s.entry set w := by unfold State.entry; rw [x.cards]
    have way (w : Nat) : o.way w = s.way w := by unfold State.way; rw [x.cards]
    have swept := w ⟨fun set w hw e he => ranges set w hw e (entry set w ▸ he), by simpa only [entry] using bounded.one⟩
    refine ⟨fun set w hw => ?_, swept.ways.trans (congrArg Cards.ways x.cards :), swept.frc.trans frcO⟩
    rw [swept.entries set w hw, entry, heldSame]
    simp only [CardEntry.after, way, clockO, released_eq]
  · rw [clockT, rollT, emuT, journalT, imageT, clockO, rollO, emuO, journalO, imageO]

theorem warmReset_warm (c : s.Canonical) (supply : s.supply = true) (ready : s.starting = false) (high : s.pins.resetHigh = true) :
    WarmReset s (warmReset source straps s) source straps := by
  have x : Prepared source straps s (beforeRelease source straps s) := clearedLink_cleared.prepared c
  rw [warmReset_eq ready]
  refine x.warmReset (drained _ 32) (fun a => swept a ?_ (Nat.le_refl _)) supply ready high
  rw [x.link]
  exact Nat.le_of_ble_eq_true rfl

/-- A warm reset of a state that differs in its link, or in the level of RESET#, alone. -/
theorem WarmReset.congr {r : State} (x : WarmReset r t source straps) (same : r = { s with link := r.link, pins := r.pins })
    (pins : { r.pins with resetHigh := true, straps := straps } = { s.pins with resetHigh := true, straps := straps }) :
    WarmReset s t source straps := by
  obtain ⟨running, emptied, counts, told, fetches, contacts, placed, holds, store, portals, timings, settings, folios, entries,
    kept⟩ := x
  rw [pins] at running
  generalize r.link = l at same
  generalize r.pins = p at same
  subst same
  exact ⟨running, emptied, counts, told, fetches, contacts, placed, holds, store, portals, timings, settings, folios,
    fun ranges bounded => entries ranges (bounded.congr rfl rfl), kept⟩

theorem exec_warmReset (supply : s.supply = true) :
    exec (.warmReset straps) s = .next (warmReset .line straps (resetReleased s)) :=
  congrArg Host.Outcome.next (if_pos supply)

theorem exec_restart {h : RestartRequest} (a : s.Accepts h.toHdr 0) :
    exec (.restart h) s = .next (warmReset (.request h.tag) h.straps (s.taken Kind.restart h.toHdr)) := congrArg _ (accept_owner a)

end Whole

/-- Settles O54: the link is cleared and led by RESTARTED (`clearedLink_cleared`), the portals placed (`Cleared.prepared`), and the
slots gone through in order (`drained`, `swept`). -/
theorem warmResets : Obligations.WarmResets := by
  refine ⟨fun s => rfl, fun s straps supply ready c => ?_, fun s straps supply starting => ?_, fun s h a c => ?_⟩
  · have canonical : (resetReleased s).Canonical := wf_iff.1 (wf_iff.2 c :)
    exact ⟨_, exec_warmReset supply, (warmReset_warm canonical supply ready rfl).congr rfl rfl⟩
  · rw [exec_warmReset supply]
    exact congrArg Host.Outcome.next (if_pos starting)
  · have canonical : (s.taken Kind.restart h.toHdr).Canonical := wf_iff.1 (wf_iff.2 c :)
    obtain ⟨supply, running, _⟩ := a.enlists
    exact ⟨_, exec_restart a, (warmReset_warm canonical supply a.ready running).congr rfl rfl⟩

end Sys2Proof.Machine

namespace Sys2Proof.Machine

open Sys2Proof

/-! ## The voyage clock's events (R29 to R34, R40) -/

section ClockRows

variable {s : State} {h : Hdr}

theorem exec_powered {i : Instr} {act : State → State} (arm : exec i s = .next (powered act s)) (supply : s.supply = true) :
    exec i s = .next (act s) := arm.trans (congrArg _ (if_pos supply))

/-- The second count of a clock that is SET, from the state whose ship time has risen (R29, R31). -/
theorem secondCount_set (set : s.clock.isSet = true) : secondCount s =
    let t := evaluateDay ((nextSecond s).withClock
      { (nextSecond s).clock with shipTime := min maxTime (s.clock.shipTime + 1) })
    takeAll (dueNow t) t := if_pos set

theorem secondCount_notSet (notSet : s.clock.isSet = false) : secondCount s = nextSecond s := if_neg (by simp [nextSecond, reachTime, notSet])

end ClockRows

/-- Settles O10. -/
theorem secondCounts : Obligations.SecondCounts := by
  refine fun s supply => ⟨fun notSet => ?_, fun set stays quiet => ?_⟩
  · rw [exec_powered rfl supply, secondCount_notSet notSet]
    rfl
  · rw [exec_powered rfl supply, secondCount_set set]
    dsimp only
    rw [evaluateDay_stays (.inr stays)]
    exact congrArg Host.Outcome.next (congrArg (takeAll · _) quiet)


section TimeSet

variable {s t : State} {h : Hdr}

theorem exec_timeSet {time : Nat} (a : s.Accepts h 4) :
    exec (.timeSet h time) s = .next (timeSet time ⟨Kind.timeSet, h.tag⟩ (s.taken Kind.timeSet h)) := congrArg _ (accept_owner a)

/-- What is due follows from the clock, the roll and the hold slots alone. -/
theorem dueNow_congr (clock : t.clock = s.clock) (roll : t.roll = s.roll) (holds : t.purse.holds = s.purse.holds) :
    dueNow t = dueNow s := by
  have hold (n : Nat) : holdDue t n = holdDue s n := by unfold holdDue State.holdSlot; rw [clock, holds]
  have deadline : deadlineDue t = deadlineDue s := by unfold deadlineDue; rw [clock, roll]
  unfold dueNow
  rw [deadline, show holdDue t = holdDue s from funext hold]

/-- The clock with a ship time set now (R30). -/
def State.setTo (s : State) (time : Nat) : State := s.withClock { s.clock with shipTime := time, isSet := true, secondStart := s.now }

/-- A TIME-SET that brings no rollover and nothing due sets the clock and is answered, after the CLOCK-STEP of a step back (R30). -/
theorem timeSet_quiet {time : Nat} {id : ReqId} (stays : (time - s.clock.offset) / 86400 ≤ s.clock.day)
    (quiet : dueNow (s.setTo time) = []) : timeSet time id s =
      reply id (.plain .done [.n1 (stepCode s.clock time), .n4 time, .n2 s.clock.day])
        ((if stepCode s.clock time = 3 then report .clockStep { req := some id } s else s).setTo time) := by
  unfold timeSet
  dsimp only
  generalize hu : (if stepCode s.clock time = 3 then report .clockStep { req := some id } s else s) = u
  have told : Tells s u := by
    subst hu
    split
    · exact tells_report _ _ _
    · exact ⟨s.link, s.frc, rfl⟩
  obtain ⟨l, r, rfl⟩ := told
  rw [evaluateDay_stays (.inr stays)]
  have none : dueNow (((s.withLink l).withFrc r).setTo time) = [] := quiet
  exact congrArg (fun ds => takeAll (ds ++ [_]) _) none

end TimeSet

/-- Settles O14: the four steps are the four values of `stepCode`. -/
theorem timeSetSteps : Obligations.TimeSetSteps := by
  intro s h time a stays now quiet answers
  have set (k : Nat) (u : State) (code : stepCode s.clock time = k)
      (told : u = if k = 3 then report .clockStep { req := some ⟨Kind.timeSet, h.tag⟩ } (s.taken Kind.timeSet h)
        else s.taken Kind.timeSet h) : answers u k := by
    refine (exec_timeSet a).trans (congrArg _ ?_)
    rw [timeSet_quiet (s := s.taken Kind.timeSet h) stays quiet, reply_eq]
    simp only [State.taken_clock, code]
    rw [told]
    rfl
  refine ⟨fun off => set 0 _ ?_ rfl, fun on later => set 1 _ ?_ rfl, fun on same => set 2 _ ?_ rfl, fun on earlier => set 3 _ ?_ rfl⟩
  · simp [stepCode, off]
  · simp [stepCode, on, later]
  · simp [stepCode, on, same]
  · simp [stepCode, on, Nat.lt_asymm earlier, Nat.ne_of_gt earlier]

end Sys2Proof.Machine

namespace Sys2Proof.Machine

open Sys2Proof

/-! ## Requests that join the store's queue (R34, R108, R178) -/

section Joining

variable {s : State} {r : StoreReq}

theorem kind_day : r.kind = .day ↔ r = .day := by cases r <;> simp [StoreReq.kind]

theorem kind_muster : r.kind = .muster ↔ r = .muster := by cases r <;> simp [StoreReq.kind]

theorem queued_day : queued .day s = true ↔ .day ∈ s.store.queue := by
  simp [queued, kind_day]

theorem queued_muster : queued .muster s = true ↔ .muster ∈ s.store.queue := by
  simp [queued, kind_muster]

theorem storeFull_iff : storeFull s = true ↔ 8 ≤ s.store.queue.length := by simp [storeFull]

/-- A request that joins others waits its turn. -/
theorem enqueue_waits (r : StoreReq) (busy : 0 < s.store.queue.length) :
    enqueue r s = s.withStore { s.store with queue := s.store.queue ++ [r] } := by
  have : s.store.queue.isEmpty = false := by cases h : s.store.queue <;> simp_all
  simp [enqueue, this]

theorem queueDay_queued (here : .day ∈ s.store.queue) : queueDay s = s := by simp [queueDay, queued_day.2 here]

theorem queueDay_full (away : .day ∉ s.store.queue) (full : 8 ≤ s.store.queue.length) :
    queueDay s = s.withClock { s.clock with dayRetry := some (s.now + 1000) } := by
  simp [queueDay, mt queued_day.1 away, storeFull_iff.2 full]

theorem queueDay_room (away : .day ∉ s.store.queue) (room : s.store.queue.length < 8) :
    queueDay s = enqueue .day (s.withClock { s.clock with dayRetry := none }) := by
  simp [queueDay, mt queued_day.1 away, mt storeFull_iff.1 (Nat.not_le.2 room)]

/-- The record, whose change needs its write. -/
def changed (s : State) : State := s.withEmu { s.emu with outstanding := true }

theorem queueRecord_queued (here : .muster ∈ s.store.queue) : queueRecord s = changed s :=
  if_pos (c := queued .muster (changed s) = true) (queued_muster.2 here)

theorem queueRecord_full (away : .muster ∉ s.store.queue) (full : 8 ≤ s.store.queue.length) :
    queueRecord s = s.withEmu { s.emu with outstanding := true, retry := some (s.emu.retry.getD (s.now + 1000)) } :=
  (if_neg (c := queued .muster (changed s) = true) (mt queued_muster.1 away)).trans
    (if_pos (c := storeFull (changed s) = true) (storeFull_iff.2 full))

theorem queueRecord_room (away : .muster ∉ s.store.queue) (room : s.store.queue.length < 8) :
    queueRecord s = enqueue .muster (s.withEmu { s.emu with outstanding := true, retry := none }) :=
  (if_neg (c := queued .muster (changed s) = true) (mt queued_muster.1 away)).trans
    (if_neg (c := storeFull (changed s) = true) (mt storeFull_iff.1 (Nat.not_le.2 room)))

/-- The day write is due again, its retry taken (R34). -/
def dayDue (due : Nat) (s : State) : State := (s.withNow (max s.now due)).withClock { s.clock with dayRetry := none }

theorem retryDay_due {due : Nat} (waits : s.clock.dayRetry = some due) : retryDay s = queueDay (dayDue due s) := by
  simp only [retryDay, waits]
  rfl

/-- The record write is due again, its retry taken (R108). -/
def recordDue (due : Nat) (s : State) : State := (s.withNow (max s.now due)).withEmu { s.emu with retry := none }

theorem retryRecord_due {due : Nat} (waits : s.emu.retry = some due) : retryRecord s = queueRecord (recordDue due s) := by
  simp only [retryRecord, waits]
  rfl

end Joining

/-- Settles O13: a retry queues its write (`queueDay`, `queueRecord`), by what stands in the store's queue. -/
theorem writesRetried : Obligations.WritesRetried := by
  refine ⟨fun s supply => ⟨fun none => ?_, fun due waits away => ?_, fun due waits => ?_⟩, fun s supply => ⟨fun none => ?_, fun due waits => ?_⟩⟩
  · rw [exec_powered rfl supply, retryDay, none]
  · rw [exec_powered rfl supply, retryDay_due waits]
    have away : .day ∉ (dayDue due s).store.queue := fun h => away _ h rfl
    exact ⟨fun busy room => congrArg _ ((queueDay_room away room).trans (enqueue_waits _ busy)),
      fun full => congrArg _ (queueDay_full away full)⟩
  · rw [exec_powered rfl supply, retryDay_due waits]
    exact ⟨fun here => congrArg _ (queueDay_queued here), fun away room => congrArg _ (queueDay_room away room)⟩
  · rw [exec_powered rfl supply, retryRecord, none]
  · rw [exec_powered rfl supply, retryRecord_due waits]
    exact ⟨fun here => congrArg _ (queueRecord_queued here),
      fun away busy room => congrArg _ ((queueRecord_room (s := recordDue due s) away room).trans (enqueue_waits _ busy)),
      fun away room => congrArg _ (queueRecord_room away room), fun away full => congrArg _ (queueRecord_full away full)⟩

end Sys2Proof.Machine

namespace Sys2Proof.Machine

open Sys2Proof

/-! ## The rollover (R32, R33, R137) -/

section Rollover

variable {s : State}

theorem report_withClock (k : FaultKind) (f : FaultFields) (c : Clock) (time : c.shipTime = s.clock.shipTime) :
    report k f (s.withClock c) = (report k f s).withClock c := by
  by_cases alert : (s.frc.rowOf k).severity = .alert
  · by_cases room : s.NoticeRoom 1
    · rw [report_alert s k f alert room, report_alert (s.withClock c) k f alert room]
      simp only [State.withClock_clock, time]
      rfl
    · rw [report_alert_full s k f alert room, report_alert_full (s.withClock c) k f alert room]
      simp only [State.withClock_clock, time]
      rfl
  · rw [report_quiet s k f alert, report_quiet (s.withClock c) k f alert]
    simp only [State.withClock_clock, time]
    rfl

/-- A notice is told alike whatever the clock is but for its ship time. -/
theorem notify_withClock (n : Notice) (c : Clock) (time : c.shipTime = s.clock.shipTime) :
    notify n (s.withClock c) = (notify n s).withClock c := by
  by_cases room : s.NoticeRoom 1
  · rw [notify_room s n room, notify_room (s.withClock c) n room]
    rfl
  · rw [notify_full s n room, notify_full (s.withClock c) n room]
    exact report_withClock (s := s.withLink { s.link with noticesLost := true }) _ _ c time

theorem activateTariff_eq (s : State) : activateTariff s = (s.purse.staged.isSome,
    s.withPurse { s.purse with active := s.purse.staged.getD s.purse.active, staged := none }) := by
  unfold activateTariff
  cases staged : s.purse.staged with
  | some t => rfl
  | none =>
    have same (p : Purse) (h : p.staged = none) : { p with active := p.active, staged := none } = p := by rw [← h]
    exact congrArg (fun p => (false, s.withPurse p)) (same _ staged).symm

/-- The day and the tariff of a rollover, its day write outstanding and the write's retry as named (R33). -/
def dayMoved (retry : Option Nat) (s : State) : State :=
  (s.withClock { s.clock with day := computedDay s.clock, dayOutstanding := true, dayRetry := retry }).withPurse
    { s.purse with active := s.purse.staged.getD s.purse.active, staged := none }

/-- The rollover but for its day write, whose retry stands as named (R33). -/
def rolledOver (retry : Option Nat) (s : State) : State :=
  notify (.dayRolled s.clock.day (computedDay s.clock) s.clock.shipTime s.purse.staged.isSome) (dayMoved retry s)

theorem rollover_eq (s : State) : rollover s = queueDay (rolledOver s.clock.dayRetry s) := by
  have told (x : State) (n : Notice) : (notify n x).withClock { (notify n x).clock with dayOutstanding := true } =
      notify n (x.withClock { x.clock with dayOutstanding := true }) := by
    rw [(tells_notify x n).clock]
    exact (notify_withClock (s := x) n { x.clock with dayOutstanding := true } rfl).symm
  unfold rollover
  dsimp only
  rw [activateTariff_eq]
  exact congrArg queueDay (told _ _)

variable {retry : Option Nat}

theorem rolledOver_retry (other : Option Nat) :
    (rolledOver retry s).withClock { (rolledOver retry s).clock with dayRetry := other } = rolledOver other s := by
  unfold rolledOver
  rw [(tells_notify _ _).clock]
  exact (notify_withClock (s := dayMoved retry s) _ { (dayMoved retry s).clock with dayRetry := other } rfl).symm

theorem rolledOver_blocks : (rolledOver retry s).store = s.store ∧ (rolledOver retry s).now = s.now := by
  obtain ⟨l, r, shape⟩ : Tells _ (rolledOver retry s) := tells_notify _ _
  rw [shape]
  exact ⟨rfl, rfl⟩

/-- With room for DAY-ROLLED the rollover tells it and nothing else. -/
theorem rolledOver_room (room : s.NoticeRoom 1) : rolledOver retry s = (dayMoved retry s).transmits
    [.notice (.dayRolled s.clock.day (computedDay s.clock) s.clock.shipTime s.purse.staged.isSome)] :=
  notify_room _ _ room

theorem evaluateDay_rolls (set : s.clock.isSet = true) (passes : s.clock.day < computedDay s.clock) :
    evaluateDay s = queueDay (rolledOver s.clock.dayRetry s) := by
  rw [← rollover_eq]
  simp [evaluateDay, set, passes]

/-- What becomes of the day write of a rollover (R33, R34). -/
theorem rolledOver_queued (here : .day ∈ s.store.queue) : queueDay (rolledOver retry s) = rolledOver retry s :=
  queueDay_queued (by rwa [rolledOver_blocks.1])

theorem rolledOver_joins (away : .day ∉ s.store.queue) (room : s.store.queue.length < 8) :
    queueDay (rolledOver retry s) = enqueue .day (rolledOver none s) := by
  rw [queueDay_room (by rwa [rolledOver_blocks.1]) (by rwa [rolledOver_blocks.1]), rolledOver_retry]

theorem rolledOver_full (away : .day ∉ s.store.queue) (full : 8 ≤ s.store.queue.length) :
    queueDay (rolledOver retry s) = rolledOver (some (s.now + 1000)) s := by
  rw [queueDay_full (by rwa [rolledOver_blocks.1]) (by rwa [rolledOver_blocks.1]), rolledOver_retry, rolledOver_blocks.2]

end Rollover

/-- Settles O12: the rollover is told (`rolledOver`), and its day write goes by what stands in the store's queue. -/
theorem dayRollsOver : Obligations.DayRollsOver := by
  refine fun s supply => ⟨fun stays => ?_, fun set passes room away busy few => ?_, fun set passes => ?_⟩
  · rw [exec_powered rfl supply, evaluateDay_stays stays]
  · have away : .day ∉ s.store.queue := fun h => away _ h rfl
    rw [exec_powered rfl supply, evaluateDay_rolls set passes, rolledOver_joins away few,
      enqueue_waits _ (by rwa [rolledOver_blocks.1]), rolledOver_room room]
    rfl
  · rw [exec_powered rfl supply, evaluateDay_rolls set passes]
    exact ⟨fun here => congrArg _ (rolledOver_queued here), fun away room => congrArg _ (rolledOver_joins away room),
      fun away full => congrArg _ (rolledOver_full away full)⟩

end Sys2Proof.Machine

namespace Sys2Proof.Machine

open Sys2Proof

/-! ## The requests that read (R40, R47, R65, R92, R93, R114, R115, R139, R146, R160, R168, R182, R194, R204) -/

section Queries

variable {s : State} {h : Hdr} {n m k : Nat}

/-- A request whose owner answers it at once changes nothing else. -/
theorem exec_answers {i : Instr} {kind need : Nat} {always : Bool} {act : ReqId → State → State} {r : Result} {fs : List Fld}
    (arm : exec i s = .next (accept kind h need always act s)) (a : s.Accepts h need)
    (answers : act ⟨kind, h.tag⟩ (s.taken kind h) = answer ⟨kind, h.tag⟩ r fs (s.taken kind h)) :
    exec i s = .next (s.replies kind h r fs) := by
  rw [arm, accept_owner a, answers, answer_taken]

theorem baudRate_eq (p : Straps) : baudRate p = if p.baud1 then (if p.baud0 then 2000000 else 921600)
    else if p.baud0 then 460800 else 115200 := by
  obtain ⟨one, zero⟩ := p
  cases one <;> cases zero <;> rfl

/-- While the supply is up and RESET# high the ALERT output is that of its three shares (R196, R212). -/
theorem alertLine_running (e : s.Enlists h) : alertLine s = (s.emu.latch || s.roll.standing || alertPtu s) := by
  simp [alertLine, e.supply, e.running, alertEmu, alertPrl]

theorem timingQuery_bad (high : 7 < n) (id : ReqId) : timingQuery n id s = answer id .badValue [] s := if_pos high

theorem timingQuery_set (low : n ≤ 7) (id : ReqId) : timingQuery n id s = answer id .done (timingFields (s.timing n)) s :=
  if_neg (Nat.not_lt.2 low)

theorem holdQuery_bad (high : 31 < n) (id : ReqId) : holdQuery n id s = answer id .badValue [] s := if_pos high

theorem holdQuery_slot (low : n ≤ 31) (id : ReqId) :
    holdQuery n id s = answer id .done (slotReport n (s.holdSlot n) s.clock.shipTime) s := if_neg (Nat.not_lt.2 low)

theorem tariffQuery_bad (high : 1 < n) (id : ReqId) : tariffQuery n id s = answer id .badValue [] s := by
  obtain ⟨n, rfl⟩ := Nat.exists_eq_add_of_lt high
  rw [show 1 + n + 1 = n + 2 by omega]
  rfl

theorem tariffQuery_staged {t : Tariff} (staged : s.purse.staged = some t) (id : ReqId) :
    tariffQuery 1 id s = answer id .done (tariffFields t ++ [.n1 1]) s := by
  simp [tariffQuery, staged, yesCode]

theorem tariffQuery_noneStaged (staged : s.purse.staged = none) (id : ReqId) :
    tariffQuery 1 id s = answer id .noneStaged [.n1 0] s := by
  simp [tariffQuery, staged, yesCode]

theorem personQuery_bad (high : 8191 < n) (id : ReqId) : personQuery n id s = answer id .badValue [] s := if_pos high

theorem personQuery_person (low : n ≤ 8191) (id : ReqId) : personQuery n id s = answer id .done (personFields (s.person n) ++
    [.n1 (yesCode (s.beforeImage n).isSome), .n1 (enumCode? personStates ((s.beforeImage n).map (·.state)))]) s := by
  simp [personQuery, Nat.not_lt.2 low, writePending]

theorem musterRead_bad (high : 8191 < n) (id : ReqId) : musterRead n id s = answer id .badValue [] s := if_pos high

theorem musterRead_from (low : n ≤ 8191) (id : ReqId) :
    musterRead n id s = answer id .done (listPersons (fun p => p.state = .aboard && p.mark.isNone) n s) s :=
  if_neg (Nat.not_lt.2 low)

theorem folioQuery_bad (high : 4095 < n) (id : ReqId) : folioQuery n id s = answer id .badValue [] s := if_pos high

theorem folioQuery_folio (low : n ≤ 4095) (id : ReqId) : folioQuery n id s = answer id .done (folioFields (s.folio n) ++
    [.n1 (holdsOfFolio s n).length, .n3 ((holdsOfFolio s n).map (·.total)).sum,
      .n2 (s.journal.entries.filter (·.folio = n)).length,
      .n3 ((s.journal.entries.filter (·.folio = n)).map (·.total)).sum]) s := if_neg (Nat.not_lt.2 low)

theorem kindFilter_none (high : 1 < k) (notNone : k ≠ 255) : kindFilter k = none := by
  simp only [kindFilter, notNone, if_false]
  exact congrArg (Option.map some) (List.getElem?_eq_none (l := personKinds) high)

theorem rollRead_bad (high : 8191 < n ∨ 2 < m ∨ (1 < k ∧ k ≠ 255)) (id : ReqId) :
    rollRead n m k id s = answer id .badValue [] s := by
  unfold rollRead
  split
  · rename_i st kind state filter
    have listed : m ≤ 2 := by
      by_contra above
      cases (List.getElem?_eq_none (l := personStates) (Nat.not_le.1 above)).symm.trans state
    have filtered : ¬ (1 < k ∧ k ≠ 255) := fun ⟨above, notNone⟩ => nomatch (kindFilter_none above notNone).symm.trans filter
    exact if_pos (by omega)
  · rfl

theorem rollRead_all {st : PersonState} (low : n ≤ 8191) (state : personStates[m]? = some st) (id : ReqId) :
    rollRead n m 255 id s = answer id .done (listPersons (fun p => p.state = st) n s) s := by
  have state : enumOf personStates m = some st := state
  simp [rollRead, state, kindFilter, Nat.not_lt.2 low]

theorem rollRead_kind {st : PersonState} {kind : PersonKind} (low : n ≤ 8191) (state : personStates[m]? = some st)
    (listed : personKinds[k]? = some kind) (id : ReqId) :
    rollRead n m k id s = answer id .done (listPersons (fun p => p.state = st && p.kind = kind) n s) s := by
  have notNone : k ≠ 255 := by
    rintro rfl
    cases listed
  have state : enumOf personStates m = some st := state
  have filter : kindFilter k = some (some kind) := by
    simp only [kindFilter, notNone, if_false]
    exact congrArg (Option.map some) listed
  simp [rollRead, state, filter, Nat.not_lt.2 low]

theorem journalRead_bad (out : m = 0 ∨ 8 < m) (id : ReqId) : journalRead n m id s = answer id .badValue [] s :=
  if_pos (by simpa using out)

theorem journalRead_from (some : 0 < m) (few : m ≤ 8) (id : ReqId) : journalRead n m id s =
    let returned := (s.journal.entries.filter (n ≤ ·.seq)).take m
    answer id .done (summaryFields (nextRead returned s.journal.entries) s ++ .n1 returned.length :: returned.flatMap journalFields) s :=
  if_neg (by simp; omega)

end Queries

/-- Settles O48: each is answered by its owner at once (`exec_answers`). -/
theorem queriesOnlyRead : Obligations.QueriesOnlyRead := by
  refine fun s h n m k => ⟨fun a => ?_, fun a => ?_, fun a => ?_, fun a => ?_, fun a => ?_⟩
  · refine ⟨exec_answers rfl a ?_, exec_answers rfl a rfl, exec_answers rfl a rfl, exec_answers rfl a rfl, exec_answers rfl a rfl,
      exec_answers rfl a rfl, exec_answers rfl a rfl, exec_answers rfl a rfl, exec_answers rfl a ?_⟩
    · rw [← baudRate_eq]
      simp [linkQuery, State.taken]
    · rw [← alertLine_running a.enlists]
      rfl
  · exact ⟨exec_answers rfl a rfl, fun low => exec_answers rfl a (timingQuery_set low _),
      fun high => exec_answers rfl a (timingQuery_bad high _), fun low => exec_answers rfl a (holdQuery_slot low _),
      fun high => exec_answers rfl a (holdQuery_bad high _), exec_answers rfl a rfl,
      fun t staged => exec_answers rfl a (tariffQuery_staged (s := s.taken _ h) staged _), fun staged => exec_answers rfl a (tariffQuery_noneStaged (s := s.taken _ h) staged _),
      fun high => exec_answers rfl a (tariffQuery_bad high _)⟩
  · exact ⟨fun low => exec_answers rfl a (personQuery_person low _), fun high => exec_answers rfl a (personQuery_bad high _),
      fun low => exec_answers rfl a (musterRead_from low _), fun high => exec_answers rfl a (musterRead_bad high _),
      fun low => exec_answers rfl a (folioQuery_folio low _), fun high => exec_answers rfl a (folioQuery_bad high _)⟩
  · refine ⟨fun bad => exec_answers rfl a (rollRead_bad bad _), fun st low state => ⟨fun all => ?_, fun kind listed => ?_⟩⟩
    · subst all
      exact exec_answers rfl a (rollRead_all low state _)
    · exact exec_answers rfl a (rollRead_kind low state listed _)
  · exact ⟨fun out => exec_answers rfl a (journalRead_bad out _), fun some few => exec_answers rfl a (journalRead_from some few _)⟩

end Sys2Proof.Machine

namespace Sys2Proof.Machine

open Sys2Proof

/-! ## What leaves the clock as it stands (R32): everything but the clock's own requests and events, and the end of a day write -/

section ClockFrame

variable {s : State}

theorem foldl_clock {α : Type} {f : State → α → State} (step : ∀ u a, (f u a).clock = u.clock) (xs : List α) :
    (xs.foldl f s).clock = s.clock :=
  List.foldlRecOn (motive := fun u => u.clock = s.clock) xs f rfl fun u same a _ => (step u a).trans same

theorem Says.clock {t : State} (x : Says s t) : t.clock = s.clock := x.shape.clock

theorem Checked.clock {t : State} (x : Checked s t) : t.clock = s.clock := by
  obtain ⟨⟨_, _, _, _, rfl⟩, _⟩ := x
  rfl

/-! ### Frames and reports -/

@[simp] theorem report_clock (k f) : (report k f s).clock = s.clock := (tells_report s k f).clock
@[simp] theorem notify_clock (n) : (notify n s).clock = s.clock := (tells_notify s n).clock
@[simp] theorem reply_clock (id b) : (reply id b s).clock = s.clock := (says_reply s id b).clock
@[simp] theorem answer_clock (id r fs) : (answer id r fs s).clock = s.clock := (says_answer s id r fs).clock
@[simp] theorem replyWaiting_clock (id b) : (replyWaiting id b s).clock = s.clock := (says_replyWaiting s id b).clock
@[simp] theorem decide'_clock (p d) : (decide' p d s).clock = s.clock := (says_decide' s p d).clock
@[simp] theorem refuse_clock (p r) : (refuse p r s).clock = s.clock := (says_refuse s p r).clock
@[simp] theorem refuseFor_clock (p e r) : (refuseFor p e r s).clock = s.clock := (says_refuseFor s p e r).clock
@[simp] theorem alarm_clock (n k) : (alarm n k s).clock = s.clock := (says_alarm n k s).clock
@[simp] theorem drive_clock (n d) : (drive n d s).clock = s.clock := (says_drive n d s).clock
@[simp] theorem clearAlarm_clock (n was) : (clearAlarm n was s).clock = s.clock := (says_clearAlarm n was s).clock

/-! ### Portals -/

@[simp] theorem enterEmergency_clock (tell n) : (enterEmergency tell n s).clock = s.clock := by
  simp [enterEmergency, apply_ite State.clock]

@[simp] theorem place_clock (tell n) : (place tell n s).clock = s.clock := by simp [place, apply_ite State.clock]

@[simp] theorem resumeDoor_clock (n) : (resumeDoor n s).clock = s.clock := by simp [resumeDoor, apply_ite State.clock]

@[simp] theorem strikeFailure_clock (n) : (strikeFailure n s).clock = s.clock := by simp [strikeFailure]

@[simp] theorem heldOpenEnds_clock (n) : (heldOpenEnds n s).clock = s.clock := by simp [heldOpenEnds]

@[simp] theorem doorStep_clock (n) : (doorStep n s).2.2.clock = s.clock := by
  unfold doorStep releaseSecure
  dsimp only
  split <;> rfl

@[simp] theorem retimeRelease_clock (window n) : (retimeRelease window n s).clock = s.clock := by
  unfold retimeRelease
  dsimp only
  split
  · rfl
  · simp [releaseEnds, apply_ite State.clock]

@[simp] theorem retime_clock (x n) : (retime x s n).clock = s.clock := by simp [retime, retimeOthers, apply_ite State.clock]

@[simp] theorem decideDoor_clock (p e) : (decideDoor p e s).clock = s.clock := by
  unfold decideDoor
  dsimp only
  cases windowRefusal e s <;> simp [apply_ite State.clock]

@[simp] theorem portalSet_clock (c id) : (portalSet c id s).clock = s.clock := by
  unfold portalSet
  cases configured c <;> simp [doneState, apply_ite State.clock]

@[simp] theorem portalDisable_clock (n id) : (portalDisable n id s).clock = s.clock := by
  simp [portalDisable, takeOut, apply_ite State.clock]

@[simp] theorem portalEnable_clock (n id) : (portalEnable n id s).clock = s.clock := by
  simp [portalEnable, doneState, apply_ite State.clock]

@[simp] theorem contactOpen_clock (n) : (contactOpen n s).clock = s.clock := by
  unfold contactOpen
  dsimp only
  split <;> simp [apply_ite State.clock]

@[simp] theorem contactClosed_clock (n) : (contactClosed n s).clock = s.clock := by
  unfold contactClosed
  dsimp only
  split <;> simp

@[simp] theorem contact_clock (n position id) : (contact n position id s).clock = s.clock := by
  unfold contact
  dsimp only
  split <;> simp [doneState, apply_ite State.clock]

@[simp] theorem strikeAck_clock (n id) : (strikeAck n id s).clock = s.clock := by simp [strikeAck, apply_ite State.clock]

@[simp] theorem remoteRelease_clock (n id) : (remoteRelease n id s).clock = s.clock := by
  have after := doorStep_clock (s := s) n
  unfold remoteRelease
  dsimp only
  generalize doorStep n s = outcome at after
  obtain ⟨r, release, t⟩ := outcome
  cases r <;> simp [apply_ite State.clock] <;> exact fun _ _ => after

@[simp] theorem timingStage_clock (set release heldOpen strike applyNow id) :
    (timingStage set release heldOpen strike applyNow id s).clock = s.clock := by
  unfold timingStage
  cases yesNo? applyNow <;> simp [apply_ite State.clock, foldl_clock]

@[simp] theorem releaseExpiry_clock (n) : (releaseExpiry n s).clock = s.clock := by
  unfold releaseExpiry
  split
  · rfl
  · dsimp only
    split <;> simp [reachTime, releaseEnds]

@[simp] theorem strikeExpiry_clock (n) : (strikeExpiry n s).clock = s.clock := by
  unfold strikeExpiry
  split <;> simp [reachTime]

@[simp] theorem heldOpenExpiry_clock (n) : (heldOpenExpiry n s).clock = s.clock := by
  unfold heldOpenExpiry
  split <;> simp [reachTime]

/-! ### The store's queue -/

@[simp] theorem draw_clock : (draw s).2.clock = s.clock := by
  unfold draw
  split <;> rfl

@[simp] theorem writeMarker_clock (m) : (writeMarker m s).clock = s.clock := by
  unfold writeMarker markerTry
  dsimp only
  split
  · simp
  split <;> simp

@[simp] theorem requesterBegins_clock (r) : (requesterBegins r s).clock = s.clock := by cases r <;> rfl

@[simp] theorem beginWrite_clock : (beginWrite s).clock = s.clock := by
  unfold beginWrite
  split <;> simp

@[simp] theorem enqueue_clock (r) : (enqueue r s).clock = s.clock := by simp [enqueue, apply_ite State.clock]

/-! ### The roll -/

@[simp] theorem setPerson_clock (n new) : (setPerson n new s).clock = s.clock := rfl

@[simp] theorem evalWarning_clock : (evalWarning s).clock = s.clock := by simp [evalWarning, assertWarning, apply_ite State.clock]

@[simp] theorem evalIfMoved_clock (before) : (evalIfMoved before s).clock = s.clock := by simp [evalIfMoved, apply_ite State.clock]

@[simp] theorem changeSlot_clock (n new cause awaits) : (changeSlot n new cause awaits s).clock = s.clock := by
  simp [changeSlot, apply_ite State.clock]

@[simp] theorem endChange_clock (n ok) : (endChange n ok s).clock = s.clock := by
  unfold endChange
  split <;> simp [apply_ite State.clock]

@[simp] theorem answerLane_clock (p r person d) : (answerLane p r person d s).clock = s.clock := (says_answerLane p r person d s).clock

@[simp] theorem laneAnomaly_clock (p r person d) : (laneAnomaly p r person d s).clock = s.clock := (says_laneAnomaly p r person d s).clock

@[simp] theorem acceptCrossing_clock (p person d) : (acceptCrossing p person d s).clock = s.clock := by simp [acceptCrossing]

@[simp] theorem cross_clock (p person) : (cross p person s).clock = s.clock := by
  unfold cross
  dsimp only
  split
  · simp
  split
  · simp
  split <;> simp [crossOutbound, crossInbound, apply_ite State.clock]

@[simp] theorem decideLane_clock (p e) : (decideLane p e s).clock = s.clock := by
  unfold decideLane
  cases windowRefusal e s <;> simp [apply_ite State.clock]

@[simp] theorem decideMuster_clock (p e) : (decideMuster p e s).clock = s.clock := by
  unfold decideMuster
  cases windowRefusal e s <;> simp [markPerson, answerMark, apply_ite State.clock]

@[simp] theorem endSlotWrite_clock (person cause awaits ok) : (endSlotWrite person cause awaits ok s).clock = s.clock := by
  cases cause <;> simp [endSlotWrite, endCrossing, endCorrection, endMark, apply_ite State.clock]

@[simp] theorem takeDeadline_clock : (takeDeadline s).clock = s.clock := by simp [takeDeadline, apply_ite State.clock]

@[simp] theorem deadlineSet_clock (deadline id) : (deadlineSet deadline id s).clock = s.clock := by simp [deadlineSet]

@[simp] theorem capacitySet_clock (limit level hysteresis id) : (capacitySet limit level hysteresis id s).clock = s.clock := by
  simp [capacitySet, apply_ite State.clock]

@[simp] theorem ifRoom_clock (boards person id new) : (ifRoom boards person id new s).clock = s.clock := by
  simp [ifRoom, refuseCapacity, correctSlot, apply_ite State.clock]

@[simp] theorem enrol_clock (person kind state id) : (enrol person kind state id s).clock = s.clock := by
  unfold enrol
  split <;> simp [correcting, apply_ite State.clock]

@[simp] theorem discharge_clock (person id) : (discharge person id s).clock = s.clock := by
  simp [discharge, correcting, correctSlot, apply_ite State.clock]

@[simp] theorem presenceSet_clock (person state id) : (presenceSet person state id s).clock = s.clock := by
  unfold presenceSet
  split <;> simp [correcting, apply_ite State.clock]

/-! ### The emergency unit -/

@[simp] theorem tellMuster_clock : (tellMuster s).clock = s.clock := (says_tellMuster s).clock

@[simp] theorem tellEmergency_clock : (tellEmergency s).clock = s.clock := (says_tellEmergency s).clock

@[simp] theorem clearMarks_clock : (clearMarks s).clock = s.clock := rfl

@[simp] theorem queueRecord_clock : (queueRecord s).clock = s.clock := by simp [queueRecord, apply_ite State.clock]

@[simp] theorem startMuster_clock (cause awaits) : (startMuster cause awaits s).clock = s.clock := by simp [startMuster]

@[simp] theorem answerCarried_clock (stored) : (answerCarried stored s).clock = s.clock := by simp [answerCarried, foldl_clock]

@[simp] theorem endRecordWrite_clock (written ok) : (endRecordWrite written ok s).clock = s.clock := by
  simp [endRecordWrite, apply_ite State.clock]

@[simp] theorem retryRecord_clock : (retryRecord s).clock = s.clock := by
  unfold retryRecord
  split <;> simp [reachTime]

@[simp] theorem evalCondition_clock : (evalCondition s).clock = s.clock := by
  simp [evalCondition, conditionRises, conditionFalls, apply_ite State.clock, foldl_clock]

@[simp] theorem settleLine_clock (l) : (settleLine l s).clock = s.clock := by simp [settleLine, apply_ite State.clock]

@[simp] theorem takeLine_clock (l) : (takeLine l s).clock = s.clock := by
  simp [takeLine, apply_ite State.clock]

@[simp] theorem alarmLineChange_clock (l high) : (alarmLineChange l high s).clock = s.clock := by
  simp [alarmLineChange, apply_ite State.clock]

@[simp] theorem debounceExpiry_clock (l) : (debounceExpiry l s).clock = s.clock := by
  unfold debounceExpiry
  split <;> simp [reachTime]

@[simp] theorem alarmSet_clock (enableA enableB debounce startsMuster id) :
    (alarmSet enableA enableB debounce startsMuster id s).clock = s.clock := by
  unfold alarmSet
  split <;> simp

@[simp] theorem emergencyDeclare_clock (value id) : (emergencyDeclare value id s).clock = s.clock := by
  unfold emergencyDeclare
  split <;> simp

@[simp] theorem emergencyClear_clock (id) : (emergencyClear id s).clock = s.clock := by simp [emergencyClear, apply_ite State.clock]

@[simp] theorem resume_clock (scope n id) : (resume scope n id s).clock = s.clock := by
  simp [resume, resumeOne, resumeAll, apply_ite State.clock, foldl_clock]

@[simp] theorem musterStart_clock (id) : (musterStart id s).clock = s.clock := by simp [musterStart, apply_ite State.clock]

@[simp] theorem musterEnd_clock (id) : (musterEnd id s).clock = s.clock := by simp [musterEnd, endMuster, apply_ite State.clock]

/-! ### The card table -/

@[simp] theorem writeEntry_clock (set way f) : (writeEntry set way f s).clock = s.clock := by
  unfold writeEntry
  split <;> simp

@[simp] theorem leaveTable_clock (set way) : (leaveTable set way s).clock = s.clock := by
  unfold leaveTable
  split <;> simp [apply_ite State.clock]

@[simp] theorem settleFailed_clock (set way e) : (settleFailed set way e s).clock = s.clock := rfl

@[simp] theorem failEntry_clock (set way e) : (failEntry set way e s).clock = s.clock := by simp [failEntry, reportCheck]

@[simp] theorem failDisabled_clock (set way e) : (failDisabled set way e s).clock = s.clock := by
  simp [failDisabled, apply_ite State.clock]

@[simp] theorem retireEntry_clock (way set) : (retireEntry way s set).clock = s.clock := by
  have verified : (match s.entry set way with
      | some e => if e.fails then reportCheck e (settleFailed set way e s) else s
      | none => s).clock = s.clock := by
    split <;> simp [reportCheck, apply_ite State.clock]
  unfold retireEntry
  dsimp only
  split
  · rw [apply_ite State.clock, leaveTable_clock, ite_self]
    exact verified
  · exact verified

@[simp] theorem retireWay_clock (way byFault) : (retireWay way byFault s).clock = s.clock := by
  simp [retireWay, foldl_clock, apply_ite State.clock]

@[simp] theorem failCheck_clock (set way e) : (failCheck set way e s).clock = s.clock := by
  simp [failCheck, apply_ite State.clock]

@[simp] theorem verify_clock (set way) : (verify set way s).clock = s.clock := by
  unfold verify
  split <;> simp [apply_ite State.clock]

theorem readAmong_clock (may c) (ws : List Nat) (s : State) : (readAmong may c ws s).2.clock = s.clock := by
  induction ws generalizing s with
  | nil => rfl
  | cons w ws ih =>
    unfold readAmong
    dsimp only
    split
    · split
      · split
        · exact verify_clock ..
        · exact (ih _).trans (verify_clock ..)
      · exact (ih _).trans (verify_clock ..)
    · exact ih s

@[simp] theorem readCard_clock (c) : (readCard c s).2.clock = s.clock := readAmong_clock ..

@[simp] theorem readSeen_clock (c) : (readSeen c s).2.clock = s.clock := readAmong_clock ..

@[simp] theorem lookup_clock (c) : (lookup c s).2.clock = s.clock := by
  unfold lookup
  dsimp only
  split
  · rfl
  split
  · split <;> simp [apply_ite State.clock]
  · simp

@[simp] theorem callEntry_clock (c f) : (callEntry c f s).clock = s.clock := by
  have after := readCard_clock (s := s) c
  unfold callEntry
  split <;> rename_i read <;> simp_all

@[simp] theorem callAuthorize_clock (c total alcohol) : (callAuthorize c total alcohol s).clock = s.clock := callEntry_clock ..

@[simp] theorem callAdjust_clock (c spend alcohol day) : (callAdjust c spend alcohol day s).clock = s.clock := callEntry_clock ..

@[simp] theorem callHoldEnd_clock (c) : (callHoldEnd c s).clock = s.clock := by
  have after := readCard_clock (s := s) c
  unfold callHoldEnd
  split <;> rename_i read <;> rw [read] at after
  · dsimp only
    split <;> simp_all [apply_ite State.clock]
  · exact after

@[simp] theorem verifySet_clock (set) : (verifySet set s).clock = s.clock := by
  simp [verifySet, foldl_clock, apply_ite State.clock]

@[simp] theorem install_clock (e) : (install e s).2.clock = s.clock := by
  unfold install
  dsimp only
  split <;> simp

@[simp] theorem startFetch_clock (p) : (startFetch p s).2.clock = s.clock := by
  unfold startFetch
  split
  · split <;> simp
  · split <;> simp

@[simp] theorem askCard_clock (p) : (askCard p s).2.clock = s.clock := by
  have after := lookup_clock (s := s) p.card
  unfold askCard
  dsimp only
  split
  · rfl
  split <;> rename_i read <;> rw [read] at after <;> dsimp only at after
  · split
    · exact after
    split <;> simp [after]
  · simp [after]

@[simp] theorem placeRecord_clock (fresh) : (placeRecord fresh s).2.clock = s.clock := by
  have after := readCard_clock (s := s) fresh.card
  unfold placeRecord
  dsimp only
  split <;> rename_i read <;> rw [read] at after <;> dsimp only at after
  · simp [after]
  · rename_i t
    have installed := install_clock (s := verifySet (setIndex fresh.card) t) fresh
    split
    · simp [after]
    split <;> rename_i placed <;> rw [placed] at installed <;> simp_all

@[simp] theorem flushEntry_clock (n) : (flushEntry s n).clock = s.clock := by
  unfold flushEntry
  dsimp only
  split <;> simp [apply_ite State.clock]

@[simp] theorem flush_clock (id) : (flush id s).clock = s.clock := by simp [flush, foldl_clock]

@[simp] theorem verifyWay_clock (w) : (verifyWay s w).clock = s.clock := by simp [verifyWay, foldl_clock]

@[simp] theorem wayDisable_clock (w id) : (wayDisable w id s).clock = s.clock := by simp [wayDisable, apply_ite State.clock]

@[simp] theorem wayRestore_clock (w id) : (wayRestore w id s).clock = s.clock := by simp [wayRestore, apply_ite State.clock]

@[simp] theorem wayQuery_clock (w id) : (wayQuery w id s).clock = s.clock := by
  simp [wayQuery, apply_ite State.clock, foldl_clock]

@[simp] theorem cardRevoke_clock (card id) : (cardRevoke card id s).clock = s.clock := by
  have after := readCard_clock (s := s) card
  unfold cardRevoke
  generalize readCard card s = read at after
  obtain ⟨found, t⟩ := read
  dsimp only at after ⊢
  rw [← after]
  generalize fetchOf _ card = pendingFetch
  cases found <;> cases pendingFetch <;> simp

@[simp] theorem cardResident_clock (card value id) : (cardResident card value id s).clock = s.clock := by
  have after := readCard_clock (s := s) card
  unfold cardResident
  split
  · simp
  split <;> rename_i read <;> rw [read] at after
  · simp_all
  · simp_all [apply_ite State.clock]

@[simp] theorem cardQuery_clock (form key id) : (cardQuery form key id s).clock = s.clock := by
  unfold cardQuery
  split
  · have after := readSeen_clock (s := s) key
    unfold queryCard
    split <;> rename_i read <;> rw [read] at after <;> simp_all
  · unfold queryPlace
    split
    · simp
    dsimp only
    split <;> simp
  · simp

/-! ### Holds, folios and the journal -/

@[simp] theorem releaseHold_clock (slot h last) : (releaseHold slot h last s).clock = s.clock := by
  simp [releaseHold, moveExposure]

@[simp] theorem tellExpired_clock (slot h cause) : (tellExpired slot h cause s).clock = s.clock := by simp [tellExpired]

@[simp] theorem expireIfDue_clock (slot) : (expireIfDue slot s).clock = s.clock := by
  unfold expireIfDue
  split <;> simp [apply_ite State.clock]

@[simp] theorem createHold_clock (p h slot d) : (createHold p h slot d s).clock = s.clock := by
  simp [createHold, moveExposure]

@[simp] theorem roomChecks_clock (p e h d) : (roomChecks p e h d s).clock = s.clock := by
  unfold roomChecks
  split <;> simp [apply_ite State.clock]

@[simp] theorem amountChecks_clock (p a e) : (amountChecks p a e s).clock = s.clock := by
  unfold amountChecks
  dsimp only
  split
  · simp
  split <;> simp

@[simp] theorem refuseCharge_clock (p e r) : (refuseCharge p e r s).clock = s.clock := by simp [refuseCharge]

@[simp] theorem decideCharge_clock (p a e) : (decideCharge p a e s).clock = s.clock := by
  unfold decideCharge
  cases windowRefusal e s <;> cases (s.folio e.folio).state <;> simp [apply_ite State.clock]

@[simp] theorem closeCommit_clock (slot entry awaits) : (closeCommit slot entry awaits s).clock = s.clock := by
  unfold closeCommit
  dsimp only
  split <;> simp [moveExposure, apply_ite State.clock]

@[simp] theorem failCommit_clock (slot awaits) : (failCommit slot awaits s).clock = s.clock := by
  unfold failCommit
  split <;> simp [apply_ite State.clock]

theorem settleEntries_clock (es : List JournalEntry) (acc : State × SettleTally) :
    (es.foldl settleEntry acc).1.clock = acc.1.clock := by
  induction es generalizing acc with
  | nil => rfl
  | cons e es ih =>
    refine (ih _).trans ?_
    unfold settleEntry
    dsimp only
    split <;> rfl

@[simp] theorem completeSettle_clock (awaits) : (completeSettle awaits s).clock = s.clock := by
  unfold completeSettle
  split
  · rfl
  · simp [settleEntries_clock]

@[simp] theorem failSettle_clock (awaits) : (failSettle awaits s).clock = s.clock := by simp [failSettle]

@[simp] theorem activateTariff_clock : (activateTariff s).2.clock = s.clock := by
  unfold activateTariff
  split <;> rfl

@[simp] theorem tariffStage_clock (x applyNow id) : (tariffStage x applyNow id s).clock = s.clock := by
  unfold tariffStage
  split
  · simp
  split <;> simp

@[simp] theorem commitHold_clock (number h expiry subtotal alcohol id) :
    (commitHold number h expiry subtotal alcohol id s).clock = s.clock := by
  simp [commitHold, refuseHold, apply_ite State.clock]

@[simp] theorem commit_clock (number subtotal alcohol id) : (commit number subtotal alcohol id s).clock = s.clock := by
  unfold commit
  split <;> simp [refuseHold, apply_ite State.clock]

@[simp] theorem voidHold_clock (number id) : (voidHold number id s).clock = s.clock := by
  unfold voidHold
  split <;> simp [refuseHold]

@[simp] theorem folioLoad_clock (n limit balance state id) : (folioLoad n limit balance state id s).clock = s.clock := by
  unfold folioLoad
  split <;> simp [apply_ite State.clock]

@[simp] theorem folioPost_clock (n balance id) : (folioPost n balance id s).clock = s.clock := by
  simp [folioPost, apply_ite State.clock]

@[simp] theorem moveFolio_clock (n st id) : (moveFolio n st id s).clock = s.clock := by
  simp [moveFolio, apply_ite State.clock]

@[simp] theorem folioClose_clock (n id) : (folioClose n id s).clock = s.clock := by
  simp [folioClose, apply_ite State.clock]

@[simp] theorem settle_clock (seq id) : (settle seq id s).clock = s.clock := by
  unfold settle
  split
  · simp
  split <;> simp [apply_ite State.clock]

/-! ### Presentations -/

@[simp] theorem handBack_clock (p e) : (handBack p e s).clock = s.clock := by
  unfold handBack
  split <;> simp

@[simp] theorem resumeWith_clock (e p) : (resumeWith e s p).clock = s.clock := by simp [resumeWith, apply_ite State.clock]

@[simp] theorem present_clock (p) : (present p s).clock = s.clock := by
  have after := askCard_clock (s := s) p
  unfold present
  split
  · simp
  split <;> rename_i asked <;> rw [asked] at after <;> simp_all

@[simp] theorem presentAt_clock (portal card gen id) : (presentAt portal card gen id s).clock = s.clock := by
  unfold presentAt
  dsimp only
  split
  · simp
  split <;> simp [apply_ite State.clock]

@[simp] theorem authorize_clock (portal card gen a id) : (authorize portal card gen a id s).clock = s.clock := by
  simp [authorize, apply_ite State.clock]

@[simp] theorem resumeAt_clock (c way fresh p) : (resumeAt c way fresh s p).clock = s.clock := by simp [resumeAt]

@[simp] theorem resumePassed_clock (fresh p) : (resumePassed fresh s p).clock = s.clock := by
  unfold resumePassed
  split <;> simp

@[simp] theorem answerFetch_clock (id n f fresh) : (answerFetch id n f fresh s).clock = s.clock := by
  have after := placeRecord_clock (s := s) { fresh with revoked := fresh.revoked || f.revoked }
  unfold answerFetch
  dsimp only
  split <;> rename_i placed <;> rw [placed] at after <;> simp_all [foldl_clock]

@[simp] theorem loadRecord_clock (id fresh) : (loadRecord id fresh s).clock = s.clock := by
  have after := placeRecord_clock (s := s) fresh
  unfold loadRecord
  split <;> rename_i placed <;> rw [placed] at after <;> simp_all

@[simp] theorem refuseFetch_clock (n f r) : (refuseFetch n f r s).clock = s.clock := by simp [refuseFetch, foldl_clock]

@[simp] theorem cardLoad_clock (r id) : (cardLoad r id s).clock = s.clock := by
  unfold cardLoad
  split
  · simp
  dsimp only
  split <;> simp

@[simp] theorem cardUnknown_clock (card id) : (cardUnknown card id s).clock = s.clock := by
  unfold cardUnknown
  split <;> simp

@[simp] theorem fetchExpiry_clock (n) : (fetchExpiry n s).clock = s.clock := by
  unfold fetchExpiry
  split <;> simp [reachTime]

/-! ### The link, the recorder and the resets -/

@[simp] theorem startTx_clock : (startTx s).clock = s.clock := by simp [startTx, apply_ite State.clock]

@[simp] theorem powered_clock {act : State → State} (same : (act s).clock = s.clock) : (powered act s).clock = s.clock := by
  unfold powered
  split
  · exact same
  · rfl

@[simp] theorem holdLineChange_clock (high) : (holdLineChange high s).clock = s.clock := powered_clock (startTx_clock ..)

@[simp] theorem frameSent_clock : (frameSent s).clock = s.clock := by simp [frameSent, apply_ite State.clock]

@[simp] theorem abandonFrame_clock (bytes) : (abandonFrame bytes s).clock = s.clock := by
  simp [abandonFrame, apply_ite State.clock]

@[simp] theorem frameDiscarded_clock : (frameDiscarded s).clock = s.clock := by simp [frameDiscarded, apply_ite State.clock]

@[simp] theorem severitySet_clock (kind severity id) : (severitySet kind severity id s).clock = s.clock := by
  unfold severitySet
  split <;> simp

@[simp] theorem releaseAtReset_clock (slot) : (releaseAtReset s slot).clock = s.clock := by
  unfold releaseAtReset
  split <;> simp

@[simp] theorem warmReset_clock (source straps) : (warmReset source straps s).clock = s.clock := by
  unfold warmReset
  dsimp only
  split
  · rfl
  · simp [resetHolds, placeAll, dropAwaiting, strapsStand, foldl_clock]

end ClockFrame

/-! ## The voyage day (R32): the day write leaves it, and an evaluation raises it -/

section VoyageDay

variable {s : State}

@[simp] theorem queueDay_clockDay : (queueDay s).clock.day = s.clock.day := by
  unfold queueDay
  split
  · rfl
  split <;> simp

@[simp] theorem retryDay_clockDay : (retryDay s).clock.day = s.clock.day := by
  unfold retryDay
  split <;> simp [reachTime]

@[simp] theorem endDayWrite_clockDay (written ok) : (endDayWrite written ok s).clock.day = s.clock.day := by
  unfold endDayWrite
  split
  · split <;> simp
  · simp

@[simp] theorem reportEnd_clockDay (r c ok) : (reportEnd r c ok s).clock.day = s.clock.day := by
  unfold reportEnd
  split <;> simp [apply_ite State.clock]

@[simp] theorem endWrite_clockDay (r w ok) : (endWrite r w ok s).clock.day = s.clock.day := by
  simp [endWrite, apply_ite State.clock]

@[simp] theorem attemptEnd_clockDay (readBackMatches) : (attemptEnd readBackMatches s).clock.day = s.clock.day := by
  unfold attemptEnd
  split
  · split
    · simp
    split <;> simp [secondAttempt]
  · rfl

theorem rollover_clockDay : (rollover s).clock.day = computedDay s.clock := by
  unfold rollover
  simp

theorem le_evaluateDay : s.clock.day ≤ (evaluateDay s).clock.day := by
  unfold evaluateDay
  split
  · rename_i rolls
    obtain ⟨_, below⟩ := Bool.and_eq_true_iff.1 rolls
    rw [rollover_clockDay]
    exact (of_decide_eq_true below).le
  · exact le_rfl

theorem le_evaluateDay_of {t : State} (same : s.clock.day = t.clock.day) : s.clock.day ≤ (evaluateDay t).clock.day :=
  same.le.trans le_evaluateDay

@[simp] theorem takeDue_clock (d) : (takeDue d s).clock = s.clock := by cases d <;> simp [takeDue]

theorem takeOneOf_clock (n : Nat) (ds : List Due) (s : State) : (takeOneOf n ds s).clock = s.clock := by
  induction n generalizing ds s with
  | zero => rfl
  | succ n ih =>
    match ds with
    | [] => rfl
    | [d] => exact takeDue_clock d
    | a :: b :: ds =>
      unfold takeOneOf
      refine (ih _ _).trans ?_
      split
      · exact (takeDue_clock _).trans draw_clock
      · exact draw_clock

@[simp] theorem takeAll_clock (ds) : (takeAll ds s).clock = s.clock := takeOneOf_clock ..

@[simp] theorem nextSecond_clockDay : (nextSecond s).clock.day = s.clock.day := rfl

theorem le_secondCount : s.clock.day ≤ (secondCount s).clock.day := by
  unfold secondCount
  dsimp only
  split
  · rw [takeAll_clock]
    exact le_evaluateDay_of rfl
  · exact le_rfl

theorem le_timeSet (time id) : s.clock.day ≤ (timeSet time id s).clock.day := by
  unfold timeSet
  rw [takeAll_clock]
  refine le_evaluateDay_of ?_
  simp [apply_ite State.clock]

theorem le_rolloverSet (offset id) : s.clock.day ≤ (rolloverSet offset id s).clock.day := by
  unfold rolloverSet
  split
  · simp
  · rw [answer_clock]
    exact le_evaluateDay_of rfl

theorem le_accept {kind need : Nat} {h : Hdr} {always : Bool} {act : ReqId → State → State}
    (step : ∀ id u, u.clock.day ≤ (act id u).clock.day) : s.clock.day ≤ (accept kind h need always act s).clock.day := by
  unfold accept
  split
  · dsimp only
    split
    · simp
    split
    · simp
    split
    · unfold refuseBusy
      split <;> simp [pushFrame]
    split
    · simp [enlist]
    split
    · simp [enlist]
    · refine le_trans ?_ (step _ _)
      simp [enlist]
  · exact le_rfl

end VoyageDay

/-- The command is carried out and the voyage day stands or rises. -/
def KeepsDay (i : Instr) (s : State) : Prop := ∃ t, exec i s = .next t ∧ s.clock.day ≤ t.clock.day

section DayKept

variable {s : State} {i : Instr}

theorem KeepsDay.accepted {kind need : Nat} {h : Hdr} {always : Bool} {act : ReqId → State → State}
    (result : exec i s = .next (accept kind h need always act s)) (step : ∀ id u, u.clock.day ≤ (act id u).clock.day) :
    KeepsDay i s :=
  ⟨_, result, le_accept step⟩

/-- A request that leaves the clock as it stands. -/
theorem KeepsDay.request {kind need : Nat} {h : Hdr} {always : Bool} {act : ReqId → State → State}
    (result : exec i s = .next (accept kind h need always act s)) (step : ∀ id u, (act id u).clock = u.clock) : KeepsDay i s :=
  .accepted result fun id u => (congrArg Clock.day (step id u)).ge

/-- A request that is answered and does nothing else. -/
theorem KeepsDay.answered {kind need : Nat} {h : Hdr} {always : Bool} {act : ReqId → State → State}
    (result : exec i s = .next (accept kind h need always act s)) (step : ∀ id u, Says u (act id u)) : KeepsDay i s :=
  .request result fun id u => (step id u).clock

theorem KeepsDay.event {act : State → State} (result : exec i s = .next (powered act s))
    (step : s.clock.day ≤ (act s).clock.day) : KeepsDay i s := by
  refine ⟨_, result, ?_⟩
  unfold powered
  split
  · exact step
  · exact le_rfl

/-- A command that leaves the clock as it stands. -/
theorem KeepsDay.own {t : State} (result : exec i s = .next t) (same : t.clock = s.clock) : KeepsDay i s :=
  ⟨t, result, (congrArg Clock.day same).ge⟩

theorem KeepsDay.quiet {act : State → State} (result : exec i s = .next (powered act s)) (same : (act s).clock = s.clock) :
    KeepsDay i s :=
  .own result (powered_clock same)

end DayKept

/-- Each command but the cold start's, by the operation that carries it out. -/
theorem keepsDay (s : State) :
    ∀ c : Instr, (c ≠ .powerLoss ∧ (∀ check straps, c ≠ .coldReset check straps) ∧ c ≠ .storeScan) → KeepsDay c s
  | .powerLoss, ⟨no, _, _⟩ => (no rfl).elim
  | .coldReset check straps, ⟨_, no, _⟩ => (no check straps rfl).elim
  | .storeScan, ⟨_, _, no⟩ => (no rfl).elim
  | .resetAsserted, _ => .own rfl rfl
  | .warmReset .., _ => .own rfl ((powered_clock (warmReset_clock ..)).trans rfl)
  | .holdLineChange high, _ => .own rfl (holdLineChange_clock high)
  | .frameSent, _ => .quiet rfl frameSent_clock
  | .byteGapTimeout bytes, _ => .own rfl (abandonFrame_clock bytes)
  | .frameAbandoned bytes, _ => .own rfl (abandonFrame_clock bytes)
  | .frameDiscarded, _ => .own rfl frameDiscarded_clock
  | .unknownKind .., _ => .answered rfl fun id u => says_answer u id _ _
  | .ping .., _ => .answered rfl fun id u => says_answer u id _ _
  | .status .., _ => .request rfl fun _ _ => answer_clock ..
  | .restart .., _ => .request rfl fun _ _ => warmReset_clock ..
  | .linkQuery .., _ => .answered rfl fun id u => says_answer u id _ _
  | .cardLoad .., _ => .request rfl fun _ _ => cardLoad_clock ..
  | .cardUnknown .., _ => .request rfl fun _ _ => cardUnknown_clock ..
  | .cardRevoke .., _ => .request rfl fun _ _ => cardRevoke_clock ..
  | .cardResident .., _ => .request rfl fun _ _ => cardResident_clock ..
  | .cardQuery .., _ => .request rfl fun _ _ => cardQuery_clock ..
  | .flush .., _ => .request rfl fun _ _ => flush_clock ..
  | .wayDisable .., _ => .request rfl fun _ _ => wayDisable_clock ..
  | .wayRestore .., _ => .request rfl fun _ _ => wayRestore_clock ..
  | .wayQuery .., _ => .request rfl fun _ _ => wayQuery_clock ..
  | .fetchWaitSet .., _ => .request rfl fun _ _ => answer_clock ..
  | .fetchExpiry n, _ => .quiet rfl (fetchExpiry_clock n)
  | .secondCount, _ => .event rfl le_secondCount
  | .dayRollover, _ => .event rfl le_evaluateDay
  | .dayWriteRetry, _ => .event rfl retryDay_clockDay.ge
  | .timeSet _ time, _ => .accepted rfl fun id _ => le_timeSet time id
  | .rolloverSet _ offset, _ => .accepted rfl fun id _ => le_rolloverSet offset id
  | .clockQuery .., _ => .answered rfl fun id u => says_answer u id _ _
  | .present .., _ => .request rfl fun _ _ => presentAt_clock ..
  | .portalSet .., _ => .request rfl fun _ _ => portalSet_clock ..
  | .portalDisable .., _ => .request rfl fun _ _ => portalDisable_clock ..
  | .portalEnable .., _ => .request rfl fun _ _ => portalEnable_clock ..
  | .portalQuery .., _ => .answered rfl fun id u => says_answer u id _ _
  | .portalScan .., _ => .answered rfl fun id u => says_answer u id _ _
  | .contact .., _ => .request rfl fun _ _ => contact_clock ..
  | .strikeAck .., _ => .request rfl fun _ _ => strikeAck_clock ..
  | .remoteRelease .., _ => .request rfl fun _ _ => remoteRelease_clock ..
  | .timingStage .., _ => .request rfl fun _ _ => timingStage_clock ..
  | .timingQuery _ set, _ => .answered rfl (says_timingQuery set)
  | .releaseTimerExpiry portal, _ => .quiet rfl (releaseExpiry_clock portal)
  | .strikeConfirmExpiry portal, _ => .quiet rfl (strikeExpiry_clock portal)
  | .heldOpenExpiry portal, _ => .quiet rfl (heldOpenExpiry_clock portal)
  | .capacitySet .., _ => .request rfl fun _ _ => capacitySet_clock ..
  | .guardSet .., _ => .request rfl fun _ _ => answer_clock ..
  | .capacityAck .., _ => .request rfl fun _ _ => answer_clock ..
  | .deadlineSet .., _ => .request rfl fun _ _ => deadlineSet_clock ..
  | .deadlineEvent, _ => .quiet rfl takeDeadline_clock
  | .enrol .., _ => .request rfl fun _ _ => enrol_clock ..
  | .discharge .., _ => .request rfl fun _ _ => discharge_clock ..
  | .presenceSet .., _ => .request rfl fun _ _ => presenceSet_clock ..
  | .presenceCounts .., _ => .answered rfl fun id u => says_answer u id _ _
  | .personQuery _ person, _ => .answered rfl (says_personQuery person)
  | .rollRead _ start state kind, _ => .answered rfl (says_rollRead start state kind)
  | .alarmLineChange line high, _ => .own rfl (alarmLineChange_clock line high)
  | .debounceExpiry line, _ => .quiet rfl (debounceExpiry_clock line)
  | .alarmSet .., _ => .request rfl fun _ _ => alarmSet_clock ..
  | .emergencyDeclare .., _ => .request rfl fun _ _ => emergencyDeclare_clock ..
  | .emergencyClear .., _ => .request rfl fun _ _ => emergencyClear_clock ..
  | .resume .., _ => .request rfl fun _ _ => resume_clock ..
  | .musterStart .., _ => .request rfl fun _ _ => musterStart_clock ..
  | .musterEnd .., _ => .request rfl fun _ _ => musterEnd_clock ..
  | .musterWriteRetry, _ => .quiet rfl retryRecord_clock
  | .musterQuery .., _ => .answered rfl fun id u => says_answer u id _ _
  | .musterRead _ start, _ => .answered rfl (says_musterRead start)
  | .emergencyQuery .., _ => .answered rfl fun id u => says_answer u id _ _
  | .authorize .., _ => .request rfl fun _ _ => authorize_clock ..
  | .commit .., _ => .request rfl fun _ _ => commit_clock ..
  | .voidHold .., _ => .request rfl fun _ _ => voidHold_clock ..
  | .holdExpiry slot, _ => .quiet rfl (expireIfDue_clock slot)
  | .holdTimeSet .., _ => .request rfl fun _ _ => answer_clock ..
  | .holdQuery _ slot, _ => .answered rfl (says_holdQuery slot)
  | .holdScan .., _ => .answered rfl fun id u => says_answer u id _ _
  | .folioLoad .., _ => .request rfl fun _ _ => folioLoad_clock ..
  | .folioPost .., _ => .request rfl fun _ _ => folioPost_clock ..
  | .folioFreeze .., _ => .request rfl fun _ _ => moveFolio_clock ..
  | .folioOpen .., _ => .request rfl fun _ _ => moveFolio_clock ..
  | .folioClose .., _ => .request rfl fun _ _ => folioClose_clock ..
  | .folioQuery _ n, _ => .answered rfl (says_folioQuery n)
  | .tariffStage .., _ => .request rfl fun _ _ => tariffStage_clock ..
  | .tariffDiscard .., _ => .request rfl fun _ _ => answer_clock ..
  | .tariffQuery _ which, _ => .answered rfl (says_tariffQuery which)
  | .journalRead _ start count, _ => .answered rfl (says_journalRead start count)
  | .settle .., _ => .request rfl fun _ _ => settle_clock ..
  | .storeQuery .., _ => .answered rfl fun id u => says_answer u id _ _
  | .storeWriteBegin, _ => .quiet rfl beginWrite_clock
  | .storeAttemptEnd .., _ => .event rfl (attemptEnd_clockDay _).ge
  | .severitySet .., _ => .request rfl fun _ _ => severitySet_clock ..
  | .faultRead .., _ => .answered rfl fun id u => says_answer u id _ _
  | .faultClear .., _ => .request rfl fun _ _ => answer_clock ..

/-- Settles O15: only an evaluation of the day changes it, and that raises it (`le_evaluateDay`); every other operation leaves
it as it stands. -/
theorem dayNeverFalls : Obligations.DayNeverFalls := by
  intro c s t others result
  obtain ⟨u, carried, keeps⟩ := keepsDay s c others
  cases carried.symm.trans result
  exact keeps

end Sys2Proof.Machine

namespace Sys2Proof.Machine

open Sys2Proof

/-! ## What a queued write and a marker leave alone (R179, R180) -/

/-- The marker, the free choices and the recorder may differ, and the link by its notices; nothing else does. -/
def Marks (s t : State) : Prop := ∃ m l r cs d, Notified s.link l ∧
  t = { s with image := { s.image with marker := m }, link := l, frc := r, choices := cs, drawn := d }

/-- The store's queue and its write may differ too, with what a requester does as its write begins; nothing else does. -/
def Stores (s t : State) : Prop := ∃ next waiters st m l r cs d, Notified s.link l ∧
  t = { s with
    journal := { s.journal with next := next }, emu := { s.emu with waiters := waiters }, store := st,
    image := { s.image with marker := m }, link := l, frc := r, choices := cs, drawn := d }

section StoreFrame

variable {s t u : State}

theorem Marks.refl (s : State) : Marks s s := ⟨_, _, _, _, _, .refl _, rfl⟩

theorem Marks.trans (x : Marks s t) (y : Marks t u) : Marks s u := by
  obtain ⟨_, _, _, _, _, first, rfl⟩ := x
  obtain ⟨m, l, r, cs, d, second, rfl⟩ := y
  exact ⟨m, l, r, cs, d, first.trans second, rfl⟩

theorem Notes.marks (x : Notes s t) : Marks s t := by
  obtain ⟨⟨⟨l, r, rfl⟩, _, _⟩, notified⟩ := x
  exact ⟨_, l, r, _, _, notified, rfl⟩

theorem marks_draw (s : State) : Marks s (draw s).2 := by
  unfold draw
  split
  · exact ⟨_, _, _, _, _, .refl _, rfl⟩
  · exact ⟨_, _, _, _, _, .refl _, rfl⟩

theorem Marks.withMarker (x : Marks s t) (m : Option Marker) : Marks s (t.withImage { t.image with marker := m }) := by
  obtain ⟨_, l, r, cs, d, notified, rfl⟩ := x
  exact ⟨m, l, r, cs, d, notified, rfl⟩

theorem marks_writeMarker (m : Option Marker) (s : State) : Marks s (writeMarker m s) := by
  have first := marks_draw s
  have second := first.trans (marks_draw (draw s).2)
  unfold writeMarker markerTry
  dsimp only
  split
  · exact first.withMarker m
  split
  · exact second.withMarker m
  · exact second.trans (notes_report ..).marks

theorem Stores.refl (s : State) : Stores s s := ⟨_, _, _, _, _, _, _, _, .refl _, rfl⟩

theorem Stores.trans (x : Stores s t) (y : Stores t u) : Stores s u := by
  obtain ⟨_, _, _, _, _, _, _, _, first, rfl⟩ := x
  obtain ⟨next, waiters, st, m, l, r, cs, d, second, rfl⟩ := y
  exact ⟨next, waiters, st, m, l, r, cs, d, first.trans second, rfl⟩

theorem Marks.stores (x : Marks s t) : Stores s t := by
  obtain ⟨m, l, r, cs, d, notified, rfl⟩ := x
  exact ⟨_, _, _, m, l, r, cs, d, notified, rfl⟩

theorem stores_withStore (s : State) (st : Store) : Stores s (s.withStore st) := ⟨_, _, st, _, _, _, _, _, .refl _, rfl⟩

theorem stores_requesterBegins (r : StoreReq) (s : State) : Stores s (requesterBegins r s) := by
  cases r
  case entry => exact ⟨_, _, _, _, _, _, _, _, .refl _, rfl⟩
  case muster => exact ⟨_, _, _, _, _, _, _, _, .refl _, rfl⟩
  all_goals exact .refl _

theorem stores_beginWrite (s : State) : Stores s (beginWrite s) := by
  unfold beginWrite
  split
  · exact ((stores_requesterBegins ..).trans (stores_withStore ..)).trans (marks_writeMarker ..).stores
  · exact .refl _

theorem stores_enqueue (r : StoreReq) (s : State) : Stores s (enqueue r s) := by
  have joined := stores_withStore s { s.store with queue := s.store.queue ++ [r] }
  unfold enqueue
  dsimp only
  split
  · exact joined.trans (stores_beginWrite _)
  · exact joined

/-- A request joins the queue, and its write may begin, with what its requester does then (R178 to R180). -/
theorem enqueue_begins (r : StoreReq) (s : State) : ∃ w u, (u = s ∨ u = requesterBegins r s) ∧
    Marks (u.withStore { s.store with queue := s.store.queue ++ [r], write := w }) (enqueue r s) := by
  cases queue : s.store.queue with
  | cons q qs => exact ⟨s.store.write, s, .inl rfl, by rw [enqueue_waits r (by simp [queue]), queue]; exact .refl _⟩
  | nil =>
    have joined : enqueue r s = beginWrite (s.withStore { s.store with queue := [r] }) := by simp [enqueue, queue]
    cases write : s.store.write with
    | some w => exact ⟨some w, s, .inl rfl, by rw [joined, ← write]; simp [beginWrite, write, Marks.refl]⟩
    | none =>
      have begun : beginWrite (s.withStore { s.store with queue := [r] }) =
          writeMarker (some (fixedContent r (s.withStore { s.store with queue := [r] })).marker) ((requesterBegins r s).withStore
            { s.store with
              queue := [r], write := some ⟨fixedContent r (s.withStore { s.store with queue := [r] }), false⟩ }) := by
        unfold beginWrite
        simp only [State.withStore_store, write]
        cases r <;> rfl
      rw [joined, begun]
      exact ⟨_, _, .inr rfl, marks_writeMarker _ _⟩

/-- A request of which nothing else becomes as its write begins. -/
theorem enqueue_marks {r : StoreReq} (own : ∀ u, requesterBegins r u = u) (s : State) : ∃ w,
    Marks (s.withStore { s.store with queue := s.store.queue ++ [r], write := w }) (enqueue r s) := by
  obtain ⟨w, u, same, marks⟩ := enqueue_begins r s
  obtain rfl : u = s := same.elim id fun began => began.trans (own s)
  exact ⟨w, marks⟩

end StoreFrame

/-! ## The events of ship time (R31, R87, R150, R158) -/

/-- A hold slot once a ship time has come: a hold due then is EXPIRED (R150, R158). -/
def HoldSlot.at (time : Nat) (v : HoldSlot) : HoldSlot :=
  match v.body with
  | .held _ expiry => if expiry ≤ time then { v with body := .free, lastEnd := .expired } else v
  | .free | .committing _ _ => v

/-- The roll once a ship time has come: a deadline due then has passed (R87). -/
def Roll.at (time : Nat) (r : Roll) : Roll := if r.deadline.any (· ≤ time) then { r with passed := true } else r

/-- From a SET clock, these events have been taken: each hold slot and the deadline named among them are as their time has made
them, the others stand. -/
structure Takes (ds : List Due) (s t : State) : Prop where
  clock : t.clock = s.clock
  slots : ∀ n, t.holdSlot n = if .hold n ∈ ds then (s.holdSlot n).at s.clock.shipTime else s.holdSlot n
  roll : t.roll = if .deadline ∈ ds then s.roll.at s.clock.shipTime else s.roll

section Events

variable {s t u : State} {n : Nat} {d : Due} {ds es : List Due} {time : Nat}

theorem HoldSlot.at_held {v : HoldSlot} {x : Hold} {expiry : Nat} (held : v.body = .held x expiry) (due : expiry ≤ time) :
    v.at time = { v with body := .free, lastEnd := .expired } := by simp [HoldSlot.at, held, due]

theorem HoldSlot.at_later {v : HoldSlot} (later : ∀ x expiry, v.body = .held x expiry → time < expiry) : v.at time = v := by
  unfold HoldSlot.at
  split
  · rename_i held
    exact if_neg (Nat.not_le.2 (later _ _ held))
  · rfl
  · rfl

theorem Roll.at_due {r : Roll} (due : ∃ d, r.deadline = some d ∧ d ≤ time) : r.at time = { r with passed := true } := by
  obtain ⟨d, deadline, le⟩ := due
  simp [Roll.at, deadline, le]

theorem Roll.at_later {r : Roll} (later : ∀ d, r.deadline = some d → time < d) : r.at time = r := by
  unfold Roll.at
  cases deadline : r.deadline with
  | none => rfl
  | some d => simp [later d deadline]

/-- What a hold slot is once its time has come is due no more. -/
theorem holdDue_at (x : t.holdSlot n = (s.holdSlot n).at time) (now : t.clock.shipTime = time) : holdDue t n = false := by
  unfold holdDue
  rw [x, now]
  unfold HoldSlot.at
  cases body : (s.holdSlot n).body with
  | free => simp [body]
  | committing => simp [body]
  | held h expiry =>
    dsimp only
    by_cases due : expiry ≤ time
    · simp [due]
    · simp [due, body]

theorem deadlineDue_at (x : t.roll = s.roll.at time) (now : t.clock.shipTime = time) : deadlineDue t = false := by
  unfold deadlineDue
  rw [x, now]
  unfold Roll.at
  split
  · simp
  · simp_all

/-- A slot whose hold is not due is as its time makes it. -/
theorem HoldSlot.at_notDue (set : s.clock.isSet = true) (x : holdDue s n = false) :
    (s.holdSlot n).at s.clock.shipTime = s.holdSlot n := by
  refine HoldSlot.at_later fun h expiry held => ?_
  simp only [holdDue, held, set, Bool.true_and, decide_eq_false_iff_not] at x
  exact Nat.not_le.1 x

theorem Roll.at_notDue (set : s.clock.isSet = true) (x : deadlineDue s = false) : s.roll.at s.clock.shipTime = s.roll := by
  unfold Roll.at
  split
  · rename_i due
    have passed : s.roll.passed = true := by simpa [deadlineDue, set, due] using x
    rw [← passed]
  · rfl

theorem Marks.takes (x : Marks s t) : Takes [] s t := by
  obtain ⟨_, _, _, _, _, _, rfl⟩ := x
  exact ⟨rfl, fun _ => rfl, rfl⟩

theorem HoldSlot.at_at (v : HoldSlot) : (v.at time).at time = v.at time := by
  refine HoldSlot.at_later fun x expiry held => ?_
  unfold HoldSlot.at at held
  split at held
  · split at held
    · cases held
    · simp_all
  · simp_all
  · simp_all

theorem Roll.at_at (r : Roll) : (r.at time).at time = r.at time := by
  by_cases due : r.deadline.any (· ≤ time) <;> simp [Roll.at, due]

theorem Takes.trans (x : Takes ds s t) (y : Takes es t u) : Takes (ds ++ es) s u := by
  refine ⟨y.clock.trans x.clock, fun n => ?_, ?_⟩
  · rw [y.slots, x.slots, x.clock]
    by_cases first : .hold n ∈ ds <;> by_cases second : .hold n ∈ es <;> simp [first, second, HoldSlot.at_at]
  · rw [y.roll, x.roll, x.clock]
    by_cases first : .deadline ∈ ds <;> by_cases second : .deadline ∈ es <;> simp [first, second, Roll.at_at]

theorem Takes.congr (x : Takes ds s t) (same : ∀ d, d ∈ ds ↔ d ∈ es) : Takes es s t := by
  refine ⟨x.clock, fun n => ?_, ?_⟩
  · rw [x.slots]
    exact if_congr (same _) rfl rfl
  · rw [x.roll]
    exact if_congr (same _) rfl rfl

theorem expireIfDue_notDue (notDue : ¬ holdDue s n = true) : expireIfDue n s = s := by
  unfold expireIfDue
  split
  · exact if_neg notDue
  · rfl
  · rfl

theorem takes_hold (set : s.clock.isSet = true) (n : Nat) : Takes [.hold n] s (expireIfDue n s) := by
  by_cases due : holdDue s n = true
  · obtain ⟨x, expiry, body, le⟩ : ∃ x expiry, (s.holdSlot n).body = .held x expiry ∧ expiry ≤ s.clock.shipTime := by
      unfold holdDue at due
      split at due
      · rename_i body
        exact ⟨_, _, body, by simpa [set] using due⟩
      · cases due
    obtain ⟨l, r, told⟩ : Tells s (tellExpired n x .timeout s) := tells_notify s _
    obtain ⟨c, l', r', ended⟩ := endHold_shape (slot := n) (h := x) (last := .expired) (given := (· - x.total))
      (spend := -(x.total : Int)) (alcohol := -(x.alcohol : Int)) (s := tellExpired n x .timeout s)
    have released : expireIfDue n s = releaseHold n x .expired (tellExpired n x .timeout s) := by
      simp [expireIfDue, body, due]
    have holds : (expireIfDue n s).purse.holds =
        Table.write defaultHoldSlot n { s.holdSlot n with body := .free, lastEnd := .expired } s.purse.holds := by
      rw [released, releaseHold_eq, ended, told]
      rfl
    refine ⟨by rw [released, releaseHold_eq, ended, told]; rfl, fun k => ?_, by rw [released, releaseHold_eq, ended, told]; rfl⟩
    by_cases here : k = n
    · subst here
      rw [if_pos (List.mem_singleton_self _), HoldSlot.at_held body le]
      unfold State.holdSlot
      rw [holds, Table.read_write_same]
      rfl
    · rw [if_neg (by simpa using here)]
      unfold State.holdSlot
      rw [holds, Table.read_write_other _ _ _ here]
  · rw [expireIfDue_notDue due]
    refine ⟨rfl, fun k => ?_, rfl⟩
    by_cases here : k = n
    · subst here
      rw [HoldSlot.at_notDue set (Bool.eq_false_iff.2 due), ite_self]
    · rw [if_neg (by simpa using here)]

theorem takes_deadline (set : s.clock.isSet = true) : Takes [.deadline] s (takeDeadline s) := by
  unfold takeDeadline
  split
  · rename_i due
    obtain ⟨⟨_, _⟩, reached⟩ : (s.clock.isSet = true ∧ s.roll.passed = false) ∧ s.roll.deadline.any (· ≤ s.clock.shipTime) = true := by
      simpa [deadlineDue] using due
    obtain ⟨l, r, told⟩ : Tells (s.withRoll { s.roll with passed := true }) (notify (.allAboardMissing (s.roll.deadline.getD 0)
      s.clock.shipTime s.roll.ashoreGuests s.roll.ashoreCrew (aboardTotal s.roll)) (s.withRoll { s.roll with passed := true })) :=
      tells_notify _ _
    dsimp only
    rw [told]
    exact ⟨rfl, fun _ => rfl, (if_pos reached).symm⟩
  · rename_i not
    exact ⟨rfl, fun _ => rfl, by rw [Roll.at_notDue set (Bool.eq_false_iff.2 not), ite_self]⟩

theorem takes_due (set : s.clock.isSet = true) (d : Due) : Takes [d] s (takeDue d s) := by
  cases d with
  | deadline => exact takes_deadline set
  | hold n => exact takes_hold set n
  | reply id b =>
    obtain ⟨l, r, told⟩ := (says_reply s id b).shape
    rw [takeDue, told]
    exact ⟨rfl, fun _ => (if_neg (by simp)).symm, (if_neg (by simp)).symm⟩

/-- Of several, one is taken, and the others after it. -/
theorem takeOneOf_several (n : Nat) (several : 1 < ds.length) : ∃ i, ∃ below : i < ds.length,
    takeOneOf (n + 1) ds s = takeOneOf n (ds.eraseIdx i) (takeDue ds[i] (draw s).2) := by
  have below := Nat.mod_lt (draw s).1 (Nat.zero_lt_of_lt several)
  refine ⟨_, below, ?_⟩
  rw [takeOneOf]
  · simp only [List.getElem?_eq_getElem below]
  · rintro rfl
    exact absurd several (by simp)
  · rintro d rfl
    exact absurd several (by simp)

/-- Whatever the order in which they are taken, each is taken. -/
theorem takes_oneOf (set : s.clock.isSet = true) (n : Nat) (ds : List Due) (enough : ds.length ≤ n) :
    Takes ds s (takeOneOf n ds s) := by
  induction n generalizing s ds with
  | zero =>
    rw [List.length_eq_zero_iff.1 (Nat.le_zero.1 enough)]
    exact (Marks.refl s).takes
  | succ n ih =>
    match ds with
    | [] => exact (Marks.refl s).takes
    | [d] => exact takes_due set d
    | a :: b :: rest =>
      obtain ⟨i, below, next⟩ := takeOneOf_several n (ds := a :: b :: rest) (s := s) (by simp)
      rw [next]
      have drawn := (marks_draw s).takes
      have one := takes_due (drawn.clock ▸ set) (a :: b :: rest)[i]
      have others := ih (one.clock ▸ drawn.clock ▸ set) ((a :: b :: rest).eraseIdx i)
        (by rw [List.length_eraseIdx_of_lt below]; exact Nat.sub_le_of_le_add enough)
      refine ((drawn.trans one).trans others).congr fun d => ?_
      rw [List.nil_append, List.singleton_append, (List.getElem_cons_eraseIdx_perm below).mem_iff]

theorem takes_all (set : s.clock.isSet = true) (ds : List Due) : Takes ds s (takeAll ds s) := takes_oneOf set _ _ le_rfl

theorem mem_dueNow_hold : .hold n ∈ dueNow s ↔ n < 32 ∧ holdDue s n = true := by
  unfold dueNow
  split <;> simp

theorem mem_dueNow_deadline : .deadline ∈ dueNow s ↔ deadlineDue s = true := by
  unfold dueNow
  split <;> simp_all

/-- All that is due is taken: the slots and the deadline are as the time makes them (R31). -/
theorem takeAll_dueNow (set : s.clock.isSet = true) : let t := takeAll (dueNow s) s
    t.clock = s.clock ∧ (∀ n < 32, t.holdSlot n = (s.holdSlot n).at s.clock.shipTime) ∧ t.roll = s.roll.at s.clock.shipTime := by
  have taken := takes_all set (dueNow s)
  refine ⟨taken.clock, fun n small => ?_, ?_⟩
  · rw [taken.slots]
    split
    · rfl
    · rename_i off
      rw [mem_dueNow_hold] at off
      exact (HoldSlot.at_notDue set (Bool.eq_false_iff.2 fun due => off ⟨small, due⟩)).symm
  · rw [taken.roll]
    split
    · rfl
    · rename_i off
      rw [mem_dueNow_deadline] at off
      exact (Roll.at_notDue set (Bool.eq_false_iff.2 off)).symm

/-- The evaluation of the day leaves ship time, the hold slots and the roll. -/
theorem evaluateDay_leaves : (evaluateDay s).clock.shipTime = s.clock.shipTime ∧ (evaluateDay s).clock.isSet = s.clock.isSet ∧
    (evaluateDay s).roll = s.roll ∧ (evaluateDay s).purse.holds = s.purse.holds := by
  unfold evaluateDay
  split
  · rw [rollover_eq]
    obtain ⟨l, r, told⟩ : Tells (dayMoved s.clock.dayRetry s) (rolledOver s.clock.dayRetry s) := tells_notify _ _
    rw [told]
    generalize hu : (dayMoved s.clock.dayRetry s |>.withLink l).withFrc r = u
    unfold queueDay
    split
    · subst hu
      exact ⟨rfl, rfl, rfl, rfl⟩
    split
    · subst hu
      exact ⟨rfl, rfl, rfl, rfl⟩
    · obtain ⟨_, _, _, _, _, _, _, _, _, queues⟩ := stores_enqueue .day (u.withClock { u.clock with dayRetry := none })
      rw [queues]
      subst hu
      exact ⟨rfl, rfl, rfl, rfl⟩
  · exact ⟨rfl, rfl, rfl, rfl⟩

end Events

/-- Settles O11: whatever the order of the choices, each event that is due is taken (`takes_oneOf`). -/
theorem dueEventsTaken : Obligations.DueEventsTaken := by
  intro s supply set time
  obtain ⟨shipTime, isSet, roll, holds⟩ := evaluateDay_leaves (s := (nextSecond s).withClock
    { (nextSecond s).clock with shipTime := time })
  generalize hu : evaluateDay ((nextSecond s).withClock { (nextSecond s).clock with shipTime := time }) = u at *
  obtain ⟨clock, slots, rolls⟩ := takeAll_dueNow (isSet.trans set)
  have slot (n : Nat) : u.holdSlot n = s.holdSlot n := congrArg (fun t => Table.read defaultHoldSlot t n) holds
  refine ⟨takeAll (dueNow u) u, ?_, ?_⟩
  · rw [exec_powered rfl supply, secondCount_set set, ← hu]
  generalize takeAll (dueNow u) u = t at *
  have timed : t.clock.shipTime = time := (congrArg _ clock).trans shipTime
  rw [shipTime] at slots rolls
  refine ⟨fun n small => holdDue_at (slots n small) timed, deadlineDue_at rolls timed, timed, ?_, fun n small => ⟨?_, ?_⟩, ?_, ?_⟩
  · rw [clock]
    exact isSet.trans set
  · intro x expiry held due
    rw [slots n small, slot]
    exact HoldSlot.at_held held due
  · intro later
    rw [slots n small, slot]
    exact HoldSlot.at_later later
  · intro d deadline due
    rw [rolls, roll]
    exact Roll.at_due ⟨d, deadline, due⟩
  · intro later
    rw [rolls, roll]
    exact Roll.at_later later

end Sys2Proof.Machine

namespace Sys2Proof.Machine

open Sys2Proof

/-! ## A slot's change (R71, R72, R79, R84, R107) -/

section SlotChange

variable {s t : State} {n : Nat} {new : PersonSlot}

theorem recount_shape (r : Roll) (old new : PersonSlot) : ∃ a b c d, r.recount old new =
    { r with aboardGuests := a, aboardCrew := b, ashoreGuests := c, ashoreCrew := d } := by
  have count (r : Roll) (st : PersonState) (k : PersonKind) (f : Nat → Nat) : ∃ a b c d, r.count st k f =
      { r with aboardGuests := a, aboardCrew := b, ashoreGuests := c, ashoreCrew := d } := by
    cases st <;> cases k <;> exact ⟨_, _, _, _, rfl⟩
  unfold Roll.recount
  split
  · exact ⟨_, _, _, _, rfl⟩
  · obtain ⟨a, b, c, d, first⟩ := count r old.state old.kind (· - 1)
    obtain ⟨a', b', c', d', second⟩ := count (r.count old.state old.kind (· - 1)) new.state new.kind (· + 1)
    rw [second, first]
    exact ⟨a', b', c', d', rfl⟩

theorem remark_shape (e : Emergency) (old new : PersonSlot) :
    ∃ stations mustered, e.remark old new = { e with stations := stations, mustered := mustered } := by
  unfold Emergency.remark Emergency.unmark Emergency.mark
  split
  · exact ⟨_, _, rfl⟩
  · cases old.mark <;> cases new.mark <;> exact ⟨_, _, rfl⟩

/-- The capacity warning after the aboard total has come to stand, from the total and the warning before (R84). -/
def Roll.warned (r : Roll) (before : Nat) : Bool :=
  if aboardTotal r = before then r.standing
  else if r.standing then !(aboardTotal r < r.level && aboardTotal r ≤ r.level - r.hysteresis)
  else r.level ≤ aboardTotal r

/-- The evaluation of the warning leaves all but it, the armed mark and CAPACITY-WARNING. -/
theorem evalIfMoved_shape (before : Nat) (s : State) : ∃ armed l r, Notified s.link l ∧ evalIfMoved before s =
    ((s.withRoll { s.roll with standing := s.roll.warned before, armed := armed }).withLink l).withFrc r := by
  have stays (same : s.roll.warned before = s.roll.standing) : ∃ armed l r, Notified s.link l ∧ s =
      ((s.withRoll { s.roll with standing := s.roll.warned before, armed := armed }).withLink l).withFrc r :=
    ⟨s.roll.armed, s.link, s.frc, .refl _, by rw [same]; rfl⟩
  by_cases still : aboardTotal s.roll = before
  · rw [show evalIfMoved before s = s from if_pos still]
    exact stays (if_pos still)
  rw [show evalIfMoved before s = evalWarning s from if_neg still]
  cases standing : s.roll.standing with
  | true =>
    by_cases low : (aboardTotal s.roll < s.roll.level && aboardTotal s.roll ≤ clearLevel s.roll) = true
    · have cleared : s.roll.warned before = false := by
        simp [Roll.warned, still, standing] at low ⊢
        exact low
      refine ⟨s.roll.armed, s.link, s.frc, .refl _, ?_⟩
      rw [cleared]
      simp [evalWarning, standing, low]
      rfl
    · have kept : s.roll.warned before = true := by
        rw [Roll.warned, if_neg still, if_pos standing]
        exact congrArg Bool.not (Bool.eq_false_iff.2 low)
      have same : evalWarning s = s := by simp [evalWarning, standing, low]
      rw [same]
      exact stays (kept.trans standing.symm)
  | false =>
    by_cases high : s.roll.level ≤ aboardTotal s.roll
    · have risen : s.roll.warned before = true := by simp [Roll.warned, still, standing, high]
      have asserts : evalWarning s = assertWarning s := by simp [evalWarning, standing, high]
      rw [asserts, risen]
      unfold assertWarning
      dsimp only
      split
      · obtain ⟨⟨⟨l, r, told⟩, _, _⟩, notified⟩ := notes_notify (s.withRoll { s.roll with standing := true, armed := false })
          (.capacityWarning (aboardTotal s.roll) s.roll.aboardGuests s.roll.aboardCrew s.roll.level s.roll.limit s.clock.shipTime)
        rw [told] at notified ⊢
        exact ⟨false, l, r, notified, rfl⟩
      · exact ⟨false, s.link, s.frc, .refl _, rfl⟩
    · have kept : s.roll.warned before = false := by simp [Roll.warned, still, standing, high]
      have same : evalWarning s = s := by simp [evalWarning, standing, high]
      rw [same]
      exact stays (kept.trans standing.symm)

/-- The roll after a slot has changed: its counts and the departures too, the warning not yet evaluated (R71, R72). -/
def Roll.moved (r : Roll) (n : Nat) (old new : PersonSlot) : Roll :=
  { r.recount old new with
    slots := Table.write defaultSlot n new r.slots
    departures := r.departures + if old.state = .aboard ∧ new.state ≠ .aboard then 1 else 0 }

theorem moveSlot_shape (n : Nat) (new : PersonSlot) (s : State) : moveSlot n new s =
    (s.withEmu (s.emu.remark (s.person n) new)).withRoll (s.roll.moved n (s.person n) new) := by
  obtain ⟨a, b, c, d, counts⟩ := recount_shape s.roll (s.person n) new
  by_cases leaves : (s.person n).state = .aboard ∧ new.state ≠ .aboard
  · unfold moveSlot setPerson Roll.moved
    rw [if_pos (by simpa [isDeparture] using leaves), if_pos leaves]
    simp only [State.withEmu_roll, State.withRoll_roll, counts]
    rfl
  · unfold moveSlot setPerson Roll.moved
    rw [if_neg (by simpa [isDeparture] using leaves), if_neg leaves]
    simp only [State.withEmu_roll, counts]
    rfl

/-- The roll after the change of a slot, the warning evaluated and the before image kept, but for the armed mark (R72, R84). -/
def Roll.changed (r : Roll) (n : Nat) (old new : PersonSlot) (armed : Bool) : Roll :=
  { r.moved n old new with
    before := Table.write none n (some old) r.before, standing := (r.moved n old new).warned (aboardTotal r), armed := armed }

theorem changed_before (r : Roll) (n : Nat) (old new : PersonSlot) (armed : Bool) :
    (r.changed n old new armed).before = Table.write none n (some old) r.before := rfl

/-- What a slot's change leaves, but for the marker and the choices of a write that begins (R72, R79). -/
theorem changeSlot_shape (n : Nat) (new : PersonSlot) (cause : SlotCause) (awaits : Option ReqId) (s : State) :
    ∃ armed l r w, Notified s.link l ∧ Marks
      (((((s.withEmu (s.emu.remark (s.person n) new)).withRoll (s.roll.changed n (s.person n) new armed)).withLink l).withFrc
        r).withStore
          { s.store with queue := s.store.queue ++ [.slot n ⟨new, s.emu.record.number⟩ cause awaits], write := w })
      (changeSlot n new cause awaits s) := by
  obtain ⟨armed, l, r, notified, evaluated⟩ := evalIfMoved_shape (aboardTotal s.roll) (moveSlot n new s)
  obtain ⟨stations, mustered, marks⟩ := remark_shape s.emu (s.person n) new
  have number : (s.emu.remark (s.person n) new).record.number = s.emu.record.number := by rw [marks]
  have pending : (s.roll.moved n (s.person n) new).before = s.roll.before := recount_before s.roll (s.person n) new
  rw [changeSlot_eq, evaluated, moveSlot_shape] at *
  simp only [State.withFrc_emu, State.withLink_emu, State.withRoll_emu, State.withEmu_emu, State.withFrc_roll,
    State.withLink_roll, State.withRoll_roll, number, pending]
  obtain ⟨w, marks⟩ := enqueue_marks (r := .slot n ⟨new, s.emu.record.number⟩ cause awaits) (fun _ => rfl)
    ((((s.withEmu (s.emu.remark (s.person n) new)).withRoll (s.roll.changed n (s.person n) new armed)).withLink l).withFrc r)
  exact ⟨armed, l, r, w, notified, marks⟩

theorem slotChanged_of {armed : Bool} {cause : SlotCause} {id : ReqId} (roll : t.roll = s.roll.changed n (s.person n) new armed)
    (emu : t.emu = s.emu.remark (s.person n) new)
    (queue : t.store.queue = s.store.queue ++ [.slot n ⟨new, s.emu.record.number⟩ cause (some id)])
    (waits : t.link.outstanding = s.link.outstanding ++ [id]) (silent : ∃ ns : List Notice, t.link.tx = s.link.tx ++ ns.map Frame.notice)
    (image : { t.image with marker := none } = { s.image with marker := none })
    (rest : (t.now, t.pins, t.clock, t.ptu, t.purse, t.journal) = (s.now, s.pins, s.clock, s.ptu, s.purse, s.journal)) :
    SlotChanged s t n new cause id := by
  obtain ⟨a, b, c, e, counts⟩ := recount_shape s.roll (s.person n) new
  obtain ⟨stations, mustered, marks⟩ := remark_shape s.emu (s.person n) new
  refine ⟨?slot, fun k other => ?others, ?before, fun k other => ?othersBefore, ?departures, ?standing, ?settings, queue, waits, silent,
    ?emergency, image, rest⟩
  case slot => rw [State.person, roll]; exact Table.read_write_same ..
  case others => rw [State.person, roll]; exact Table.read_write_other _ _ _ other
  case before => unfold State.beforeImage; rw [roll, changed_before, Table.read_write_same]
  case othersBefore => unfold State.beforeImage; rw [roll, changed_before, Table.read_write_other _ _ _ other]
  case departures => rw [roll]; rfl
  case standing =>
    rw [roll]
    unfold Roll.changed Roll.moved Roll.warned
    rw [counts]
    rfl
  case settings =>
    rw [roll]
    unfold Roll.changed Roll.moved
    rw [counts]
  case emergency => rw [emu, marks]

/-- A request taken, with a pointer moved perhaps, and the slot's change that it awaits. -/
theorem changeSlot_changed (x : Cards) (kind : Nat) (h : Hdr) (n : Nat) (new : PersonSlot) (cause : SlotCause) :
    let t := changeSlot n new cause (some ⟨kind, h.tag⟩) ((s.withCards x).taken kind h)
    SlotChanged s t n new cause ⟨kind, h.tag⟩ ∧ t.cards = x ∧ t.emu = s.emu.remark (s.person n) new := by
  obtain ⟨armed, l, r, w, told, m, l', r', cs, d, marked, shape⟩ := changeSlot_shape n new cause (some ⟨kind, h.tag⟩)
    ((s.withCards x).taken kind h)
  obtain ⟨⟨ns, tx⟩, rest⟩ := told.trans marked
  generalize changeSlot n new cause (some ⟨kind, h.tag⟩) ((s.withCards x).taken kind h) = t at shape
  have roll : t.roll = s.roll.changed n (s.person n) new armed := by rw [shape]; simp
  have emu : t.emu = s.emu.remark (s.person n) new := by rw [shape]; simp
  have link : t.link = l' := by rw [shape]
  refine ⟨slotChanged_of roll emu ?queue ?waits ⟨ns, ?silent⟩ ?image ?rest, ?cards, emu⟩
  case queue => simp [shape]
  case waits => rw [link]; exact congrArg (fun p => p.2.1) rest
  case silent => rw [link]; exact tx
  case image => simp [shape]
  case rest => simp [shape]
  case cards => simp [shape]

end SlotChange

end Sys2Proof.Machine

namespace Sys2Proof.Machine

open Sys2Proof

/-! ## Checks made in order -/

open Classical in
/-- What becomes of a request by checks made in order: the first that fails refuses it, and where none does it is accepted. -/
noncomputable def judged {α : Type} (refuses : α → State) (accepted : State) : List (Prop × α) → State
  | [] => accepted
  | (fails, x) :: rest => if fails then refuses x else judged refuses accepted rest

section Judged

variable {α : Type} {refuses : α → State} {accepted : State} {checks : List (Prop × α)} {x : α}

theorem judged_first (first : FirstOf checks x) : judged refuses accepted checks = refuses x := by
  induction checks with
  | nil => exact first.elim
  | cons c rest ih =>
    rcases first with ⟨fails, rfl⟩ | ⟨passes, first⟩
    · exact if_pos fails
    · exact (if_neg passes).trans (ih first)

theorem judged_none (none : NoneOf checks) : judged refuses accepted checks = accepted := by
  induction checks with
  | nil => rfl
  | cons c rest ih =>
    obtain ⟨passes, none⟩ := List.forall_mem_cons.1 none
    exact (if_neg passes).trans (ih none)

/-- Checks that pass are left behind. -/
theorem judged_drop (k : Nat) (passed : NoneOf (checks.take k)) : judged refuses accepted checks =
    judged refuses accepted (checks.drop k) := by
  induction k generalizing checks with
  | zero => rfl
  | succ k ih =>
    cases checks with
    | nil => rfl
    | cons c rest =>
      obtain ⟨passes, passed⟩ := List.forall_mem_cons.1 passed
      exact (if_neg passes).trans (ih passed)

end Judged

/-! ## A crossing at a gangway lane (R73 to R79) -/

section Lane

variable {s : State} {e : CardEntry} {p : Presentation} {d : LaneDirection}

/-- The direction of a person on the roll at a lane (R75). -/
def LaneDirection.way (d : LaneDirection) (st : PersonState) : Direction :=
  match d, st with
  | .outbound, _ => .outbound
  | .inbound, _ => .inbound
  | .toggle, .aboard => .outbound
  | .toggle, _ => .inbound

theorem answerLane_eq (p : Presentation) (r : Result) (n : Nat) (way : Option Direction) (s : State) :
    answerLane p r n way s =
      s.transmits [p.frame { decisionFor p r (some n) s with direction := directionCode way }] := decide'_eq ..

theorem refuseFor_lane (p : Presentation) (e : CardEntry) (r : Result) (s : State) :
    refuseFor p e r s = answerLane p r e.person none s := by
  unfold refuseFor answerLane decisionFor
  cases p.job <;> rfl

/-- The answer of a lane to the check that fails. -/
def laneRefuses (p : Presentation) (n : Nat) (s : State) (x : Result × Nat × State) : State :=
  x.2.2.transmits [p.frame { decisionFor p x.1 (some n) s with direction := x.2.1 }]

theorem laneAnomaly_eq (r : Result) (n : Nat) (way : Direction) : laneAnomaly p r n way s =
    laneRefuses p n s (r, directionCode (some way), report .laneAnomaly
      { portal := some p.portal, card := some p.card, person := some n }
      (notify (.laneAnomaly p.portal p.card n (s.person n).state way s.clock.shipTime) s)) := by
  have told := (tells_notify s (.laneAnomaly p.portal p.card n (s.person n).state way s.clock.shipTime)).trans
    (tells_report _ .laneAnomaly { portal := some p.portal, card := some p.card, person := some n })
  unfold laneAnomaly laneRefuses
  dsimp only
  rw [answerLane_eq, told.decisionFor]

theorem refuseCapacity_eq (n : Nat) : answerLane p .capacity n (some .inbound)
    (report .capacityRefused { portal := some p.portal, card := some p.card, person := some n } s) =
      laneRefuses p n s (.capacity, 1,
        report .capacityRefused { portal := some p.portal, card := some p.card, person := some n } s) := by
  unfold laneRefuses
  rw [answerLane_eq, (tells_report ..).decisionFor]
  rfl

/-- The checks of a crossing outbound, in order (R76). -/
theorem crossOutbound_judged (n : Nat) : crossOutbound p n s = judged (laneRefuses p n s) (acceptCrossing p n .outbound s)
    [((s.person n).state = .ashore, .alreadyAshore, 2,
        report .laneAnomaly { portal := some p.portal, card := some p.card, person := some n }
          (notify (.laneAnomaly p.portal p.card n (s.person n).state .outbound s.clock.shipTime) s)),
      (s.roll.passed = true, .sailing, 2, s), (8 ≤ s.store.queue.length, .storeBusy, 2, s)] := by
  unfold crossOutbound
  by_cases ashore : (s.person n).state = .ashore
  · simp only [judged, ashore, if_true]
    rw [laneAnomaly_eq, ashore]
    rfl
  by_cases passed : s.roll.passed = true
  · simp only [judged, ashore, passed, if_true, if_false]
    exact answerLane_eq ..
  by_cases full : 8 ≤ s.store.queue.length
  · simp only [judged, ashore, passed, full, storeFull_iff.2 full, if_true, if_false]
    exact answerLane_eq ..
  · simp [judged, ashore, passed, full, storeFull]

/-- The checks of a crossing inbound, in order (R77, R83). -/
theorem crossInbound_judged (n : Nat) : crossInbound p n s = judged (laneRefuses p n s) (acceptCrossing p n .inbound s)
    [((s.person n).state = .aboard, .alreadyAboard, 1,
        report .laneAnomaly { portal := some p.portal, card := some p.card, person := some n }
          (notify (.laneAnomaly p.portal p.card n (s.person n).state .inbound s.clock.shipTime) s)),
      (s.roll.limit < s.roll.aboardGuests + s.roll.aboardCrew + s.roll.departures + 1, .capacity, 1,
        report .capacityRefused { portal := some p.portal, card := some p.card, person := some n } s),
      (8 ≤ s.store.queue.length, .storeBusy, 1, s)] := by
  unfold crossInbound
  by_cases aboard : (s.person n).state = .aboard
  · simp only [judged, aboard, if_true]
    rw [laneAnomaly_eq, aboard]
    rfl
  by_cases above : s.roll.limit < s.roll.aboardGuests + s.roll.aboardCrew + s.roll.departures + 1
  · have refused : capacityOk s.roll = false := decide_eq_false (Nat.not_le.2 above)
    simp only [judged, aboard, above, refused, Bool.not_false, if_true, if_false]
    exact refuseCapacity_eq n
  have fits : capacityOk s.roll = true := decide_eq_true (Nat.not_lt.1 above)
  by_cases full : 8 ≤ s.store.queue.length
  · simp only [judged, aboard, above, fits, full, storeFull_iff.2 full, Bool.not_true, Bool.false_eq_true, if_true, if_false]
    exact answerLane_eq ..
  · simp [judged, aboard, above, fits, full, storeFull]

/-- The checks of a crossing, in order: those of a gangway presentation from the sixth on (R74 to R77). -/
theorem cross_judged (direction : (s.portal p.portal).direction = some d) : cross p e.person s =
    judged (laneRefuses p e.person s) (acceptCrossing p e.person (d.way (s.person e.person).state) s)
      ((laneChecks s s p.portal p.card d e).drop 5) := by
  unfold cross
  by_cases guarded : (s.person e.person).lastLane = some p.portal ∧ (s.person e.person).lastTime ≤ s.clock.shipTime ∧
      s.clock.shipTime < (s.person e.person).lastTime + s.roll.guard
  · simp only [guardHolds, laneChecks, List.drop, judged, guarded, and_self, if_true, decide_true, Bool.and_self]
    exact answerLane_eq ..
  have passes : guardHolds s p.portal (s.person e.person) = false := by simpa [guardHolds, and_assoc] using guarded
  by_cases pending : s.beforeImage e.person = none
  · by_cases unlisted : (s.person e.person).state = .unlisted
    · simp [passes, writePending, pending, unlisted, directionTaken, laneChecks, judged, guarded]
      exact answerLane_eq ..
    rw [judged_drop 3 (by simp [NoneOf, laneChecks, guarded, pending, unlisted])]
    simp only [passes, writePending, pending, direction, Option.isSome_none, Bool.false_eq_true, if_false]
    cases state : (s.person e.person).state with
    | unlisted => exact (unlisted state).elim
    | aboard =>
      cases d with
      | inbound => simp [directionTaken, crossInbound_judged, LaneDirection.way, laneChecks, judged, state]
      | outbound => simp [directionTaken, crossOutbound_judged, LaneDirection.way, laneChecks, judged, state]
      | toggle => simp [directionTaken, crossOutbound_judged, LaneDirection.way, laneChecks, judged, state]
    | ashore =>
      cases d with
      | inbound => simp [directionTaken, crossInbound_judged, LaneDirection.way, laneChecks, judged, state]
      | outbound => simp [directionTaken, crossOutbound_judged, LaneDirection.way, laneChecks, judged, state]
      | toggle => simp [directionTaken, crossInbound_judged, LaneDirection.way, laneChecks, judged, state]
  · have waits : writePending s e.person = true := Option.isSome_iff_ne_none.2 pending
    simp only [passes, waits, laneChecks, List.drop, judged, guarded, pending, if_true, if_false, Bool.false_eq_true, ne_eq,
      not_false_eq_true]
    exact answerLane_eq ..

/-- The checks of a gangway presentation, in order (R73 to R77). -/
theorem decideLane_judged (cls : (s.portal p.portal).cls = some .gangway) (service : (s.portal p.portal).disabled = false)
    (direction : (s.portal p.portal).direction = some d) : decideLane p e s =
      judged (laneRefuses p e.person s) (acceptCrossing p e.person (d.way (s.person e.person).state) s)
        (laneChecks s s p.portal p.card d e) := by
  have refuses (r : Result) : refuseFor p e r s = laneRefuses p e.person s (r, 0, s) := by
    rw [refuseFor_lane, answerLane_eq]
    rfl
  have serves : (s.portal p.portal).serves .gangway = true := by simp [Portal.serves, cls, service]
  unfold decideLane
  by_cases revoked : e.revoked = true
  · simp [judged, laneChecks, revoked, refuses]
  by_cases early : s.clock.shipTime < e.validFrom
  · simp [judged, laneChecks, revoked, windowRefusal, early, refuses]
  by_cases late : e.validUntil < s.clock.shipTime
  · simp [judged, laneChecks, revoked, windowRefusal, early, late, refuses]
  by_cases muster : s.emu.record.active = true
  · simp [judged, laneChecks, revoked, windowRefusal, early, late, serves, muster, refuses]
  by_cases latch : s.emu.latch = true
  · simp [judged, laneChecks, revoked, windowRefusal, early, late, serves, muster, latch, refuses]
  rw [judged_drop 5 (by simp [NoneOf, laneChecks, revoked, early, late, muster, latch]), ← cross_judged direction]
  simp [revoked, windowRefusal, early, late, serves, muster, latch]

end Lane

/-! ## A mark at a muster station (R111, R112) -/

section Muster

variable {s : State} {e : CardEntry} {p : Presentation}

/-- The slot of a person who has been marked: found ashore, the person comes aboard (R112). -/
def PersonSlot.marked (q : PersonSlot) (station : Nat) : PersonSlot :=
  { q with state := .aboard, lastLane := if q.state = .ashore then none else q.lastLane, mark := some station }

/-- The checks of a muster presentation, in order (R111, R112). -/
theorem decideMuster_judged (cls : (s.portal p.portal).cls = some .muster) (service : (s.portal p.portal).disabled = false)
    (active : s.emu.record.active = true) : decideMuster p e s =
      judged (fun r => s.transmits [p.frame (decisionFor p r (some e.person) s)])
        (changeSlot e.person ((s.person e.person).marked (s.portal p.portal).station)
          (.mark p.portal p.card ((s.person e.person).state = .ashore)) (some p.id) s)
        (musterChecks s e) := by
  have refuses (r : Result) : refuseFor p e r s = s.transmits [p.frame (decisionFor p r (some e.person) s)] := decide'_eq ..
  have answers (r : Result) :
      answerMark p r e.person s = s.transmits [p.frame (decisionFor p r (some e.person) s)] := decide'_eq ..
  have serves : (s.portal p.portal).serves .muster = true := by simp [Portal.serves, cls, service]
  unfold decideMuster
  by_cases revoked : e.revoked = true
  · simp [judged, musterChecks, revoked, refuses]
  by_cases early : s.clock.shipTime < e.validFrom
  · simp [judged, musterChecks, revoked, windowRefusal, early, refuses]
  by_cases late : e.validUntil < s.clock.shipTime
  · simp [judged, musterChecks, revoked, windowRefusal, early, late, refuses]
  rw [judged_drop 3 (by simp [NoneOf, musterChecks, revoked, early, late])]
  simp only [revoked, windowRefusal, early, late, serves, active, if_false, Bool.not_true, Bool.or_false, Bool.false_eq_true,
    markPerson, answers, musterChecks, List.drop]
  by_cases unlisted : (s.person e.person).state = .unlisted
  · simp [judged, unlisted]
  by_cases marked : (s.person e.person).mark = none
  · by_cases pending : s.beforeImage e.person = none
    · by_cases full : 8 ≤ s.store.queue.length
      · simp [judged, unlisted, marked, writePending, pending, full, storeFull]
      · cases state : (s.person e.person).state with
        | unlisted => exact (unlisted state).elim
        | aboard => simp [judged, state, marked, writePending, pending, full, storeFull, PersonSlot.marked]
        | ashore => simp [judged, state, marked, writePending, pending, full, storeFull, PersonSlot.marked]
    · have waits : writePending s e.person = true := Option.isSome_iff_ne_none.2 pending
      simp [judged, unlisted, marked, pending, waits]
  · have isSome := Option.isSome_iff_ne_none.2 marked
    simp [judged, unlisted, marked, isSome]

end Muster

/-! ## A card that hits at a lane or a muster station -/

section Presented

variable {s : State} {h : Hdr} {portal card gen w : Nat} {e : CardEntry} {d : LaneDirection}

theorem exec_present_lane (acc : s.Accepts h 6) (clock : s.clock.isSet = true) (cls : (s.portal portal).cls = some .gangway)
    (service : (s.portal portal).disabled = false) (hits : s.Hits card gen w e) (same : e.gen = gen) :
    exec (.present h portal card gen) s =
      .next (decideLane ⟨h.tag, portal, card, gen, .gangway⟩ e ((s.afterHit card w).taken Kind.present h)) := by
  rw [exec_present_looks acc (.inr (.inl ⟨cls, rfl⟩)) clock service (.inl nofun),
    present_hits (by exact hits.taken), if_neg (by simp [same]), if_pos same.symm, afterHit_taken]
  rfl

theorem exec_present_muster (acc : s.Accepts h 6) (clock : s.clock.isSet = true) (cls : (s.portal portal).cls = some .muster)
    (service : (s.portal portal).disabled = false) (active : s.emu.record.active = true) (hits : s.Hits card gen w e)
    (same : e.gen = gen) : exec (.present h portal card gen) s =
      .next (decideMuster ⟨h.tag, portal, card, gen, .muster⟩ e ((s.afterHit card w).taken Kind.present h)) := by
  rw [exec_present_looks acc (.inr (.inr ⟨cls, rfl⟩)) clock service (.inr active),
    present_hits (by exact hits.taken), if_neg (by simp [same]), if_pos same.symm, afterHit_taken]
  rfl

theorem laneChecks_afterHit_taken (s : State) (c w kind : Nat) (h : Hdr) (lane card : Nat) (d : LaneDirection) (e : CardEntry) :
    let hit := (s.afterHit c w).taken kind h
    laneChecks hit hit lane card d e = laneChecks s hit lane card d e := by
  obtain ⟨x, hx⟩ := afterHit_eq (s := s) c w
  rw [hx]; rfl

theorem musterChecks_afterHit_taken (s : State) (c w kind : Nat) (h : Hdr) (e : CardEntry) :
    musterChecks ((s.afterHit c w).taken kind h) e = musterChecks s e := by
  obtain ⟨x, hx⟩ := afterHit_eq (s := s) c w
  rw [hx]; rfl

/-- What becomes of a card that hits at a lane, by the checks in order (R73 to R79). -/
theorem exec_present_lane_judged (acc : s.Accepts h 6) (clock : s.clock.isSet = true)
    (cls : (s.portal portal).cls = some .gangway) (service : (s.portal portal).disabled = false)
    (direction : (s.portal portal).direction = some d) (hits : s.Hits card gen w e)
    (same : e.gen = gen) :
    let hit := (s.afterHit card w).taken Kind.present h
    let p : Presentation := ⟨h.tag, portal, card, gen, .gangway⟩
    exec (.present h portal card gen) s = .next (judged (laneRefuses p e.person hit)
      (acceptCrossing p e.person (d.way (s.person e.person).state) hit) (laneChecks s hit portal card d e)) := by
  intro hit p
  have door : hit.portal portal = s.portal portal := afterHit_portal portal
  have person : hit.person e.person = s.person e.person := afterHit_person e.person
  rw [exec_present_lane acc clock cls service hits same, ← laneChecks_afterHit_taken, ← person]
  exact congrArg _ (decideLane_judged (by exact door ▸ cls) (by exact door ▸ service) (by exact door ▸ direction))

/-- And of one at a muster station (R111, R112). -/
theorem exec_present_muster_judged (acc : s.Accepts h 6) (clock : s.clock.isSet = true)
    (cls : (s.portal portal).cls = some .muster) (service : (s.portal portal).disabled = false)
    (active : s.emu.record.active = true) (hits : s.Hits card gen w e)
    (same : e.gen = gen) :
    let hit := (s.afterHit card w).taken Kind.present h
    let p : Presentation := ⟨h.tag, portal, card, gen, .muster⟩
    exec (.present h portal card gen) s = .next (judged (fun r => hit.transmits [p.frame (decisionFor p r (some e.person) s)])
      (changeSlot e.person ((s.person e.person).marked (s.portal portal).station)
        (.mark portal card ((s.person e.person).state = .ashore)) (some ⟨Kind.present, h.tag⟩) hit) (musterChecks s e)) := by
  intro hit p
  have door : hit.portal portal = s.portal portal := afterHit_portal portal
  have person : hit.person e.person = s.person e.person := afterHit_person e.person
  have decision (r : Result) : decisionFor p r (some e.person) hit = decisionFor p r (some e.person) s := by
    rw [decisionFor_taken, decisionFor_afterHit]
  have record : hit.emu.record.active = true := by
    obtain ⟨x, pointer⟩ := afterHit_eq (s := s) card w
    simp only [hit, pointer]
    exact active
  rw [exec_present_muster acc clock cls service active hits same, ← musterChecks_afterHit_taken, ← person, ← door]
  simp only [← decision]
  exact congrArg _ (decideMuster_judged (by exact door ▸ cls) (by exact door ▸ service) record)

/-- A hit changes the card table alone. -/
theorem afterHit_withCards (s : State) (c w : Nat) : ∃ x, s.afterHit c w = s.withCards x :=
  let ⟨_, pointer⟩ := afterHit_eq (s := s) c w
  ⟨_, pointer⟩

/-- A crossing is the slot's change that waits for its write (R79). -/
theorem acceptCrossing_changed (x : Cards) (h : Hdr) (n : Nat) (way : Direction) :
    let to' : PersonState := match way with
      | .inbound => .aboard
      | .outbound => .ashore
    let t := acceptCrossing ⟨h.tag, portal, card, gen, .gangway⟩ n way ((s.withCards x).taken Kind.present h)
    SlotChanged s t n { s.person n with
      state := to', lastTime := s.clock.shipTime, lastLane := some portal,
      mark := if to' = .aboard then (s.person n).mark else none }
      (.crossing portal card way (way = .inbound && s.roll.passed)) ⟨Kind.present, h.tag⟩ ∧ t.cards = x := by
  intro to' t
  obtain ⟨changed, cards, _⟩ := changeSlot_changed (s := s) x Kind.present h n { s.person n with
    state := to', lastTime := s.clock.shipTime, lastLane := some portal,
    mark := if to' = .aboard then (s.person n).mark else none }
    (.crossing portal card way (way = .inbound && s.roll.passed))
  exact ⟨changed, cards⟩

/-- A mark set where there was none is counted at its station (R107). -/
theorem remark_sets (m : Emergency) {old new : PersonSlot} {k : Nat} (unmarked : old.mark = none) (marked : new.mark = some k) :
    m.remark old new = { m with
      stations := Table.write 0 k (Table.read 0 m.stations k + 1) m.stations, mustered := m.mustered + 1 } := by
  simp [Emergency.remark, Emergency.unmark, Emergency.mark, unmarked, marked]

end Presented

/-- Settles O27: the checks are `laneChecks` and `musterChecks` in order (`decideLane_judged`, `decideMuster_judged`), and what is
accepted is a slot's change (`changeSlot_changed`). -/
theorem crossingAccepted : Obligations.CrossingAccepted := by
  refine ⟨?_, ?_, ?_⟩
  · intro s h lane card gen w e d acc p q clock cls service direction hgen hcard holds fresh code same live from_ until_ idle quiet
      unguarded free room set hit crosses
    have hits : s.Hits card gen w e := ⟨hcard, hgen, holds, fresh, code⟩
    obtain ⟨x, pointer⟩ := afterHit_withCards s card w
    have cards : hit.cards = x := congrArg State.cards pointer
    have carried := exec_present_lane_judged acc clock cls service direction hits same
    simp only [pointer] at carried
    have state : (s.person e.person).state = q.state := rfl
    have unguarded : q.lastLane = some lane → q.lastTime ≤ s.clock.shipTime →
        q.lastTime + s.roll.guard ≤ s.clock.shipTime :=
      fun here since => Nat.not_lt.1 fun soon => unguarded ⟨here, since, soon⟩
    refine ⟨fun aboard way stays => ?_, fun ashore way fits => ?_⟩
    · have taken : d.way q.state = .outbound := by rw [aboard]; cases d <;> simp_all [LaneDirection.way]
      obtain ⟨changed, table⟩ := acceptCrossing_changed (portal := lane) (card := card) (gen := gen) x h e.person .outbound
      rw [judged_none ?_, taken] at carried
      · exact ⟨_, carried, table.trans cards.symm, changed⟩
      · simp [NoneOf, laneChecks, live, from_, until_, idle, quiet, free, state.trans aboard, stays, way, Nat.not_le.2 room]
        exact unguarded
    · have taken : d.way q.state = .inbound := by rw [ashore]; cases d <;> simp_all [LaneDirection.way]
      obtain ⟨changed, table⟩ := acceptCrossing_changed (portal := lane) (card := card) (gen := gen) x h e.person .inbound
      rw [judged_none ?_, taken] at carried
      · exact ⟨_, carried, table.trans cards.symm, by simpa using changed⟩
      · simp [NoneOf, laneChecks, live, from_, until_, idle, quiet, free, state.trans ashore, way, Nat.not_le.2 room]
        exact ⟨unguarded, fun _ => fits⟩
  · intro s h lane card gen w e d acc p n hit pr clock cls service direction hits same r way u first
    rw [exec_present_lane_judged acc clock cls service direction hits same, judged_first first]
    unfold laneRefuses
    dsimp only
    rw [decisionFor_taken, decisionFor_afterHit]
  · intro s h portal card gen w e acc p n q pr clock cls service active hits same
    have carried := exec_present_muster_judged acc clock cls service active hits same
    refine ⟨fun r first => by rw [carried, judged_first first], fun passes => ?_⟩
    have unmarked : q.mark = none := not_not.1 (passes (q.mark ≠ none, .repeated) (by simp [musterChecks, q, n]))
    obtain ⟨x, pointer⟩ := afterHit_withCards s card w
    simp only [judged_none passes, pointer] at carried
    obtain ⟨changed, table, emu⟩ := changeSlot_changed (s := s) x Kind.present h n (q.marked p.station)
      (.mark portal card (q.state = .ashore))
    rw [remark_sets s.emu unmarked rfl] at emu
    refine ⟨_, carried, table.trans (congrArg State.cards pointer).symm, congrArg Emergency.mustered emu,
      (congrArg (fun m : Emergency => Table.read 0 m.stations p.station) emu).trans (by simp [State.station]), changed⟩

end Sys2Proof.Machine

namespace Sys2Proof.Machine

open Sys2Proof

/-! ## The end of a write (R180 to R182) -/

/-- The store once a write has ended (R178, R181, R182). -/
def Store.ended (st : Store) (w : Write) (ok : Bool) : Store :=
  { queue := st.queue.drop 1, write := none
    secondAttempts := if ok && w.second then satAdd 65535 st.secondAttempts 1 else st.secondAttempts
    faults := if ok then st.faults else satAdd 65535 st.faults 1 }

section WriteEnds

variable {s t : State} {r : StoreReq} {rest : List StoreReq} {w : Write} {ok : Bool} {m : Option Marker}

theorem report_waiting (k : FaultKind) (f : FaultFields) :
    noticesWaiting (report k f s).link.tx ≤ noticesWaiting s.link.tx + 1 := by
  by_cases alert : (s.frc.rowOf k).severity = .alert
  · by_cases room : s.NoticeRoom 1
    · rw [report_alert s k f alert room]
      exact (noticesWaiting_append ..).le
    · rw [report_alert_full s k f alert room]
      exact Nat.le_succ _
  · rw [report_quiet s k f alert]
    exact Nat.le_succ _

theorem report_now (k : FaultKind) (f : FaultFields) : (report k f s).now = s.now := by
  obtain ⟨l, r, told⟩ := tells_report s k f
  rw [told]
  rfl

theorem draw_link : (draw s).2.link = s.link := by
  unfold draw
  split <;> rfl

theorem writeMarker_waiting (m : Option Marker) (s : State) :
    noticesWaiting (writeMarker m s).link.tx ≤ noticesWaiting s.link.tx + 1 := by
  unfold writeMarker markerTry
  dsimp only
  split
  · simp [draw_link]
  split
  · simp [draw_link]
  · refine (report_waiting _ _).trans ?_
    simp [draw_link]

/-- A marker's first try that agrees (log 4). -/
theorem writeMarker_agrees {choice : Nat} {choices : List Nat} (given : s.choices = choice :: choices) (even : choice % 2 = 0) :
    writeMarker m s = ({ s with choices := choices } : State).withImage { s.image with marker := m } := by
  have drawn : draw s = (choice, { s with choices := choices }) := by simp [draw, given]
  simp [writeMarker, markerTry, drawn, even]

theorem exec_attemptEnd (supply : s.supply = true) : exec (.storeAttemptEnd ok) s = .next (attemptEnd ok s) :=
  exec_powered rfl supply

theorem attemptEnd_idle (idle : s.store.queue = [] ∨ s.store.write = none) : attemptEnd ok s = s := by
  unfold attemptEnd
  rcases idle with none | none
  · rw [none]
    cases s.store.write <;> rfl
  · rw [none]

theorem attemptEnd_again (queue : s.store.queue = r :: rest) (write : s.store.write = some w) (first : w.second = false) :
    attemptEnd false s = secondAttempt w s := by simp [attemptEnd, queue, write, first]

theorem attemptEnd_ends (queue : s.store.queue = r :: rest) (write : s.store.write = some w)
    (ends : ok = true ∨ w.second = true) : attemptEnd ok s = endWrite r w ok s := by
  cases ok with
  | true => simp [attemptEnd, queue, write]
  | false => simp [attemptEnd, queue, write, ends.resolve_left nofun]

/-- The end of a write, before its requester is told: the image has the record of a write that completed, and the request has left
the queue; but for the marker, the choices and a STORE-FAULT (R180 to R182). -/
theorem endWrite_shape (r : StoreReq) (w : Write) (ok : Bool) (s : State) : ∃ u, endWrite r w ok s = reportEnd r w.content ok u ∧
    Marks ((s.withImage (if ok then s.image.apply w.content else s.image)).withStore (s.store.ended w ok)) u ∧
    noticesWaiting u.link.tx ≤ noticesWaiting s.link.tx + 2 := by
  have image : (if ok then s.withImage (s.image.apply w.content) else s) =
      s.withImage (if ok then s.image.apply w.content else s.image) := by cases ok <;> rfl
  unfold endWrite
  rw [image]
  dsimp only
  generalize hb : (s.withImage (if ok then s.image.apply w.content else s.image)).withStore _ = base
  have waiting := writeMarker_waiting none base
  obtain ⟨m, l, r', cs, d, notified, shape⟩ := marks_writeMarker none base
  have left : Marks ((s.withImage (if ok then s.image.apply w.content else s.image)).withStore (s.store.ended w ok))
      ((writeMarker none base).withStore
        { (writeMarker none base).store with queue := (writeMarker none base).store.queue.drop 1, write := none }) := by
    rw [shape]
    subst hb
    exact ⟨m, l, r', cs, d, notified, by cases ok <;> rfl⟩
  have link : base.link = s.link := by rw [← hb]; rfl
  rw [link] at waiting
  generalize (if ok then s.image.apply w.content else s.image) = img at left
  refine ⟨_, rfl, ?_⟩
  split
  · exact ⟨left.trans (notes_report ..).marks, (report_waiting ..).trans (Nat.succ_le_succ waiting)⟩
  · exact ⟨left, waiting.trans (Nat.le_succ _)⟩

/-- An attempt whose read-back disagrees begins the second, the marker written again (R180, log 36). -/
theorem secondAttempt_agrees {choice : Nat} {choices : List Nat} (given : s.choices = choice :: choices) (even : choice % 2 = 0) :
    secondAttempt w s = ((({ s with choices := choices } : State).withStore { s.store with
      write := some { w with second := true } }).withImage { s.image with marker := some w.content.marker }) := by
  unfold secondAttempt
  rw [writeMarker_agrees (s := s.withStore { s.store with write := some { w with second := true } }) given even]
  rfl

/-- The end of a write whose marker is cleared at once (log 4). -/
theorem endWrite_agrees {choice : Nat} {choices : List Nat} (given : s.choices = choice :: choices) (even : choice % 2 = 0) :
    endWrite r w ok s =
      let u := (({ s with choices := choices } : State).withStore (s.store.ended w ok)).withImage
        { (if ok then s.image.apply w.content else s.image) with marker := none }
      reportEnd r w.content ok
        (if !ok && !failedBefore w.content s then report .storeFault (storeFaultFields r u) u else u) := by
  unfold endWrite
  cases ok with
  | true =>
    simp only [if_true]
    rw [writeMarker_agrees (choice := choice) (choices := choices) (by exact given) even]
    rfl
  | false =>
    simp only [Bool.false_eq_true, if_false]
    rw [writeMarker_agrees (choice := choice) (choices := choices) (by exact given) even]
    cases hc : w.content <;> rfl

end WriteEnds

section DayWrites

variable {s : State} {rest : List StoreReq} {d choice : Nat} {choices : List Nat} {second : Bool}

/-- A day write that completes stores the day (R34). -/
theorem dayWrite_completes (queue : s.store.queue = .day :: rest) (write : s.store.write = some ⟨.day s.clock.day, second⟩)
    (given : s.choices = choice :: choices) (even : choice % 2 = 0) : attemptEnd true s =
      (((({ s with choices := choices } : State).withStore { s.store with
        queue := rest, write := none
        secondAttempts := if second then min 65535 (s.store.secondAttempts + 1) else s.store.secondAttempts }).withImage
          { s.image with day := some s.clock.day, marker := none }).withClock { s.clock with dayOutstanding := false }) := by
  rw [attemptEnd_ends queue write (.inl rfl), endWrite_agrees given even]
  simp [reportEnd, endDayWrite, Store.ended, queue, Image.apply, satAdd]

/-- One that fails is recorded and tried again 60 s later (R34). -/
theorem dayWrite_fails (queue : s.store.queue = .day :: rest) (write : s.store.write = some ⟨.day d, true⟩)
    (given : s.choices = choice :: choices) (even : choice % 2 = 0) (new : s.clock.lastFailedDay ≠ some d) : attemptEnd false s =
      (report .storeFault {} ((({ s with choices := choices } : State).withStore { s.store with
        queue := rest, write := none, faults := min 65535 (s.store.faults + 1) }).withImage { s.image with marker := none })).withClock
          { s.clock with lastFailedDay := some d, dayRetry := some (s.now + 60000) } := by
  rw [attemptEnd_ends queue write (.inr rfl), endWrite_agrees given even]
  simp [reportEnd, endDayWrite, Store.ended, queue, satAdd, failedBefore, new, storeFaultFields, awaitedBy, report_now]

end DayWrites

/-! ## The end of an append (R153, R154, R161, R166) -/

/-- The entry of a card one of whose holds has ended in an enabled way (R2, R21). -/
def CardEntry.afterHold (y : CardEntry) (day : Nat) (spend alcohol : Int) (today : Nat) : CardEntry :=
  let p := if y.dayStamp = today then y.daySpend else 0
  let q := if y.dayStamp = today then y.dayAlcohol else 0
  { y with
    dayStamp := today, daySpend := if day = y.dayStamp then min 16777215 (p + spend).toNat else p
    dayAlcohol := if day = y.dayStamp then min 255 (q + alcohol).toNat else q, holdCount := y.holdCount - 1, codeDiff := 0 }

/-- From `s` to `t` the hold `x` of a slot has ended: its folio's exposure, its card's entry and the slot have changed, and notices
are sent. -/
structure HoldEnded (slot : Nat) (x : Hold) (last : LastEnd) (given : Nat → Nat) (spend alcohol : Int) (s t : State) : Prop where
  rest : (t.clock, t.roll, t.emu, t.ptu, t.store, t.journal, t.image) =
    (s.clock, s.roll, s.emu, s.ptu, s.store, s.journal, s.image)
  freed : t.holdSlot slot = { s.holdSlot slot with body := .free, lastEnd := last }
  others : ∀ m, m ≠ slot → t.holdSlot m = s.holdSlot m
  folio : t.folio x.folio = { s.folio x.folio with exposure := given (s.folio x.folio).exposure }
  folios : ∀ n, n ≠ x.folio → t.folio n = s.folio n
  notified : Notified s.link t.link
  lacks : s.Lacks x.card → t.cards = s.cards
  card : ∀ w y, s.Holds x.card w y → y.suspect = false → y.codeDiff = 0 → (s.way w).enabled = true →
    t.entry (setIndex x.card) w = some (y.afterHold x.day spend alcohol s.clock.day)

section AppendEnds

variable {s t : State} {slot : Nat} {x : Hold} {c : CommitPart} {last : LastEnd} {given : Nat → Nat} {spend alcohol : Int}
  {awaits : Option ReqId}

theorem callEntry_lacks {n : Nat} (lacks : s.Lacks n) (f : CardEntry → CardEntry → CardEntry) : callEntry n f s = s := by
  unfold callEntry
  rw [readCard_lacks lacks]

theorem callHoldEnd_lacks {n : Nat} (lacks : s.Lacks n) : callHoldEnd n s = s := by
  unfold callHoldEnd
  rw [readCard_lacks lacks]

theorem ended_enabled {y : CardEntry} (fresh : y.suspect = false) (day today : Nat) :
    y.ended spend alcohol day today true = some (y.afterHold day spend alcohol today) := by
  have stays : ((y.adjusted spend alcohol day today).oneLess today).leavesAt true = false := by
    simp [CardEntry.leavesAt, CardEntry.oneLess, CardEntry.adjusted, CardEntry.refresh, fresh]
  unfold CardEntry.ended
  dsimp only
  rw [stays]
  simp only [Bool.false_eq_true, if_false, Option.some.injEq]
  simp [CardEntry.oneLess, CardEntry.adjusted, CardEntry.afterHold, CardEntry.refresh, CardEntry.spend, CardEntry.alcohol, adjust,
    maxAmount, eq_comm]

theorem endHold_ended (slot : Nat) (x : Hold) (last : LastEnd) (given : Nat → Nat) (spend alcohol : Int) (s : State) :
    HoldEnded slot x last given spend alcohol s (endHold slot x last given spend alcohol s) := by
  obtain ⟨entries, ways, l, r, shape, notified⟩ := endHold_checked (slot := slot) (h := x) (last := last) (given := given)
    (spend := spend) (alcohol := alcohol) (s := s)
  have holds : (endHold slot x last given spend alcohol s).purse.holds =
      Table.write defaultHoldSlot slot { s.holdSlot slot with body := .free, lastEnd := last } s.purse.holds := by
    rw [shape]
    rfl
  have folios : (endHold slot x last given spend alcohol s).purse.folios =
      Table.write defaultFolio x.folio { s.folio x.folio with exposure := given (s.folio x.folio).exposure } s.purse.folios := by
    rw [shape]
    rfl
  refine ⟨by rw [shape]; rfl, ?slot, fun m other => ?slots, ?folio, fun n other => ?folios, by rw [shape]; exact notified,
    fun lacks => ?lacks, fun w y found fresh code enabled => ?card⟩
  case slot => unfold State.holdSlot; rw [holds, Table.read_write_same]; rfl
  case slots => unfold State.holdSlot; rw [holds, Table.read_write_other _ _ _ other]
  case folio => unfold State.folio; rw [folios, Table.read_write_same]; rfl
  case folios => unfold State.folio; rw [folios, Table.read_write_other _ _ _ other]
  case lacks =>
    have lacks : (moveExposure x.folio given s).Lacks x.card := lacks
    unfold endHold callAdjust
    dsimp only
    rw [callEntry_lacks lacks, callHoldEnd_lacks lacks]
    rfl
  case card =>
    obtain ⟨_, entry⟩ := endHold_entries (slot := slot) (last := last) (given := given) (spend := spend) (alcohol := alcohol)
      found.reads (.inr code)
    rw [entry _ w found.way, if_pos ⟨rfl, rfl⟩, enabled, ended_enabled fresh]

theorem closeCommit_eq {e : JournalEntry} (body : (s.holdSlot slot).body = .committing x c) : closeCommit slot e awaits s =
    let t := endHold slot x .committed (fun y => y + c.total - x.total) ((c.total : Int) - x.total) ((c.alcohol : Int) - x.alcohol)
      (s.withJournal { s.journal with entries := s.journal.entries ++ [e] })
    if c.orphaned then t
    else replyWaiting awaits (.plain .approved (commitFields (holdNumber slot (s.holdSlot slot).reuse) e.seq x c)) t := by
  have committing : ((s.withJournal { s.journal with entries := s.journal.entries ++ [e] }).holdSlot slot).body = .committing x c := body
  unfold closeCommit
  simp only [committing]
  rfl

theorem failCommit_orphaned (body : (s.holdSlot slot).body = .committing x c) (orphaned : c.orphaned = true) :
    failCommit slot awaits s = endHold slot x .released (· - x.total) (-(x.total : Int)) (-(x.alcohol : Int))
      (tellExpired slot x .unbooked s) := by
  simp [failCommit, body, orphaned, releaseHold_eq]

theorem failCommit_back (body : (s.holdSlot slot).body = .committing x c) (awaited : c.orphaned = false) :
    failCommit slot awaits s = expireIfDue slot
      (replyWaiting awaits (.plain .storeFault [.n1 (holdNumber slot (s.holdSlot slot).reuse)])
        (s.setHoldSlot slot { s.holdSlot slot with body := .held x (min maxTime (s.clock.shipTime + c.remaining)) })) := by
  simp [failCommit, body, awaited, expiryAfter, satAdd]

/-- The reply to a request that waited, where there is one. -/
theorem replyWaiting_shape (awaits : Option ReqId) (b : Body) (s : State) : ∃ l r,
    replyWaiting awaits b s = (s.withLink l).withFrc r ∧
      l.tx = s.link.tx ++ awaits.toList.map fun id => .reply id b 0 := by
  cases awaits with
  | none => exact ⟨s.link, s.frc, rfl, (List.append_nil _).symm⟩
  | some id => exact ⟨(s.transmits [.reply id b 0]).link, s.frc, (reply_eq s id b).trans rfl, rfl⟩

/-- The reply to the request that awaited an append, unless a warm reset has orphaned it (R161). -/
def appendAnswer (c : CommitPart) (awaits : Option ReqId) (b : Body) : List Frame :=
  if c.orphaned then [] else awaits.toList.map fun id => .reply id b 0

theorem appendAnswer_shape (c : CommitPart) (awaits : Option ReqId) (b : Body) (s : State) : ∃ l r,
    (if c.orphaned then s else replyWaiting awaits b s) = (s.withLink l).withFrc r ∧ l.tx = s.link.tx ++ appendAnswer c awaits b := by
  unfold appendAnswer
  split
  · exact ⟨s.link, s.frc, rfl, (List.append_nil _).symm⟩
  · exact replyWaiting_shape awaits b s

end AppendEnds

/-- The request of an append has left the queue: the journal and the image's entries are as named, and the hold is still to be told
(R166, R181). -/
structure AppendLeft (rest : List StoreReq) (entries : List JournalEntry) (records : Table (Option EntryRecord)) (s b : State) :
    Prop where
  blocks : (b.clock, b.roll, b.emu, b.ptu, b.cards, b.purse) = (s.clock, s.roll, s.emu, s.ptu, s.cards, s.purse)
  queue : b.store.queue = rest ∧ b.store.write = none
  journal : b.journal = { s.journal with entries := entries }
  image : { b.image with marker := none } = { s.image with entries := records, marker := none }
  notified : Notified s.link b.link

/-- What the end of an append leaves alone, whatever becomes of it. -/
def AppendKept (slot : Nat) (x : Hold) (rest : List StoreReq) (s t : State) : Prop :=
  t.store.queue = rest ∧ t.store.write = none ∧ t.journal.next = s.journal.next ∧ t.journal.settle = s.journal.settle ∧
  (∀ m, m ≠ slot → t.holdSlot m = s.holdSlot m) ∧ (∀ n, n ≠ x.folio → t.folio n = s.folio n) ∧
  { t.image with entries := [], marker := none } = { s.image with entries := [], marker := none } ∧
  t.clock = s.clock ∧ t.roll = s.roll ∧ t.emu = s.emu ∧ t.ptu = s.ptu

/-- What the calls at the end of a hold make of its card's entry (R21). -/
def HoldCalled (x : Hold) (spend alcohol : Int) (s t : State) : Prop :=
  (s.Lacks x.card → t.cards = s.cards) ∧
  (∀ w y, s.Holds x.card w y → y.suspect = false → y.codeDiff = 0 → (s.way w).enabled = true →
    t.entry (setIndex x.card) w = some (y.afterHold x.day spend alcohol s.clock.day))

section AppendEnds

variable {s t b : State} {slot : Nat} {x : Hold} {c : CommitPart} {last : LastEnd} {given : Nat → Nat} {spend alcohol : Int}
  {awaits : Option ReqId} {rest : List StoreReq} {entries : List JournalEntry} {records : Table (Option EntryRecord)}

theorem AppendLeft.kept (left : AppendLeft rest entries records s b)
    (same : (t.clock, t.roll, t.emu, t.ptu, t.store, t.journal, t.image) =
      (b.clock, b.roll, b.emu, b.ptu, b.store, b.journal, b.image))
    (others : ∀ m, m ≠ slot → t.holdSlot m = b.holdSlot m) (folios : ∀ n, n ≠ x.folio → t.folio n = b.folio n) :
    AppendKept slot x rest s t ∧ t.journal.entries = entries ∧ t.image.entries = records := by
  obtain ⟨blocks, ⟨queue, write⟩, journal, image, _⟩ := left
  simp only [Prod.mk.injEq] at same blocks
  obtain ⟨clock, roll, emu, ptu, store, journal', image'⟩ := same
  obtain ⟨clock', roll', emu', ptu', cards', purse'⟩ := blocks
  have holdSlot (m : Nat) : b.holdSlot m = s.holdSlot m := congrArg (fun p : Purse => Table.read defaultHoldSlot p.holds m) purse'
  have folio (n : Nat) : b.folio n = s.folio n := congrArg (fun p : Purse => Table.read defaultFolio p.folios n) purse'
  refine ⟨⟨by rw [store, queue], by rw [store, write], by rw [journal', journal], by rw [journal', journal],
    fun m other => (others m other).trans (holdSlot m), fun n other => (folios n other).trans (folio n), ?_,
    clock.trans clock', roll.trans roll', emu.trans emu', ptu.trans ptu'⟩, by rw [journal', journal], ?_⟩
  · rw [image']
    exact congrArg (fun i : Image => { i with entries := [] }) image
  · rw [image']
    exact congrArg Image.entries image

theorem AppendLeft.endHold (left : AppendLeft rest entries records s b) (ended : HoldEnded slot x last given spend alcohol b t) :
    AppendKept slot x rest s t ∧ t.journal.entries = entries ∧ t.image.entries = records ∧
    t.holdSlot slot = { s.holdSlot slot with body := .free, lastEnd := last } ∧
    t.folio x.folio = { s.folio x.folio with exposure := given (s.folio x.folio).exposure } ∧
    HoldCalled x spend alcohol s t := by
  obtain ⟨kept, journal, image⟩ := left.kept (x := x) ended.rest ended.others ended.folios
  have blocks := left.blocks
  simp only [Prod.mk.injEq] at blocks
  obtain ⟨clock, _, _, _, cards, purse⟩ := blocks
  have holdSlot : b.holdSlot slot = s.holdSlot slot := congrArg (fun p : Purse => Table.read defaultHoldSlot p.holds slot) purse
  have folio : b.folio x.folio = s.folio x.folio := congrArg (fun p : Purse => Table.read defaultFolio p.folios x.folio) purse
  have entry (set w : Nat) : b.entry set w = s.entry set w := congrArg (fun p : Cards => Table.read none p.entries (4 * set + w)) cards
  have way (w : Nat) : b.way w = s.way w := congrArg (fun p : Cards => Table.read defaultWay p.ways w) cards
  refine ⟨kept, journal, image, by rw [ended.freed, holdSlot], by rw [ended.folio, folio], fun lacks => ?_,
    fun w y found fresh code enabled => ?_⟩
  · exact (ended.lacks fun w hw e here => lacks w hw e ((entry _ w).symm.trans here)).trans cards
  · rw [← clock]
    refine ended.card w y ⟨found.way, (entry _ w).trans found.entry, found.card, ?_, fun v hv other z here => ?_⟩ fresh code
      ((congrArg WayHealth.enabled (way w)).trans enabled)
    · rw [way]
      exact found.found
    · exact found.only v hv other z ((entry _ v).symm.trans here)

theorem holdDue_held {expiry : Nat} (held : (s.holdSlot slot).body = .held x expiry) :
    holdDue s slot = (s.clock.isSet && expiry ≤ s.clock.shipTime) := by simp [holdDue, held]

theorem AppendLeft.notes (left : AppendLeft rest entries records s b) (told : Notes b t) : AppendLeft rest entries records s t := by
  obtain ⟨⟨⟨l, r, rfl⟩, _, _⟩, notified⟩ := told
  exact { left with notified := left.notified.trans notified }

variable {a : Append} {e : JournalEntry} {place : Nat} {next : Option Nat} {second : Bool}

/-- The write of an append has ended, and its request has left the queue. -/
theorem endWrite_append (ok : Bool) (queue : s.store.queue = .entry slot a awaits :: rest) : ∃ u,
    endWrite (.entry slot a awaits) ⟨.entry place e next, second⟩ ok s =
      (if ok then closeCommit slot e awaits u else failCommit slot awaits u) ∧
    AppendLeft rest s.journal.entries (if ok then Table.write none place (some ⟨e, next⟩) s.image.entries else s.image.entries) s u ∧
    noticesWaiting u.link.tx ≤ noticesWaiting s.link.tx + 2 := by
  obtain ⟨u, ends, ⟨m, l, r, cs, d, notified, rfl⟩, waiting⟩ := endWrite_shape (.entry slot a awaits) ⟨.entry place e next, second⟩ ok s
  have left : (s.store.ended ⟨.entry place e next, second⟩ ok).queue = rest := congrArg (List.drop 1) queue
  refine ⟨_, ends, ⟨rfl, ⟨left, rfl⟩, rfl, ?_, notified⟩, waiting⟩
  cases ok <;> rfl

/-- A body that the end of its append finds COMMITTING is COMMITTING still. -/
theorem AppendLeft.body (left : AppendLeft rest entries records s b) (slot : Nat) : b.holdSlot slot = s.holdSlot slot := by
  have blocks := left.blocks
  simp only [Prod.mk.injEq] at blocks
  obtain ⟨_, _, _, _, _, purse⟩ := blocks
  exact congrArg (fun p : Purse => Table.read defaultHoldSlot p.holds slot) purse

/-- An append that completes (R153, R166). -/
theorem append_completes (queue : s.store.queue = .entry slot a awaits :: rest) (body : (s.holdSlot slot).body = .committing x c) :
    let t := endWrite (.entry slot a awaits) ⟨.entry place e next, second⟩ true s
    AppendKept slot x rest s t ∧ t.journal.entries = s.journal.entries ++ [e] ∧
    t.image.entries = Table.write none place (some ⟨e, next⟩) s.image.entries ∧
    t.holdSlot slot = { s.holdSlot slot with body := .free, lastEnd := .committed } ∧
    t.folio x.folio = { s.folio x.folio with exposure := (s.folio x.folio).exposure + c.total - x.total } ∧
    HoldCalled x ((c.total : Int) - x.total) ((c.alcohol : Int) - x.alcohol) s t ∧
    ∃ ns : List Notice, t.link.tx = s.link.tx ++ ns.map Frame.notice ++ appendAnswer c awaits
      (.plain .approved (commitFields (holdNumber slot (s.holdSlot slot).reuse) e.seq x c)) := by
  obtain ⟨u, ends, left, _⟩ := endWrite_append (place := place) (e := e) (next := next) (second := second) true queue
  rw [ends, if_pos rfl, closeCommit_eq (by rw [left.body]; exact body), left.body]
  have joined : AppendLeft rest (s.journal.entries ++ [e]) (Table.write none place (some ⟨e, next⟩) s.image.entries) s
      (u.withJournal { u.journal with entries := u.journal.entries ++ [e] }) :=
    { left with journal := by rw [left.journal]; rfl }
  have ended := endHold_ended slot x .committed (fun y => y + c.total - x.total) ((c.total : Int) - x.total)
    ((c.alcohol : Int) - x.alcohol) (u.withJournal { u.journal with entries := u.journal.entries ++ [e] })
  obtain ⟨kept, journal, image, freed, folio, called⟩ := joined.endHold ended
  obtain ⟨⟨ns, tx⟩, _⟩ := joined.notified.trans ended.notified
  generalize endHold _ _ _ _ _ _ _ = v at *
  obtain ⟨l, r, answered, tx'⟩ := appendAnswer_shape c awaits
    (.plain .approved (commitFields (holdNumber slot (s.holdSlot slot).reuse) e.seq x c)) v
  dsimp only
  rw [answered]
  exact ⟨kept, journal, image, freed, folio, called, ns, tx'.trans (by rw [tx])⟩

/-- One that fails once a warm reset has orphaned it (R161). -/
theorem append_released (queue : s.store.queue = .entry slot a awaits :: rest) (body : (s.holdSlot slot).body = .committing x c)
    (orphaned : c.orphaned = true) :
    let t := endWrite (.entry slot a awaits) ⟨.entry place e next, second⟩ false s
    AppendKept slot x rest s t ∧ t.journal.entries = s.journal.entries ∧ t.image.entries = s.image.entries ∧
    t.holdSlot slot = { s.holdSlot slot with body := .free, lastEnd := .released } ∧
    t.folio x.folio = { s.folio x.folio with exposure := (s.folio x.folio).exposure - x.total } ∧
    HoldCalled x (-(x.total : Int)) (-(x.alcohol : Int)) s t ∧
    (∃ ns : List Notice, t.link.tx = s.link.tx ++ ns.map Frame.notice) ∧
    (s.NoticeRoom 3 → .notice (.holdExpired (holdNumber slot (s.holdSlot slot).reuse) x.portal x.card x.person x.folio x.total
      x.alcohol s.clock.shipTime .unbooked) ∈ t.link.tx) := by
  obtain ⟨u, ends, left, waiting⟩ := endWrite_append (place := place) (e := e) (next := next) (second := second) false queue
  have told : AppendLeft rest s.journal.entries s.image.entries s (tellExpired slot x .unbooked u) := left.notes (notes_notify u _)
  have clock : u.clock = s.clock := congrArg Prod.fst left.blocks
  have ended := endHold_ended slot x .released (· - x.total) (-(x.total : Int)) (-(x.alcohol : Int)) (tellExpired slot x .unbooked u)
  obtain ⟨kept, journal, image, freed, folio, called⟩ := told.endHold ended
  obtain ⟨ns, tx⟩ := (told.notified.trans ended.notified).tx
  rw [ends, if_neg nofun, failCommit_orphaned (by rw [left.body]; exact body) orphaned]
  refine ⟨kept, journal, image, freed, folio, called, ⟨ns, tx⟩, fun room => ?_⟩
  obtain ⟨ms, after⟩ := ended.notified.tx
  have free : u.NoticeRoom 1 := by
    unfold State.NoticeRoom at *
    omega
  have sent : tellExpired slot x .unbooked u = u.transmits [.notice (.holdExpired (holdNumber slot (s.holdSlot slot).reuse) x.portal
      x.card x.person x.folio x.total x.alcohol s.clock.shipTime .unbooked)] := by
    unfold tellExpired
    rw [left.body, clock, notify_room _ _ free]
  rw [after, sent]
  simp

/-- One that fails otherwise: its hold is HELD again, with the time it had left (R154). -/
theorem append_back (queue : s.store.queue = .entry slot a awaits :: rest) (body : (s.holdSlot slot).body = .committing x c)
    (awaited : c.orphaned = false) (time : s.clock.isSet = false ∨ (0 < c.remaining ∧ s.clock.shipTime < maxTime)) :
    let t := endWrite (.entry slot a awaits) ⟨.entry place e next, second⟩ false s
    AppendKept slot x rest s t ∧ t.journal.entries = s.journal.entries ∧ t.image.entries = s.image.entries ∧
    t.folio x.folio = s.folio x.folio ∧ t.cards = s.cards ∧
    t.holdSlot slot = { s.holdSlot slot with body := .held x (min maxTime (s.clock.shipTime + c.remaining)) } ∧
    ∃ ns : List Notice, t.link.tx = s.link.tx ++ ns.map Frame.notice ++ appendAnswer c awaits
      (.plain .storeFault [.n1 (holdNumber slot (s.holdSlot slot).reuse)]) := by
  obtain ⟨u, ends, left, _⟩ := endWrite_append (place := place) (e := e) (next := next) (second := second) false queue
  have blocks := left.blocks
  simp only [Prod.mk.injEq] at blocks
  obtain ⟨clock, _, _, _, cards, purse⟩ := blocks
  obtain ⟨ns, tx⟩ := left.notified.tx
  rw [ends, if_neg nofun, failCommit_back (by rw [left.body]; exact body) awaited, left.body, clock]
  obtain ⟨l, r, answered, tx'⟩ := replyWaiting_shape awaits (.plain .storeFault [.n1 (holdNumber slot (s.holdSlot slot).reuse)])
    (u.setHoldSlot slot { s.holdSlot slot with body := .held x (min maxTime (s.clock.shipTime + c.remaining)) })
  have slot' (m : Nat) := State.setHoldSlot_holdSlot (s := u) slot m
    { s.holdSlot slot with body := .held x (min maxTime (s.clock.shipTime + c.remaining)) }
  have notDue : ¬ holdDue (replyWaiting awaits (.plain .storeFault [.n1 (holdNumber slot (s.holdSlot slot).reuse)])
      (u.setHoldSlot slot { s.holdSlot slot with body := .held x (min maxTime (s.clock.shipTime + c.remaining)) })) slot = true := by
    have held := congrArg HoldSlot.body ((slot' slot).trans (if_pos rfl))
    rw [answered, holdDue_held (s := ((u.setHoldSlot slot _).withLink l).withFrc r) held]
    change ¬ (u.clock.isSet && min maxTime (s.clock.shipTime + c.remaining) ≤ u.clock.shipTime) = true
    rw [clock]
    rcases time with unset | ⟨left, below⟩
    · simp [unset]
    · simp [Nat.not_le.2 below, Nat.pos_iff_ne_zero.1 left]
  rw [expireIfDue_notDue notDue, answered]
  obtain ⟨kept, journal, image⟩ := left.kept (x := x) (slot := slot) (t := ((u.setHoldSlot slot { s.holdSlot slot with
    body := .held x (min maxTime (s.clock.shipTime + c.remaining)) }).withLink l).withFrc r) rfl
    (fun m other => (slot' m).trans (if_neg other)) fun _ _ => rfl
  refine ⟨kept, journal, image, show u.folio x.folio = s.folio x.folio from
    congrArg (fun p : Purse => Table.read defaultFolio p.folios x.folio) purse, cards,
    (slot' slot).trans (if_pos rfl), ns, ?_⟩
  rw [appendAnswer, awaited]
  exact tx'.trans (by rw [State.setHoldSlot_link, tx]; rfl)

end AppendEnds

end Sys2Proof.Machine

namespace Sys2Proof.Machine

open Sys2Proof

/-! ## The end of a record write (R108) -/

/-- The replies that a record write which has ended gives its waiters, in their order (R108). -/
def recordAnswers (stored : Bool) (ws : List MusterWaiter) : List Frame :=
  ws.map fun w => .reply w.id (.plain .done [.n4 w.number, .n1 (yesCode stored)]) 0

/-- The emergency unit's part that says which requests wait for a record write, and with which number. -/
def Emergency.waits (e : Emergency) : List (ReqId × Nat) := e.waiters.map fun w => (w.id, w.number)

section RecordWrites

variable {s t u : State} {rest : List StoreReq} {r : MusterRecord} {second ok : Bool}

theorem answers_shape (stored : Bool) (ws : List MusterWaiter) (s : State) : ∃ l,
    ws.foldl (fun s w => answer w.id .done [.n4 w.number, .n1 (yesCode stored)] s) s = s.withLink l ∧
      l.tx = s.link.tx ++ recordAnswers stored ws := by
  induction ws generalizing s with
  | nil => exact ⟨s.link, rfl, (List.append_nil _).symm⟩
  | cons w ws ih =>
    obtain ⟨l, shape, tx⟩ := ih (answer w.id .done [.n4 w.number, .n1 (yesCode stored)] s)
    rw [answer_eq] at shape tx
    exact ⟨l, by rw [List.foldl_cons, answer_eq, shape]; rfl, tx.trans (List.append_assoc ..)⟩

/-- The requests whose changes the write carried are answered; the others wait on. -/
theorem answerCarried_shape (stored : Bool) (s : State) : ∃ l, answerCarried stored s =
    (s.withEmu { s.emu with waiters := s.emu.waiters.filter fun w => !w.carried }).withLink l ∧
      l.tx = s.link.tx ++ recordAnswers stored (s.emu.waiters.filter (·.carried)) :=
  answers_shape stored _ (s.withEmu { s.emu with waiters := s.emu.waiters.filter fun w => !w.carried })

/-- A record write that finds room is queued, or one is queued already (R108). -/
theorem queueRecord_shape (room : s.store.queue.length < 8) : ∃ w retry waiters,
    waiters.map (fun w : MusterWaiter => (w.id, w.number)) = s.emu.waits ∧
    Marks ((s.withEmu { s.emu with outstanding := true, retry := retry, waiters := waiters }).withStore { s.store with
      queue := if .muster ∈ s.store.queue then s.store.queue else s.store.queue ++ [.muster], write := w }) (queueRecord s) := by
  by_cases here : .muster ∈ s.store.queue
  · rw [queueRecord_queued here, if_pos here]
    exact ⟨s.store.write, s.emu.retry, s.emu.waiters, rfl, .refl _⟩
  · rw [queueRecord_room here room, if_neg here]
    obtain ⟨w, v, began, marks⟩ := enqueue_begins .muster (s.withEmu { s.emu with outstanding := true, retry := none })
    rcases began with rfl | rfl
    · exact ⟨w, none, s.emu.waiters, rfl, marks⟩
    · exact ⟨w, none, s.emu.waiters.map fun w : MusterWaiter => { w with carried := true }, by simp [Emergency.waits, Function.comp_def], marks⟩

/-- What the end of a record write leaves, whatever becomes of its record (R108). -/
structure RecordEnded (r : MusterRecord) (rest : List StoreReq) (ok : Bool) (s t : State) : Prop where
  muster : t.image.muster = if ok then some r else s.image.muster
  image : { t.image with muster := none, marker := none } = { s.image with muster := none, marker := none }
  record : t.emu.record = s.emu.record
  waits : t.emu.waits = (s.emu.waiters.filter fun w => !w.carried).map fun w => (w.id, w.number)
  told : ∃ ns ms : List Notice, t.link.tx = s.link.tx ++ ns.map Frame.notice ++
    recordAnswers ok (s.emu.waiters.filter (·.carried)) ++ ms.map Frame.notice
  stands : s.emu.record = r → t.store.queue = rest ∧ t.store.write = none ∧ t.emu.outstanding = (s.emu.outstanding && !ok) ∧
    t.emu.retry = if ok then s.emu.retry else some (s.now + 60000)
  changed : s.emu.record ≠ r → t.emu.outstanding = true ∧ t.store.queue = if .muster ∈ rest then rest else rest ++ [.muster]
  others : (t.now, t.pins, t.clock, t.cards, t.ptu, t.roll, t.purse, t.journal) =
    (s.now, s.pins, s.clock, s.cards, s.ptu, s.roll, s.purse, s.journal)

/-- The end of a record write whose request has left the queue. -/
theorem endRecordWrite_ended (emu : u.emu = s.emu) (left : u.store.queue = rest ∧ u.store.write = none) (few : rest.length < 8)
    (muster : u.image.muster = if ok then some r else s.image.muster)
    (image : { u.image with muster := none, marker := none } = { s.image with muster := none, marker := none })
    (notified : Notified s.link u.link) (others : (u.now, u.pins, u.clock, u.cards, u.ptu, u.roll, u.purse, u.journal) =
      (s.now, s.pins, s.clock, s.cards, s.ptu, s.roll, s.purse, s.journal)) : RecordEnded r rest ok s (endRecordWrite r ok u) := by
  obtain ⟨ns, tx⟩ := notified.tx
  obtain ⟨l, answered, tx'⟩ := answerCarried_shape ok u
  rw [tx, emu] at tx'
  have told : (answerCarried ok u).link.tx = _ := (congrArg (fun v : State => v.link.tx) answered).trans tx'
  have waiting : (answerCarried ok u).emu = { s.emu with waiters := s.emu.waiters.filter fun w => !w.carried } := by
    rw [answered, emu]
    rfl
  have store : (answerCarried ok u).store = u.store := by rw [answered]; rfl
  have stored : (answerCarried ok u).image = u.image := by rw [answered]; rfl
  have rest' : ((answerCarried ok u).now, (answerCarried ok u).pins, (answerCarried ok u).clock, (answerCarried ok u).cards,
      (answerCarried ok u).ptu, (answerCarried ok u).roll, (answerCarried ok u).purse, (answerCarried ok u).journal) =
        (s.now, s.pins, s.clock, s.cards, s.ptu, s.roll, s.purse, s.journal) := by
    rw [answered]
    exact others
  unfold endRecordWrite
  generalize answerCarried ok u = v at *
  rw [← stored] at muster image
  rw [← store] at left
  have now : v.now = s.now := congrArg Prod.fst rest'
  by_cases same : s.emu.record = r
  · have stays : (if v.emu.record ≠ r then queueRecord v else if ok then v.withEmu { v.emu with outstanding := false }
        else v.withEmu { v.emu with retry := some (v.now + 60000) }) = v.withEmu { s.emu with
          waiters := s.emu.waiters.filter fun w => !w.carried, outstanding := s.emu.outstanding && !ok
          retry := if ok then s.emu.retry else some (s.now + 60000) } := by
      cases ok <;> simp [waiting, same, now]
    dsimp only
    rw [stays]
    exact ⟨muster, image, rfl, rfl, ⟨ns, [], told.trans (List.append_nil _).symm⟩, fun _ => ⟨left.1, left.2, rfl, rfl⟩,
      fun ne => (ne same).elim, rest'⟩
  · dsimp only
    rw [if_pos (by rw [waiting]; exact same)]
    obtain ⟨w, retry, waiters, waits, m, k, fr, cs, d, notified', again⟩ := queueRecord_shape (s := v)
      (by rw [left.1]; exact few)
    obtain ⟨ms, tx''⟩ := notified'.tx
    have record : v.emu.record = s.emu.record := by rw [waiting]
    have left' := waits.trans (congrArg Emergency.waits waiting)
    have queue := congrArg (fun q : List StoreReq => if .muster ∈ q then q else q ++ [.muster]) left.1
    rw [again]
    exact ⟨muster, image, record, left', ⟨ns, ms, tx''.trans (congrArg (· ++ _) told)⟩, fun eq => (same eq).elim,
      fun _ => ⟨rfl, queue⟩, rest'⟩

theorem endWrite_record (queue : s.store.queue = .muster :: rest) (room : s.store.queue.length ≤ 8) (second ok : Bool) :
    RecordEnded r rest ok s (endWrite .muster ⟨.muster r, second⟩ ok s) := by
  obtain ⟨u, ends, ⟨m, l, fr, cs, d, notified, rfl⟩, _⟩ := endWrite_shape .muster ⟨.muster r, second⟩ ok s
  have left : (s.store.ended ⟨.muster r, second⟩ ok).queue = rest := congrArg (List.drop 1) queue
  have few : rest.length < 8 := by rw [queue] at room; exact room
  rw [ends]
  refine endRecordWrite_ended rfl ⟨left, rfl⟩ few ?_ ?_ notified rfl
  · cases ok <;> rfl
  · cases ok <;> rfl

end RecordWrites

/-- Settles O42. -/
theorem attemptsEnd : Obligations.AttemptsEnd := by
  refine ⟨fun s ok supply => ⟨fun idle => ?_, ?_⟩, ?_, ?_⟩
  · rw [exec_attemptEnd supply, attemptEnd_idle idle]
  · intro r rest content second choice choices queue write given even drawn
    simp only [exec_attemptEnd supply]
    refine ⟨fun first => ?_, ?_⟩
    · rw [attemptEnd_again queue write first, secondAttempt_agrees given even]
    · rintro d rfl rfl rfl
      refine ⟨congrArg _ (dayWrite_completes queue write given even), fun again new => ?_⟩
      subst again
      exact congrArg _ (dayWrite_fails queue write given even new)
  · intro s slot place a awaits rest e next second x c supply _ _ queue write body f number ended kept unbooked called answers
    have named : holdNumber slot (s.holdSlot slot).reuse = number := by
      simp only [number, holdNumber]
      omega
    simp only [exec_attemptEnd supply]
    refine ⟨⟨_, rfl, ?_⟩, fun again awaited time => ⟨_, rfl, ?_⟩, fun again orphaned => ⟨_, rfl, ?_⟩⟩
    · rw [attemptEnd_ends queue write (.inl rfl)]
      obtain ⟨kept, journal, image, freed, folio, called, told⟩ := append_completes (place := place) (e := e) (next := next)
        (second := second) queue body
      rw [named] at told
      refine ⟨kept, journal, ?_, fun q other => ?_, freed, folio, called, told⟩
      · rw [image, Table.read_write_same]
      · rw [image, Table.read_write_other _ _ _ other]
    · rw [attemptEnd_ends queue write (.inr again)]
      obtain ⟨kept, journal, image, folio, cards, held, told⟩ := append_back (place := place) (e := e) (next := next)
        (second := second) queue body awaited time
      rw [named] at told
      exact ⟨kept, ⟨journal, image⟩, folio, cards, held, told⟩
    · rw [attemptEnd_ends queue write (.inr again)]
      obtain ⟨kept, journal, image, freed, folio, called, ⟨ns, tx⟩, told⟩ := append_released (place := place) (e := e) (next := next)
        (second := second) queue body orphaned
      rw [named] at told
      exact ⟨kept, ⟨journal, image⟩, freed, folio, called, ⟨ns, by rw [tx, if_pos orphaned, List.append_nil]⟩, told⟩
  · intro s rest r second ok supply queue room write ends left
    obtain ⟨muster, image, record, waits, told, stands, changed, others⟩ := endWrite_record (r := r) queue room second ok
    rw [exec_attemptEnd supply, attemptEnd_ends queue write ends]
    exact ⟨_, rfl, muster, image, record, waits, told, stands, changed, others⟩

end Sys2Proof.Machine

namespace Sys2Proof.Machine

open Sys2Proof

/-! ## What the scan reads in the image (R164, R175) -/

section Lists

variable {e x : JournalEntry} {l : List JournalEntry} {img : Image} {r : EntryRecord} {α : Type} {k : Nat} {v d : α} {t : Table α}

/-- In a canonical table the record listed under a number is what the number reads as. -/
theorem Table.read_of_mem [DecidableEq α] (wf : Table.wf d t = true) (listed : (k, v) ∈ t) : Table.read d t k = v := by
  have rising := ((Table.wf_iff d t).1 wf).2
  clear wf
  induction t with
  | nil => cases listed
  | cons p t ih =>
    rw [List.pairwise_cons] at rising
    rw [Table.read_cons]
    rcases List.mem_cons.1 listed with rfl | later
    · exact if_pos rfl
    · rw [if_neg (Nat.ne_of_lt (rising.1 _ later))]
      exact ih later rising.2

@[simp] theorem mem_insertEntry : x ∈ insertEntry e l ↔ x = e ∨ x ∈ l := by
  induction l with
  | nil => simp [insertEntry]
  | cons y l ih =>
    unfold insertEntry
    split
    · simp
    · simp only [List.mem_cons, ih]
      exact or_left_comm

theorem insertEntry_ascends (ascends : l.Pairwise (·.seq ≤ ·.seq)) : (insertEntry e l).Pairwise (·.seq ≤ ·.seq) := by
  induction l with
  | nil => exact List.pairwise_singleton ..
  | cons y l ih =>
    obtain ⟨least, rest⟩ := List.pairwise_cons.1 ascends
    unfold insertEntry
    split
    · rename_i below
      refine List.pairwise_cons.2 ⟨fun z listed => ?_, ascends⟩
      rcases List.mem_cons.1 listed with rfl | later
      · exact below.le
      · exact below.le.trans (least z later)
    · rename_i above
      refine List.pairwise_cons.2 ⟨fun z listed => ?_, ih rest⟩
      rcases mem_insertEntry.1 listed with rfl | later
      · exact Nat.le_of_not_lt above
      · exact least z later

@[simp] theorem mem_foldr_insertEntry : x ∈ l.foldr insertEntry [] ↔ x ∈ l := by
  induction l with
  | nil => rfl
  | cons y l ih => simp [ih]

theorem foldr_insertEntry_ascends (l : List JournalEntry) : (l.foldr insertEntry []).Pairwise (·.seq ≤ ·.seq) := by
  induction l with
  | nil => exact .nil
  | cons y l ih => exact insertEntry_ascends ih

theorem scannedJournal_ascends (img : Image) : (scannedJournal img).Pairwise (·.seq ≤ ·.seq) := foldr_insertEntry_ascends _

theorem mem_storedEntries (wf : Table.wf none img.entries = true) :
    r ∈ storedEntries img ↔ ∃ place, Table.read none img.entries place = some r := by
  simp only [storedEntries, List.mem_filterMap, Prod.exists, exists_eq_right]
  refine exists_congr fun place => ⟨Table.read_of_mem wf, fun read => ?_⟩
  have listed := Table.read_mem none img.entries place
  rw [read] at listed
  exact listed.resolve_left nofun

theorem mem_scannedJournal (wf : Table.wf none img.entries = true) : e ∈ scannedJournal img ↔
    ∃ place r, Table.read none img.entries place = some r ∧ r.entry = e ∧ img.settledThrough < e.seq := by
  simp only [scannedJournal, mem_foldr_insertEntry, List.mem_filter, List.mem_map, mem_storedEntries wf, decide_eq_true_eq]
  constructor
  · rintro ⟨⟨r, ⟨place, read⟩, entry⟩, above⟩
    exact ⟨place, r, read, entry, above⟩
  · rintro ⟨place, r, read, entry, above⟩
    exact ⟨⟨r, ⟨place, read⟩, entry⟩, above⟩

/-- The largest of two numbers of each record and a number to begin with. -/
theorem foldl_max (f g : α → Nat) (l : List α) (base : Nat) :
    let largest := l.foldl (fun m r => max m (max (f r) (g r))) base
    (largest = base ∨ ∃ r ∈ l, largest = f r ∨ largest = g r) ∧ base ≤ largest ∧ ∀ r ∈ l, f r ≤ largest ∧ g r ≤ largest := by
  induction l generalizing base with
  | nil => exact ⟨.inl rfl, le_rfl, nofun⟩
  | cons r l ih =>
    obtain ⟨which, above, bounds⟩ := ih (max base (max (f r) (g r)))
    dsimp only [List.foldl_cons] at which above bounds ⊢
    refine ⟨?_, (le_max_left ..).trans above, List.forall_mem_cons.2 ⟨by omega, bounds⟩⟩
    rcases which with same | ⟨q, listed, same⟩
    · rw [same]
      have first : max base (max (f r) (g r)) = base ∨ max base (max (f r) (g r)) = f r ∨ max base (max (f r) (g r)) = g r := by omega
      exact first.imp_right fun own => ⟨r, List.mem_cons_self, own⟩
    · exact .inr ⟨q, List.mem_cons_of_mem _ listed, same⟩

/-- A number the image holds or names (R175). -/
def Image.Names (img : Image) (k : Nat) : Prop :=
  k = img.settledThrough ∨ (∃ place r, Table.read none img.entries place = some r ∧
    (k = r.entry.seq ∨ k = (r.next.map (· - 1)).getD 4294967295)) ∨ img.marker = some ⟨.entry, k⟩

/-- The number of an entry that the marker names takes part, and the settled-through value (R175). -/
theorem largestNumber_eq (img : Image) : ∃ named, (named = 0 ∨ img.marker = some ⟨.entry, named⟩) ∧
    (∀ k, img.marker = some ⟨.entry, k⟩ → k = named) ∧ largestNumber img = (storedEntries img).foldl
      (fun m r => max m (max r.entry.seq ((r.next.map (· - 1)).getD 4294967295))) (max img.settledThrough named) := by
  have next (r : EntryRecord) : r.next.elim maxTime (· - 1) = (r.next.map (· - 1)).getD 4294967295 := by cases r.next <;> rfl
  unfold largestNumber
  simp only [next]
  split
  · rename_i n marker
    exact ⟨n, .inr marker, fun k other => by rw [marker] at other; cases other; rfl, rfl⟩
  · rename_i other
    exact ⟨0, .inl rfl, fun k marker => (other k marker).elim, rfl⟩

/-- The scan's number is the largest of them (R175, point 3). -/
theorem largestNumber_largest (wf : Table.wf none img.entries = true) :
    img.Names (largestNumber img) ∧ ∀ k, img.Names k → k ≤ largestNumber img := by
  obtain ⟨named, given, only, largest⟩ := largestNumber_eq img
  obtain ⟨which, above, bounds⟩ := foldl_max (fun r : EntryRecord => r.entry.seq)
    (fun r => (r.next.map (· - 1)).getD 4294967295) (storedEntries img) (max img.settledThrough named)
  rw [← largest] at which above bounds
  refine ⟨?_, ?_⟩
  · rcases which with base | ⟨r, listed, own⟩
    · rcases given with none | marker
      · exact .inl (by omega)
      · rcases le_total named img.settledThrough with below | beyond
        · exact .inl (by omega)
        · exact .inr (.inr (by rw [base, max_eq_right beyond]; exact marker))
    · obtain ⟨place, read⟩ := (mem_storedEntries wf).1 listed
      exact .inr (.inl ⟨place, r, read, own⟩)
  · rintro k (rfl | ⟨place, r, read, rfl | rfl⟩ | marker)
    · exact (le_max_left ..).trans above
    · exact (bounds r ((mem_storedEntries wf).2 ⟨place, read⟩)).1
    · exact (bounds r ((mem_storedEntries wf).2 ⟨place, read⟩)).2
    · exact only k marker ▸ (le_max_right ..).trans above

/-- The next number, where there is one, is above every number the image holds. -/
theorem scanned_next (wf : Table.wf none img.entries = true) {next : Nat} (some : nextAfter (largestNumber img) = some next) :
    img.settledThrough < next ∧ ∀ e ∈ scannedJournal img, e.seq < next := by
  obtain ⟨_, bounds⟩ := largestNumber_largest wf
  obtain rfl : next = largestNumber img + 1 := by
    unfold nextAfter at some
    split at some
    · exact (Option.some.inj some).symm
    · cases some
  refine ⟨Nat.lt_succ_of_le (bounds _ (.inl rfl)), fun e listed => Nat.lt_succ_of_le (bounds _ ?_)⟩
  obtain ⟨place, r, read, rfl, _⟩ := (mem_scannedJournal wf).1 listed
  exact .inr (.inl ⟨place, r, read, .inl rfl⟩)

end Lists

end Sys2Proof.Machine

namespace Sys2Proof.Machine

open Sys2Proof

/-! ## The slots that the scan restores (R94, R117) -/

section Slots

variable {s t : State} {f : SlotRecord → PersonSlot} {l : Table SlotRecord} {n : Nat} {r : SlotRecord}

/-- Each record's slot is set, in the order of the listing. -/
def restoreSlots (f : SlotRecord → PersonSlot) (l : Table SlotRecord) (s : State) : State :=
  l.foldl (fun s p => setPerson p.1 (f p.2) s) s

/-- The muster record is taken up, with its cause (R117). -/
def takeRecord (s : State) : State := s.withEmu { s.emu with
  record := s.image.muster.getD ⟨false, 0, 0⟩
  cause := if (s.image.muster.getD ⟨false, 0, 0⟩).active then some .alarm else none }

theorem scanSlots_eq (s : State) : scanSlots s =
    restoreSlots (restoredSlot (s.image.muster.getD ⟨false, 0, 0⟩)) s.image.slots (takeRecord s) := rfl

/-- A slot that is set leaves all but the slots and the counts of the roll and of the muster. -/
theorem setPerson_shape (n : Nat) (new : PersonSlot) (s : State) : ∃ slots a b c d stations mustered, setPerson n new s =
    (s.withRoll { s.roll with slots := slots, aboardGuests := a, aboardCrew := b, ashoreGuests := c, ashoreCrew := d }).withEmu
      { s.emu with stations := stations, mustered := mustered } := by
  obtain ⟨a, b, c, d, counts⟩ := recount_shape s.roll (s.person n) new
  obtain ⟨stations, mustered, marks⟩ := remark_shape s.emu (s.person n) new
  refine ⟨Table.write defaultSlot n new s.roll.slots, a, b, c, d, stations, mustered, ?_⟩
  unfold setPerson
  dsimp only
  rw [marks, State.withEmu_roll, counts]
  rfl

theorem restoreSlots_shape (f : SlotRecord → PersonSlot) (l : Table SlotRecord) (s : State) :
    ∃ slots a b c d stations mustered, restoreSlots f l s =
      (s.withRoll { s.roll with slots := slots, aboardGuests := a, aboardCrew := b, ashoreGuests := c, ashoreCrew := d }).withEmu
        { s.emu with stations := stations, mustered := mustered } := by
  induction l generalizing s with
  | nil => exact ⟨_, _, _, _, _, _, _, rfl⟩
  | cons p l ih =>
    obtain ⟨slots, a, b, c, d, stations, mustered, others⟩ := ih (setPerson p.1 (f p.2) s)
    obtain ⟨_, _, _, _, _, _, _, one⟩ := setPerson_shape p.1 (f p.2) s
    rw [one] at others
    exact ⟨slots, a, b, c, d, stations, mustered, (congrArg (restoreSlots f l) one).trans others⟩

theorem setPerson_person_same (n : Nat) (new : PersonSlot) (s : State) : (setPerson n new s).person n = new :=
  Table.read_write_same ..

theorem setPerson_person_other {m : Nat} (new : PersonSlot) (s : State) (other : m ≠ n) :
    (setPerson n new s).person m = s.person m := Table.read_write_other _ _ _ other

theorem restoreSlots_unlisted (unlisted : ∀ p ∈ l, p.1 ≠ n) : (restoreSlots f l s).person n = s.person n := by
  induction l generalizing s with
  | nil => rfl
  | cons p l ih =>
    obtain ⟨first, rest⟩ := List.forall_mem_cons.1 unlisted
    exact (ih rest).trans (setPerson_person_other _ _ first.symm)

theorem restoreSlots_listed (rising : l.Pairwise (·.1 < ·.1)) (listed : (n, r) ∈ l) : (restoreSlots f l s).person n = f r := by
  induction l generalizing s with
  | nil => cases listed
  | cons p l ih =>
    obtain ⟨first, rest⟩ := List.pairwise_cons.1 rising
    rcases List.mem_cons.1 listed with rfl | later
    · exact (restoreSlots_unlisted fun q listed => (first q listed).ne').trans (setPerson_person_same ..)
    · exact ih rest later

/-- From an empty roll every slot is what its record in the image restores (R94). -/
theorem restoreSlots_person (wf : Table.wf defaultSlotRecord l = true) (default : f defaultSlotRecord = defaultSlot)
    (empty : s.roll.slots = []) (n : Nat) : (restoreSlots f l s).person n = f (Table.read defaultSlotRecord l n) := by
  by_cases listed : ∃ r, (n, r) ∈ l
  · obtain ⟨r, listed⟩ := listed
    rw [Table.read_of_mem wf listed]
    exact restoreSlots_listed ((Table.wf_iff _ _).1 wf).2 listed
  · rw [(Table.read_mem defaultSlotRecord l n).resolve_right fun own => listed ⟨_, own⟩, default,
      restoreSlots_unlisted (by rintro p own rfl; exact listed ⟨p.2, own⟩)]
    unfold State.person
    rw [empty]
    rfl

theorem restoredSlot_default (m : MusterRecord) : restoredSlot m defaultSlotRecord = defaultSlot := by
  unfold restoredSlot
  simp [defaultSlotRecord, defaultSlot]

/-- The slots' part of the scan: the muster record is the image's and each slot what its record restores (R94, R117). -/
theorem scanSlots_shape (wf : Table.wf defaultSlotRecord s.image.slots = true) (empty : s.roll.slots = []) : ∃ x y,
    scanSlots s = (s.withRoll x).withEmu y ∧ y.record = s.image.muster.getD ⟨false, 0, 0⟩ ∧
    ∀ n, Table.read defaultSlot x.slots n =
      restoredSlot (s.image.muster.getD ⟨false, 0, 0⟩) (Table.read defaultSlotRecord s.image.slots n) := by
  have persons := restoreSlots_person (f := restoredSlot (s.image.muster.getD ⟨false, 0, 0⟩)) (s := takeRecord s)
    wf (restoredSlot_default _) empty
  obtain ⟨slots, a, b, c, d, stations, mustered, shape⟩ := restoreSlots_shape
    (restoredSlot (s.image.muster.getD ⟨false, 0, 0⟩)) s.image.slots (takeRecord s)
  rw [shape] at persons
  exact ⟨_, { (takeRecord s).emu with stations := stations, mustered := mustered }, (scanSlots_eq s).trans shape, rfl, persons⟩

/-- The voyage day as the scan takes it (R39). -/
theorem scanDay_eq (s : State) : scanDay s = s.withClock { s.clock with
    day := max (s.image.day.getD 0) ((s.journal.entries.getLast?.map (·.day)).getD 0) } := by
  have last : s.journal.entries.getLast?.elim 0 (·.day) = (s.journal.entries.getLast?.map (·.day)).getD 0 := by
    cases s.journal.entries.getLast? <;> rfl
  rw [← last]
  rfl

/-- The scan up to the marker: the journal, the slots, the muster record and the day are rebuilt from the image (R175, R184). -/
theorem scanned_shape (wf : Table.wf defaultSlotRecord s.image.slots = true) (empty : s.roll.slots = []) : ∃ x y,
    scanDay (scanSlots (scanJournal s)) = (((scanJournal s).withRoll x).withEmu y).withClock { s.clock with
      day := max (s.image.day.getD 0) (((scannedJournal s.image).getLast?.map (·.day)).getD 0) } ∧
    y.record = s.image.muster.getD ⟨false, 0, 0⟩ ∧ ∀ n, Table.read defaultSlot x.slots n =
      restoredSlot (s.image.muster.getD ⟨false, 0, 0⟩) (Table.read defaultSlotRecord s.image.slots n) := by
  obtain ⟨x, y, shape, record, persons⟩ := scanSlots_shape (s := scanJournal s) wf empty
  exact ⟨x, y, by rw [shape, scanDay_eq]; rfl, record, persons⟩

end Slots
end Sys2Proof.Machine

namespace Sys2Proof.Machine

open Sys2Proof

/-! ## The scan's marker (R180, R185) -/

/-- A notice or a report does the same to the link and the recorder of either state. -/
structure Alike (s t : State) : Prop where
  link : t.link = s.link
  frc : t.frc = s.frc
  pins : t.pins = s.pins
  time : t.clock.shipTime = s.clock.shipTime

/-- At most so many notices join the transmit queue, and nothing else changes but the link. -/
def Sends (k : Nat) (s t : State) : Prop := ∃ l, ∃ ns : List Notice, ns.length ≤ k ∧ t = s.withLink l ∧
  l.tx = s.link.tx ++ ns.map Frame.notice

section Marker

variable {s t u : State} {k : Nat}

theorem Alike.trans (x : Alike s t) (y : Alike t u) : Alike s u :=
  ⟨y.link.trans x.link, y.frc.trans x.frc, y.pins.trans x.pins, y.time.trans x.time⟩

theorem Alike.pushFrame (x : Alike s t) (f : Frame) : Alike (pushFrame f s) (pushFrame f t) := by
  obtain ⟨link, frc, pins, time⟩ := x
  rw [pushFrame_eq, pushFrame_eq]
  exact ⟨by simp [link, pins], frc, pins, time⟩

theorem Alike.report (x : Alike s t) (k : FaultKind) (f : FaultFields) : Alike (report k f s) (report k f t) := by
  have taken : Alike (s.withFrc (s.frc.take k f s.clock.shipTime)) (t.withFrc (t.frc.take k f t.clock.shipTime)) :=
    ⟨x.link, by simp [x.frc, x.time], x.pins, x.time⟩
  unfold Machine.report
  rw [x.frc, x.time] at taken ⊢
  dsimp only
  split
  · unfold sendFaultNotice noticeRoom
    rw [taken.link]
    split
    · exact taken.pushFrame _
    · exact ⟨rfl, taken.frc, taken.pins, taken.time⟩
  · exact taken

theorem Alike.notify (x : Alike s t) (n : Notice) : Alike (notify n s) (notify n t) := by
  unfold Machine.notify noticeRoom
  rw [x.link]
  split
  · exact x.pushFrame _
  · have flagged : Alike (s.withLink { s.link with noticesLost := true }) (t.withLink { s.link with noticesLost := true }) :=
      ⟨rfl, x.frc, x.pins, x.time⟩
    exact flagged.report ..

/-- An interrupted marker is told: STORE-INTERRUPTED, and the fault (R185). -/
def tellInterrupted (m : Marker) (s : State) : State :=
  report .storeInterrupted { person := if m.kind = .slot then some m.id else none } (notify (.storeInterrupted m.kind m.id) s)

theorem Alike.tellInterrupted (x : Alike s t) (m : Marker) : Alike (tellInterrupted m s) (tellInterrupted m t) :=
  (x.notify _).report ..

theorem marks_tellInterrupted (m : Marker) (s : State) : Marks s (tellInterrupted m s) :=
  (notes_notify s _).marks.trans (notes_report _ _ _).marks

theorem tellInterrupted_kept (m : Marker) (s : State) :
    (tellInterrupted m s).choices = s.choices ∧ (tellInterrupted m s).image = s.image := by
  obtain ⟨l, r, first⟩ := tells_notify s (.storeInterrupted m.kind m.id)
  obtain ⟨l', r', second⟩ := tells_report (notify (.storeInterrupted m.kind m.id) s) .storeInterrupted
    { person := if m.kind = .slot then some m.id else none }
  unfold tellInterrupted
  rw [second, first]
  exact ⟨rfl, rfl⟩

theorem scanMarker_none (none : s.image.marker = none) : scanMarker s = s := by simp [scanMarker, none]

theorem scanMarker_some {m : Marker} (held : s.image.marker = some m) :
    scanMarker s = writeMarker none (tellInterrupted m s) := by simp [scanMarker, held, tellInterrupted]

theorem marks_scanMarker (s : State) : Marks s (scanMarker s) := by
  cases held : s.image.marker with
  | none => rw [scanMarker_none held]; exact .refl s
  | some m => rw [scanMarker_some held]; exact (marks_tellInterrupted m s).trans (marks_writeMarker ..)

theorem notify_waiting (n : Notice) (s : State) : noticesWaiting (notify n s).link.tx ≤ noticesWaiting s.link.tx + 1 := by
  by_cases room : s.NoticeRoom 1
  · rw [notify_room s n room]
    exact (noticesWaiting_append ..).le
  · rw [notify_full s n room]
    exact report_waiting ..

theorem scanMarker_waiting (s : State) : noticesWaiting (scanMarker s).link.tx ≤ noticesWaiting s.link.tx + 3 := by
  cases held : s.image.marker with
  | none => rw [scanMarker_none held]; exact Nat.le_add_right ..
  | some m =>
    rw [scanMarker_some held]
    have told := notify_waiting (.storeInterrupted m.kind m.id) s
    have reported := report_waiting (s := notify (.storeInterrupted m.kind m.id) s) .storeInterrupted
      { person := if m.kind = .slot then some m.id else none }
    exact (writeMarker_waiting ..).trans (Nat.succ_le_succ (reported.trans (Nat.succ_le_succ told)))

/-- The marker's two tries: it is written unless both disagree, which is a STORE-FAULT (R180). -/
theorem writeMarker_tries {one two : Nat} {choices : List Nat} (m : Option Marker) (given : s.choices = one :: two :: choices) :
    (writeMarker m s).image.marker = (if one % 2 = 0 ∨ two % 2 = 0 then m else s.image.marker) ∧
    Alike (if one % 2 = 0 ∨ two % 2 = 0 then s else report .storeFault {} s) (writeMarker m s) := by
  have first : draw s = (one, { s with choices := two :: choices }) := by simp [draw, given]
  have second : draw { s with choices := two :: choices } = (two, { s with choices := choices }) := rfl
  have same : Alike s { s with choices := choices } := ⟨rfl, rfl, rfl, rfl⟩
  unfold writeMarker markerTry
  dsimp only
  rw [first]
  dsimp only
  rw [second]
  dsimp only
  by_cases even : one % 2 = 0
  · simp only [even, true_or, if_true, decide_true]
    exact ⟨rfl, rfl, rfl, rfl, rfl⟩
  by_cases evenToo : two % 2 = 0
  · simp only [even, evenToo, false_or, if_true, decide_true, decide_false, Bool.false_eq_true, if_false]
    exact ⟨rfl, rfl, rfl, rfl, rfl⟩
  · simp only [even, evenToo, false_or, decide_false, Bool.false_eq_true, if_false]
    obtain ⟨l, r, told⟩ := tells_report { s with choices := choices } .storeFault {}
    exact ⟨by rw [told]; rfl, same.report ..⟩

end Marker

/-! ## READY (R184, R206) -/

section Ready

variable {s t u : State} {j k : Nat}

theorem Sends.refl (s : State) : Sends k s s := ⟨s.link, [], Nat.zero_le _, rfl, (List.append_nil _).symm⟩

theorem Sends.trans (x : Sends j s t) (y : Sends k t u) : Sends (j + k) s u := by
  obtain ⟨l, ns, few, rfl, tx⟩ := x
  obtain ⟨m, ms, fewer, rfl, tx'⟩ := y
  refine ⟨m, ns ++ ms, by rw [List.length_append]; omega, rfl, ?_⟩
  rw [tx', State.withLink_link, tx, List.map_append, List.append_assoc]

theorem sends_notify (n : Notice) (room : s.NoticeRoom 1) : Sends 1 s (notify n s) :=
  ⟨_, [n], le_rfl, notify_room s n room, rfl⟩

theorem noticesWaiting_notices (ns : List Notice) : noticesWaiting (ns.map Frame.notice) = ns.length := by
  induction ns with
  | nil => rfl
  | cons n ns ih => exact congrArg Nat.succ ih

theorem Sends.room (x : Sends j s t) (room : s.NoticeRoom (j + k)) : t.NoticeRoom k := by
  obtain ⟨l, ns, few, rfl, tx⟩ := x
  unfold State.NoticeRoom at room ⊢
  rw [State.withLink_link, tx, noticesWaiting_append, noticesWaiting_notices]
  omega

/-- The evaluation of the warning where its notice has room. -/
theorem evalWarning_shape (room : s.NoticeRoom 1) : ∃ standing armed,
    Sends 1 (s.withRoll { s.roll with standing := standing, armed := armed }) (evalWarning s) := by
  unfold evalWarning assertWarning
  dsimp only
  split
  · split
    · exact ⟨_, _, .refl _⟩
    · exact ⟨_, _, .refl _⟩
  split
  · split
    · exact ⟨_, _, sends_notify _ room⟩
    · exact ⟨_, _, .refl _⟩
  · exact ⟨_, _, .refl _⟩

/-- The part enters READY: RESTARTED, and the notices that the rebuilt state calls for, the warning and the filters set. -/
theorem coldReady_shape (room : s.NoticeRoom 3) : ∃ standing armed a b l, ∃ ns : List Notice,
    coldReady s = ((({ s with starting := false } : State).withRoll { s.roll with standing := standing, armed := armed }).withEmu
      { s.emu with lineA := a, lineB := b }).withLink l ∧
    l.tx = s.link.tx ++ .notice (.restarted .power s.check) :: ns.map Frame.notice := by
  have restarted := notify_room { s with starting := false } (.restarted .power s.check) (by unfold State.NoticeRoom at *; dsimp only; omega)
  generalize first : notify (.restarted .power s.check) { s with starting := false } = u at restarted
  have free : u.NoticeRoom 2 := by
    rw [restarted]
    unfold State.NoticeRoom at *
    simp only [State.transmits_link, noticesWaiting_append, noticesWaiting_notice]
    omega
  have told : Sends 1 u (if u.emu.record.active then tellMuster u else u) := by
    split
    · exact sends_notify _ (Nat.le_of_succ_le free)
    · exact .refl u
  generalize second : (if u.emu.record.active then tellMuster u else u) = v at told
  obtain ⟨standing, armed, evaluated⟩ := evalWarning_shape (told.room (k := 1) free)
  have ready : coldReady s = startFilters (evalWarning v) := by unfold coldReady; dsimp only; rw [first, second]
  obtain ⟨l, ns, _, sent, tx⟩ := told
  obtain ⟨l', ns', _, warned, tx'⟩ := evaluated
  refine ⟨standing, armed, s.emu.lineA.sample s.emu.lineA.rawActive s.now, s.emu.lineB.sample s.emu.lineB.rawActive s.now, l',
    ns ++ ns', ?_, ?_⟩
  · rw [ready, warned, sent, restarted]
    rfl
  · rw [tx', State.withRoll_link, sent, State.withLink_link, tx, restarted]
    simp

end Ready

end Sys2Proof.Machine

namespace Sys2Proof.Machine

open Sys2Proof

/-! ## The scan of a cold start (R175, R184, R185) -/

section ScanRebuilt

variable {s t u : State}

/-- The marker that the image holds is told and cleared as from any state alike (R185). -/
theorem scanMarker_told {m : Marker} {one two : Nat} {choices : List Nat} (same : Alike s u) (held : u.image.marker = some m)
    (given : u.choices = one :: two :: choices) :
    (scanMarker u).image.marker = (if one % 2 = 0 ∨ two % 2 = 0 then none else some m) ∧
    Alike (if one % 2 = 0 ∨ two % 2 = 0 then tellInterrupted m s else report .storeFault {} (tellInterrupted m s))
      (scanMarker u) := by
  obtain ⟨choicesKept, imageKept⟩ := tellInterrupted_kept m u
  obtain ⟨marker, spoken⟩ := writeMarker_tries (s := tellInterrupted m u) none (choicesKept.trans given)
  rw [imageKept, held] at marker
  rw [scanMarker_some held]
  refine ⟨marker, Alike.trans ?_ spoken⟩
  split
  · exact same.tellInterrupted m
  · exact (same.tellInterrupted m).report ..

/-- READY after the scan's last step, which is the marker's. -/
theorem coldReady_scanMarker (waiting : noticesWaiting u.link.tx = 0) : ∃ standing armed a b l cs drawn, ∃ ns : List Notice,
    coldReady (scanMarker u) = ((((({ u with starting := false, choices := cs, drawn := drawn } : State).withRoll
      { u.roll with standing := standing, armed := armed }).withEmu { u.emu with lineA := a, lineB := b }).withImage
      { u.image with marker := (scanMarker u).image.marker }).withFrc (scanMarker u).frc).withLink l ∧
    l.tx = (scanMarker u).link.tx ++ .notice (.restarted .power u.check) :: ns.map Frame.notice := by
  have few := scanMarker_waiting u
  obtain ⟨standing, armed, a, b, l, ns, ready, tx⟩ := coldReady_shape (s := scanMarker u) (by unfold State.NoticeRoom; omega)
  obtain ⟨m, link, r, cs, drawn, _, marked⟩ := marks_scanMarker u
  refine ⟨standing, armed, a, b, l, cs, drawn, ns, ?_, ?_⟩
  · rw [ready, marked]
    rfl
  · rw [tx, marked]

/-- What the scan of a cold start leaves (R184). -/
structure Rebuilt (s t : State) : Prop where
  ready : t.starting = false
  journal : t.journal = ⟨scannedJournal s.image, nextAfter (largestNumber s.image), none⟩
  record : t.emu.record = s.image.muster.getD ⟨false, 0, 0⟩
  persons : ∀ n, t.person n =
    restoredSlot (s.image.muster.getD ⟨false, 0, 0⟩) (Table.read defaultSlotRecord s.image.slots n)
  day : t.clock.day = max (s.image.day.getD 0) (((scannedJournal s.image).getLast?.map (·.day)).getD 0)
  image : { t.image with marker := none } = { s.image with marker := none }
  others : t.cards = s.cards ∧ t.ptu = s.ptu ∧ t.purse = s.purse ∧ t.store = s.store
  marked : ∃ u, Alike s u ∧ u.image = s.image ∧ u.choices = s.choices ∧ t.image.marker = (scanMarker u).image.marker ∧
    t.frc = (scanMarker u).frc ∧ ∃ ns : List Notice,
      t.link.tx = (scanMarker u).link.tx ++ .notice (.restarted .power s.check) :: ns.map Frame.notice

theorem storeScan_rebuilds (starting : s.starting = true) (canonical : s.Canonical) (empty : s.roll.slots = [])
    (silent : s.link.tx = []) : Rebuilt s (storeScan s) := by
  have scan : storeScan s = coldReady (scanMarker (scanDay (scanSlots (scanJournal s)))) := if_pos starting
  obtain ⟨x, y, shape, record, persons⟩ := scanned_shape canonical.imageSlots empty
  generalize scanDay (scanSlots (scanJournal s)) = u at scan shape
  obtain ⟨j, scanned, rebuilt⟩ : ∃ j, scanJournal s = s.withJournal j ∧
      j = ⟨scannedJournal s.image, nextAfter (largestNumber s.image), none⟩ := ⟨_, rfl, rfl⟩
  rw [scanned] at shape
  have waiting : noticesWaiting u.link.tx = 0 := by
    rw [shape]
    exact congrArg noticesWaiting silent
  obtain ⟨standing, armed, a, b, l, cs, drawn, ns, ready, tx⟩ := coldReady_scanMarker waiting
  have same : Alike s u ∧ u.image = s.image ∧ u.choices = s.choices ∧ u.check = s.check ∧
      u.cards = s.cards ∧ u.ptu = s.ptu ∧ u.purse = s.purse ∧ u.store = s.store := by
    rw [shape]
    exact ⟨⟨rfl, rfl, rfl, rfl⟩, rfl, rfl, rfl, rfl, rfl, rfl, rfl⟩
  have built : u.journal = j ∧ u.emu = y ∧ u.roll = x ∧
      u.clock.day = max (s.image.day.getD 0) (((scannedJournal s.image).getLast?.map (·.day)).getD 0) := by
    rw [shape]
    exact ⟨rfl, rfl, rfl, rfl⟩
  obtain ⟨alike, image, choices, check, others⟩ := same
  obtain ⟨journal, emu, roll, day⟩ := built
  clear shape
  rw [check] at tx
  rw [scan, ready]
  refine ⟨rfl, journal.trans rebuilt, ?_, fun n => ?_, day, ?_, others, u, alike, image, choices, rfl, rfl, ns, tx⟩
  · exact emu ▸ record
  · rw [← persons, ← roll]; rfl
  · rw [← image]; rfl

end ScanRebuilt

/-- Settles O53: the scan up to the marker has a shape of its own, the marker speaks from a state with the same link and recorder,
and READY adds RESTARTED and what follows it. -/
theorem scanRebuilds : Obligations.ScanRebuilds := by
  intro s supply canonical
  have run : exec .storeScan s = .next (storeScan s) := exec_powered rfl supply
  refine ⟨fun ready => by rw [run]; simp [storeScan, ready], fun starting empty silent => ⟨storeScan s, run, ?_⟩⟩
  have rebuilt := storeScan_rebuilds starting canonical empty silent
  have counts := keepsCounts_storeScan s
  generalize storeScan s = t at rebuilt counts
  obtain ⟨ready, journal, record, persons, day, image, ⟨cards, ptu, purse, store⟩, u, alike, imageU, choicesU, marker, frc, ns, tx⟩ :=
    rebuilt
  have entries : t.journal.entries = scannedJournal s.image := congrArg Journal.entries journal
  have next : t.journal.next = nextAfter (largestNumber s.image) := congrArg Journal.next journal
  refine ⟨ready, congrArg Journal.settle journal, ?_, fun e => ?_, fun n some => ?_, record, fun n => ?_, ?_, ?_, image, cards, ptu,
    purse, store, ?_, ?_, ⟨largestNumber s.image, next, largestNumber_largest canonical.imageEntries⟩, fun none => ?_, ?_⟩
  · rw [entries]; exact scannedJournal_ascends _
  · rw [entries]; exact mem_scannedJournal canonical.imageEntries
  · rw [entries]; exact scanned_next canonical.imageEntries (next ▸ some)
  · rw [persons, record]
    unfold restoredSlot
    simp only [Bool.and_eq_true, decide_eq_true_eq, and_assoc]
    rfl
  · rw [day, entries]
  · rw [tx]; exact List.mem_append_right _ List.mem_cons_self
  · exact fun counted => rollOk_iff.1 (counts.roll (rollOk_iff.2 counted))
  · exact fun counted => musterOk_iff.1 (counts.muster (musterOk_iff.2 counted))
  · rw [scanMarker_none (imageU ▸ none)] at marker frc tx
    refine ⟨marker.trans (imageU ▸ none), frc.trans alike.frc, ns, ?_⟩
    rw [tx, alike.link, silent]
    rfl
  · intro m one two choices held given told cleared led
    obtain ⟨left, spoken⟩ := scanMarker_told alike (imageU ▸ held) (choicesU.trans given)
    exact ⟨marker.trans left, frc.trans spoken.frc, ns, by rw [tx, spoken.link]; rfl⟩

end Sys2Proof.Machine

namespace Sys2Proof.Machine

open Sys2Proof

/-! ## What leaves the portals and the condition as they stand (R41, R99): every operation but those of the doors, of the alarm lines and
of the resets

`Portal.Sound` is said of the portals; `State.PortalsSound` adds the condition and whether one of its sources holds. An operation that
leaves all three as they were leaves both, whatever else it does. -/

/-- The portals with their timing sets, the condition, and whether one of its sources holds. -/
def State.doors (s : State) : Portals × Bool × Bool := (s.ptu, s.emu.condition, conditionNow s.emu)

section DoorFrame

variable {s t : State}

/-! ### Blocks -/

@[simp] theorem withLink_doors (x) : (s.withLink x).doors = s.doors := rfl
@[simp] theorem withClock_doors (x) : (s.withClock x).doors = s.doors := rfl
@[simp] theorem withCards_doors (x) : (s.withCards x).doors = s.doors := rfl
@[simp] theorem withRoll_doors (x) : (s.withRoll x).doors = s.doors := rfl
@[simp] theorem withPurse_doors (x) : (s.withPurse x).doors = s.doors := rfl
@[simp] theorem withJournal_doors (x) : (s.withJournal x).doors = s.doors := rfl
@[simp] theorem withStore_doors (x) : (s.withStore x).doors = s.doors := rfl
@[simp] theorem withImage_doors (x) : (s.withImage x).doors = s.doors := rfl
@[simp] theorem withFrc_doors (x) : (s.withFrc x).doors = s.doors := rfl
@[simp] theorem withNow_doors (x) : (s.withNow x).doors = s.doors := rfl
@[simp] theorem reachTime_doors (x) : (reachTime x s).doors = s.doors := rfl
@[simp] theorem setFolio_doors (n x) : (s.setFolio n x).doors = s.doors := rfl
@[simp] theorem setHoldSlot_doors (n x) : (s.setHoldSlot n x).doors = s.doors := rfl
@[simp] theorem setEntry_doors (set way x) : (s.setEntry set way x).doors = s.doors := rfl
@[simp] theorem setPointer_doors (n x) : (s.setPointer n x).doors = s.doors := rfl
@[simp] theorem setWay_doors (n x) : (s.setWay n x).doors = s.doors := rfl
@[simp] theorem setFetch_doors (n x) : (s.setFetch n x).doors = s.doors := rfl

/-- A change of the emergency unit that leaves the lines, the declaration and the condition. -/
@[simp] theorem withEmu_doors (x : Emergency) (lineA : x.lineA = s.emu.lineA) (lineB : x.lineB = s.emu.lineB)
    (declared : x.declared = s.emu.declared) (condition : x.condition = s.emu.condition) : (s.withEmu x).doors = s.doors := by
  simp [State.doors, conditionNow, lineA, lineB, declared, condition]

theorem foldl_doors {α : Type} {f : State → α → State} (step : ∀ u a, (f u a).doors = u.doors) (xs : List α) :
    (xs.foldl f s).doors = s.doors :=
  List.foldlRecOn (motive := fun u => u.doors = s.doors) xs f rfl fun u same a _ => (step u a).trans same

theorem Tells.doors (x : Tells s t) : t.doors = s.doors := by obtain ⟨_, _, rfl⟩ := x; rfl

theorem Says.doors (x : Says s t) : t.doors = s.doors := x.shape.doors

theorem Checked.doors (x : Checked s t) : t.doors = s.doors := by obtain ⟨⟨_, _, _, _, rfl⟩, _⟩ := x; rfl

theorem Stores.doors (x : Stores s t) : t.doors = s.doors := by obtain ⟨_, _, _, _, _, _, _, _, _, rfl⟩ := x; rfl

/-! ### Frames and reports -/

@[simp] theorem report_doors (k f) : (report k f s).doors = s.doors := (says_report s k f).doors
@[simp] theorem notify_doors (n) : (notify n s).doors = s.doors := (says_notify s n).doors
@[simp] theorem reply_doors (id b) : (reply id b s).doors = s.doors := (says_reply s id b).doors
@[simp] theorem answer_doors (id r fs) : (answer id r fs s).doors = s.doors := (says_answer s id r fs).doors
@[simp] theorem replyWaiting_doors (id b) : (replyWaiting id b s).doors = s.doors := (says_replyWaiting s id b).doors
@[simp] theorem decide'_doors (p d) : (decide' p d s).doors = s.doors := (says_decide' s p d).doors
@[simp] theorem refuse_doors (p r) : (refuse p r s).doors = s.doors := (says_refuse s p r).doors
@[simp] theorem refuseFor_doors (p e r) : (refuseFor p e r s).doors = s.doors := (says_refuseFor s p e r).doors
@[simp] theorem alarm_doors (n k) : (alarm n k s).doors = s.doors := (says_alarm n k s).doors
@[simp] theorem drive_doors (n d) : (drive n d s).doors = s.doors := (says_drive n d s).doors
@[simp] theorem clearAlarm_doors (n was) : (clearAlarm n was s).doors = s.doors := (says_clearAlarm n was s).doors
@[simp] theorem tellMuster_doors : (tellMuster s).doors = s.doors := (says_tellMuster s).doors
@[simp] theorem tellEmergency_doors : (tellEmergency s).doors = s.doors := (says_tellEmergency s).doors
@[simp] theorem answerLane_doors (p r person d) : (answerLane p r person d s).doors = s.doors := (says_answerLane p r person d s).doors
@[simp] theorem laneAnomaly_doors (p r person d) : (laneAnomaly p r person d s).doors = s.doors := (says_laneAnomaly p r person d s).doors

/-! ### The link and the recorder -/

@[simp] theorem startTx_doors : (startTx s).doors = s.doors := by simp [startTx, apply_ite State.doors]

@[simp] theorem refuseBusy_doors (id) : (refuseBusy id s).doors = s.doors := by simp [refuseBusy, pushFrame, apply_ite State.doors]

@[simp] theorem frameSent_doors : (frameSent s).doors = s.doors := by simp [frameSent, apply_ite State.doors]

@[simp] theorem abandonFrame_doors (bytes) : (abandonFrame bytes s).doors = s.doors := by
  simp [abandonFrame, apply_ite State.doors]

@[simp] theorem frameDiscarded_doors : (frameDiscarded s).doors = s.doors := by simp [frameDiscarded, apply_ite State.doors]

@[simp] theorem severitySet_doors (kind severity id) : (severitySet kind severity id s).doors = s.doors := by
  unfold severitySet
  split <;> simp

/-! ### The store's queue -/

@[simp] theorem draw_doors : (draw s).2.doors = s.doors := (marks_draw s).stores.doors
@[simp] theorem writeMarker_doors (m) : (writeMarker m s).doors = s.doors := (marks_writeMarker m s).stores.doors
@[simp] theorem beginWrite_doors : (beginWrite s).doors = s.doors := (stores_beginWrite s).doors
@[simp] theorem enqueue_doors (r) : (enqueue r s).doors = s.doors := (stores_enqueue r s).doors

/-! ### The roll -/

@[simp] theorem setPerson_doors (n new) : (setPerson n new s).doors = s.doors := by
  obtain ⟨stations, mustered, marks⟩ := remark_shape s.emu (s.person n) new
  simp [setPerson, marks]

@[simp] theorem evalWarning_doors : (evalWarning s).doors = s.doors := by simp [evalWarning, assertWarning, apply_ite State.doors]

@[simp] theorem evalIfMoved_doors (before) : (evalIfMoved before s).doors = s.doors := by simp [evalIfMoved, apply_ite State.doors]

@[simp] theorem changeSlot_doors (n new cause awaits) : (changeSlot n new cause awaits s).doors = s.doors := by
  simp [changeSlot, apply_ite State.doors]

@[simp] theorem endChange_doors (n ok) : (endChange n ok s).doors = s.doors := by
  unfold endChange
  split <;> simp [apply_ite State.doors]

@[simp] theorem cross_doors (p person) : (cross p person s).doors = s.doors := by
  unfold cross
  dsimp only
  split
  · simp
  split
  · simp
  split <;> simp [crossOutbound, crossInbound, acceptCrossing, apply_ite State.doors]

@[simp] theorem decideLane_doors (p e) : (decideLane p e s).doors = s.doors := by
  unfold decideLane
  cases windowRefusal e s <;> simp [apply_ite State.doors]

@[simp] theorem decideMuster_doors (p e) : (decideMuster p e s).doors = s.doors := by
  unfold decideMuster
  cases windowRefusal e s <;> simp [markPerson, answerMark, apply_ite State.doors]

@[simp] theorem endSlotWrite_doors (person cause awaits ok) : (endSlotWrite person cause awaits ok s).doors = s.doors := by
  cases cause <;> simp [endSlotWrite, endCrossing, endCorrection, endMark, apply_ite State.doors]

@[simp] theorem takeDeadline_doors : (takeDeadline s).doors = s.doors := by simp [takeDeadline, apply_ite State.doors]

@[simp] theorem deadlineSet_doors (deadline id) : (deadlineSet deadline id s).doors = s.doors := by simp [deadlineSet]

@[simp] theorem capacitySet_doors (limit level hysteresis id) : (capacitySet limit level hysteresis id s).doors = s.doors := by
  simp [capacitySet, apply_ite State.doors]

@[simp] theorem ifRoom_doors (boards person id new) : (ifRoom boards person id new s).doors = s.doors := by
  simp [ifRoom, refuseCapacity, correctSlot, apply_ite State.doors]

@[simp] theorem enrol_doors (person kind state id) : (enrol person kind state id s).doors = s.doors := by
  unfold enrol
  split <;> simp [correcting, apply_ite State.doors]

@[simp] theorem discharge_doors (person id) : (discharge person id s).doors = s.doors := by
  simp [discharge, correcting, correctSlot, apply_ite State.doors]

@[simp] theorem presenceSet_doors (person state id) : (presenceSet person state id s).doors = s.doors := by
  unfold presenceSet
  split <;> simp [correcting, apply_ite State.doors]

/-! ### Musters and the latch -/

@[simp] theorem clearMarks_doors : (clearMarks s).doors = s.doors := rfl

@[simp] theorem queueRecord_doors : (queueRecord s).doors = s.doors := by simp [queueRecord, apply_ite State.doors]

@[simp] theorem startMuster_doors (cause awaits) : (startMuster cause awaits s).doors = s.doors := by simp [startMuster]

@[simp] theorem musterStart_doors (id) : (musterStart id s).doors = s.doors := by simp [musterStart, apply_ite State.doors]

@[simp] theorem musterEnd_doors (id) : (musterEnd id s).doors = s.doors := by simp [musterEnd, endMuster, apply_ite State.doors]

@[simp] theorem answerCarried_doors (stored) : (answerCarried stored s).doors = s.doors := by simp [answerCarried, foldl_doors]

@[simp] theorem endRecordWrite_doors (written ok) : (endRecordWrite written ok s).doors = s.doors := by
  simp [endRecordWrite, apply_ite State.doors]

@[simp] theorem retryRecord_doors : (retryRecord s).doors = s.doors := by
  unfold retryRecord
  split <;> simp

@[simp] theorem emergencyClear_doors (id) : (emergencyClear id s).doors = s.doors := by simp [emergencyClear, apply_ite State.doors]

/-! ### The card table -/

@[simp] theorem writeEntry_doors (set way f) : (writeEntry set way f s).doors = s.doors := by
  unfold writeEntry
  split <;> simp

@[simp] theorem leaveTable_doors (set way) : (leaveTable set way s).doors = s.doors := by
  unfold leaveTable
  split <;> simp [apply_ite State.doors]

theorem verify_doors {set way : Nat} (hw : way < 4) : (verify set way s).doors = s.doors := ((Checked.refl s).verify hw).doors

@[simp] theorem readCard_doors (c) : (readCard c s).2.doors = s.doors := ((Checked.refl s).readCard c).doors

@[simp] theorem readSeen_doors (c) : (readSeen c s).2.doors = s.doors :=
  ((Checked.refl s).readAmong (sees s) c fun _ hw => List.mem_range.1 hw).doors

@[simp] theorem lookup_doors (c) : (lookup c s).2.doors = s.doors := by
  unfold lookup
  split
  · rfl
  · rename_i w found
    have verified := verify_doors (s := s) (set := setIndex c) (findWay_lt found)
    dsimp only
    split
    · split <;> simp [verified, apply_ite State.doors]
    · exact verified

@[simp] theorem callAuthorize_doors (c total alcohol) : (callAuthorize c total alcohol s).doors = s.doors :=
  ((Checked.refl s).callAuthorize ..).doors

@[simp] theorem callAdjust_doors (c spend alcohol day) : (callAdjust c spend alcohol day s).doors = s.doors :=
  ((Checked.refl s).callAdjust ..).doors

@[simp] theorem callHoldEnd_doors (c) : (callHoldEnd c s).doors = s.doors := ((Checked.refl s).callHoldEnd c).doors

@[simp] theorem verifySet_doors (set) : (verifySet set s).doors = s.doors := ((Checked.refl s).verifySet set).doors

@[simp] theorem install_doors (e) : (install e s).2.doors = s.doors := by
  unfold install
  dsimp only
  split <;> simp

@[simp] theorem startFetch_doors (p) : (startFetch p s).2.doors = s.doors := by
  unfold startFetch
  split <;> split <;> simp

@[simp] theorem askCard_doors (p) : (askCard p s).2.doors = s.doors := by
  have after := lookup_doors (s := s) p.card
  unfold askCard
  dsimp only
  split
  · rfl
  split <;> rename_i read <;> rw [read] at after <;> dsimp only at after
  · split
    · exact after
    split <;> simp [after]
  · simp [after]

@[simp] theorem placeRecord_doors (fresh) : (placeRecord fresh s).2.doors = s.doors := by
  have after := readCard_doors (s := s) fresh.card
  unfold placeRecord
  dsimp only
  split <;> rename_i read <;> rw [read] at after <;> dsimp only at after
  · simp [after]
  · rename_i t
    have installed := install_doors (s := verifySet (setIndex fresh.card) t) fresh
    split
    · simp [after]
    split <;> rename_i placed <;> rw [placed] at installed <;> simp_all

@[simp] theorem flush_doors (id) : (flush id s).doors = s.doors := by
  have one (u : State) (n : Nat) : (flushEntry u n).doors = u.doors := by
    have verified := verify_doors (s := u) (set := n / 4) (Nat.mod_lt n (Nat.succ_pos 3))
    unfold flushEntry
    dsimp only
    split
    · simp [verified, apply_ite State.doors]
    · exact verified
  simp [flush, foldl_doors one]

@[simp] theorem wayDisable_doors (w id) : (wayDisable w id s).doors = s.doors := by
  unfold wayDisable
  split
  · simp
  · have retired := ((Checked.refl s).retireWay (w := w) (by omega) false).doors
    simp [apply_ite State.doors, retired]

@[simp] theorem wayRestore_doors (w id) : (wayRestore w id s).doors = s.doors := by simp [wayRestore, apply_ite State.doors]

@[simp] theorem wayQuery_doors (w id) : (wayQuery w id s).doors = s.doors := by
  have ways := (Checked.refl s).foldl (List.range 4) (f := verifyWay) fun _ _ hw k =>
    k.foldl _ fun _ _ _ l => l.verify (List.mem_range.1 hw)
  simp [wayQuery, apply_ite State.doors, ways.doors]

@[simp] theorem cardRevoke_doors (card id) : (cardRevoke card id s).doors = s.doors := by
  have after := readCard_doors (s := s) card
  unfold cardRevoke
  generalize readCard card s = read at after
  obtain ⟨found, t⟩ := read
  dsimp only at after ⊢
  rw [← after]
  generalize fetchOf _ card = pendingFetch
  cases found <;> cases pendingFetch <;> simp

@[simp] theorem cardResident_doors (card value id) : (cardResident card value id s).doors = s.doors := by
  have after := readCard_doors (s := s) card
  unfold cardResident
  split
  · simp
  split <;> rename_i read <;> rw [read] at after
  · simp_all
  · simp_all [apply_ite State.doors]

@[simp] theorem cardQuery_doors (form key id) : (cardQuery form key id s).doors = s.doors := by
  unfold cardQuery
  split
  · have after := readSeen_doors (s := s) key
    unfold queryCard
    split <;> rename_i read <;> rw [read] at after <;> simp_all
  · unfold queryPlace
    split
    · simp
    · rename_i small
      have verified := verify_doors (s := s) (set := querySet key) (way := queryWay key) (by omega)
      dsimp only
      split <;> simp [verified]
  · simp

@[simp] theorem refuseFetch_doors (n f r) : (refuseFetch n f r s).doors = s.doors := by simp [refuseFetch, foldl_doors]

@[simp] theorem cardUnknown_doors (card id) : (cardUnknown card id s).doors = s.doors := by
  unfold cardUnknown
  split <;> simp

@[simp] theorem fetchExpiry_doors (n) : (fetchExpiry n s).doors = s.doors := by
  unfold fetchExpiry
  split <;> simp

/-! ### Holds, folios and the journal -/

@[simp] theorem releaseHold_doors (slot h last) : (releaseHold slot h last s).doors = s.doors := by
  simp [releaseHold, moveExposure]

@[simp] theorem expireIfDue_doors (slot) : (expireIfDue slot s).doors = s.doors := by
  unfold expireIfDue
  split <;> simp [tellExpired, apply_ite State.doors]

@[simp] theorem roomChecks_doors (p e h d) : (roomChecks p e h d s).doors = s.doors := by
  unfold roomChecks
  split <;> simp [createHold, moveExposure, apply_ite State.doors]

@[simp] theorem amountChecks_doors (p a e) : (amountChecks p a e s).doors = s.doors := by
  unfold amountChecks
  dsimp only
  split
  · simp
  split <;> simp

@[simp] theorem decideCharge_doors (p a e) : (decideCharge p a e s).doors = s.doors := by
  unfold decideCharge
  cases windowRefusal e s <;> cases (s.folio e.folio).state <;> simp [refuseCharge, apply_ite State.doors]

@[simp] theorem closeCommit_doors (slot entry awaits) : (closeCommit slot entry awaits s).doors = s.doors := by
  unfold closeCommit
  dsimp only
  split <;> simp [moveExposure, apply_ite State.doors]

@[simp] theorem failCommit_doors (slot awaits) : (failCommit slot awaits s).doors = s.doors := by
  unfold failCommit
  split <;> simp [tellExpired, apply_ite State.doors]

theorem settleEntries_doors (es : List JournalEntry) (acc : State × SettleTally) :
    (es.foldl settleEntry acc).1.doors = acc.1.doors := by
  induction es generalizing acc with
  | nil => rfl
  | cons e es ih =>
    refine (ih _).trans ?_
    unfold settleEntry
    dsimp only
    split <;> rfl

@[simp] theorem completeSettle_doors (awaits) : (completeSettle awaits s).doors = s.doors := by
  unfold completeSettle
  split
  · rfl
  · simp [settleEntries_doors]

@[simp] theorem activateTariff_doors : (activateTariff s).2.doors = s.doors := by
  unfold activateTariff
  split <;> rfl

@[simp] theorem tariffStage_doors (x applyNow id) : (tariffStage x applyNow id s).doors = s.doors := by
  unfold tariffStage
  split
  · simp
  split <;> simp

@[simp] theorem commit_doors (number subtotal alcohol id) : (commit number subtotal alcohol id s).doors = s.doors := by
  unfold commit
  split <;> simp [commitHold, refuseHold, apply_ite State.doors]

@[simp] theorem voidHold_doors (number id) : (voidHold number id s).doors = s.doors := by
  unfold voidHold
  split <;> simp [refuseHold]

@[simp] theorem folioLoad_doors (n limit balance state id) : (folioLoad n limit balance state id s).doors = s.doors := by
  unfold folioLoad
  split <;> simp [apply_ite State.doors]

@[simp] theorem folioPost_doors (n balance id) : (folioPost n balance id s).doors = s.doors := by
  simp [folioPost, apply_ite State.doors]

@[simp] theorem moveFolio_doors (n st id) : (moveFolio n st id s).doors = s.doors := by simp [moveFolio, apply_ite State.doors]

@[simp] theorem folioClose_doors (n id) : (folioClose n id s).doors = s.doors := by simp [folioClose, apply_ite State.doors]

@[simp] theorem settle_doors (seq id) : (settle seq id s).doors = s.doors := by
  unfold settle
  split
  · simp
  split <;> simp [apply_ite State.doors]

/-! ### Ship time -/

@[simp] theorem queueDay_doors : (queueDay s).doors = s.doors := by simp [queueDay, apply_ite State.doors]

@[simp] theorem retryDay_doors : (retryDay s).doors = s.doors := by
  unfold retryDay
  split <;> simp

@[simp] theorem endDayWrite_doors (written ok) : (endDayWrite written ok s).doors = s.doors := by
  simp [endDayWrite, apply_ite State.doors]

@[simp] theorem evaluateDay_doors : (evaluateDay s).doors = s.doors := by simp [evaluateDay, rollover, apply_ite State.doors]

@[simp] theorem takeDue_doors (d) : (takeDue d s).doors = s.doors := by cases d <;> simp [takeDue]

theorem takeOneOf_doors (n : Nat) (ds : List Due) (s : State) : (takeOneOf n ds s).doors = s.doors := by
  induction n generalizing ds s with
  | zero => rfl
  | succ n ih =>
    match ds with
    | [] => rfl
    | [d] => exact takeDue_doors d
    | a :: b :: ds =>
      unfold takeOneOf
      refine (ih _ _).trans ?_
      split
      · exact (takeDue_doors _).trans draw_doors
      · exact draw_doors

@[simp] theorem takeAll_doors (ds) : (takeAll ds s).doors = s.doors := takeOneOf_doors ..

@[simp] theorem secondCount_doors : (secondCount s).doors = s.doors := by
  have next : (nextSecond s).doors = s.doors := rfl
  simp [secondCount, next, apply_ite State.doors]

@[simp] theorem timeSet_doors (time id) : (timeSet time id s).doors = s.doors := by simp [timeSet, apply_ite State.doors]

@[simp] theorem rolloverSet_doors (offset id) : (rolloverSet offset id s).doors = s.doors := by
  simp [rolloverSet, apply_ite State.doors]

/-! ### The ends of the store's writes, and the scan -/

@[simp] theorem attemptEnd_doors (readBackMatches) : (attemptEnd readBackMatches s).doors = s.doors := by
  have told (r : StoreReq) (c : WriteContent) (ok : Bool) (u : State) : (reportEnd r c ok u).doors = u.doors := by
    unfold reportEnd
    split <;> simp [failSettle, apply_ite State.doors]
  unfold attemptEnd
  split
  · simp [endWrite, secondAttempt, told, apply_ite State.doors]
  · rfl

@[simp] theorem storeScan_doors : (storeScan s).doors = s.doors := by
  have slots (u : State) : (scanSlots u).doors = u.doors := by simp [scanSlots, foldl_doors]
  have marker (u : State) : (scanMarker u).doors = u.doors := by
    unfold scanMarker
    split <;> simp
  have filters (u : State) : (startFilters u).doors = u.doors := rfl
  have ready (u : State) : (coldReady u).doors = u.doors := by
    simp [coldReady, filters, apply_ite State.doors]
    rfl
  simp [storeScan, scanJournal, scanDay, slots, marker, ready, apply_ite State.doors]

end DoorFrame

end Sys2Proof.Machine

namespace Sys2Proof.Machine

open Sys2Proof

/-! ## The class fields of a PORTAL-SET (R41, R44) -/

/-- A field that the class has is out of its range (R44). -/
def BadConfig (c : PortalConfig) : Prop :=
  5 < c.cls ∨ (c.cls = 0 ∧ (c.cabin = 0 ∨ 9999 < c.cabin)) ∨ (c.cls = 1 ∧ (c.zone = 0 ∨ 63 < c.zone)) ∨
    (c.cls = 2 ∧ 63 < c.zone) ∨ (c.cls = 3 ∧ 2 < c.direction) ∨ (c.cls = 4 ∧ (c.station = 0 ∨ 32 < c.station)) ∨
    (c.cls ≤ 2 ∧ (7 < c.timingSet ∨ 2 < c.preset))

/-- A door as a PORTAL-SET names it, with a captured timing (R44). -/
def doorEntry (c : PortalConfig) (cls : PortalClass) (preset : Preset) (captured : Timing) : Portal :=
  { defaultPortal with
    cls := some cls, cabin := if c.cls = 0 then c.cabin else 0, zone := if c.cls = 0 then 0 else c.zone, timingSet := c.timingSet,
    strikeRequired := c.strikeRequired, strict := c.strict, preset := preset, autoResume := c.autoResume, captured := captured }

section Config

variable {c : PortalConfig}

theorem configured_gangway (cls : c.cls = 3) : configured c =
    (laneDirections[c.direction]?).map fun d => { defaultPortal with cls := some .gangway, direction := some d } := by
  simp [configured, cls, enumOf, portalClasses]

theorem configured_muster (cls : c.cls = 4) : configured c =
    if 1 ≤ c.station ∧ c.station ≤ 32 then some { defaultPortal with cls := some .muster, station := c.station } else none := by
  simp [configured, cls, enumOf, portalClasses]

theorem configured_terminal (cls : c.cls = 5) : configured c = some { defaultPortal with cls := some .terminal } := by
  simp [configured, cls, enumOf, portalClasses]

/-- The cabin of a cabin door and the zone of the others are in range. -/
def PlaceInRange (c : PortalConfig) : Prop :=
  (c.cls = 0 → 1 ≤ c.cabin ∧ c.cabin ≤ 9999) ∧ (c.cls = 1 → 1 ≤ c.zone ∧ c.zone ≤ 63) ∧ (c.cls = 2 → c.zone ≤ 63)

theorem configured_door {cls : PortalClass} (small : c.cls ≤ 2) (named : portalClasses[c.cls]? = some cls) (place : PlaceInRange c)
    (timing : c.timingSet ≤ 7) : configured c = (presets[c.preset]?).map fun preset => doorEntry c cls preset defaultTiming := by
  obtain ⟨cabin, crew, venue⟩ := place
  have timing : ¬ 7 < c.timingSet := Nat.not_lt.2 timing
  obtain zero | one | two : c.cls = 0 ∨ c.cls = 1 ∨ c.cls = 2 := by omega
  · rw [zero] at named
    cases named
    simp [configured, zero, enumOf, portalClasses, doorEntry, cabin zero, timing]
    rfl
  · rw [one] at named
    cases named
    simp [configured, one, enumOf, portalClasses, doorEntry, crew one, timing]
    rfl
  · rw [two] at named
    cases named
    simp [configured, two, enumOf, portalClasses, doorEntry, venue two, timing]
    rfl

theorem configured_door_none (small : c.cls ≤ 2) (bad : ¬ PlaceInRange c ∨ 7 < c.timingSet) : configured c = none := by
  unfold PlaceInRange at bad
  obtain zero | one | two : c.cls = 0 ∨ c.cls = 1 ∨ c.cls = 2 := by omega
  · simp [configured, zero, enumOf, portalClasses] at bad ⊢
    omega
  · simp [configured, one, enumOf, portalClasses] at bad ⊢
    omega
  · simp [configured, two, enumOf, portalClasses] at bad ⊢
    omega

theorem configured_none (bad : BadConfig c) : configured c = none := by
  by_cases big : 5 < c.cls
  · have none : portalClasses[c.cls]? = Option.none := List.getElem?_eq_none big
    simp [configured, enumOf, none]
  by_cases small : c.cls ≤ 2
  · by_cases good : PlaceInRange c ∧ c.timingSet ≤ 7
    · have preset : 2 < c.preset := by
        obtain ⟨⟨cabin, crew, venue⟩, timing⟩ := good
        unfold BadConfig at bad
        omega
      have none : presets[c.preset]? = Option.none := List.getElem?_eq_none preset
      obtain ⟨cls, named⟩ : ∃ cls, portalClasses[c.cls]? = some cls := ⟨_, List.getElem?_eq_getElem (by change _ < 6; omega)⟩
      rw [configured_door small named good.1 good.2, none]
      rfl
    · exact configured_door_none small ((not_and_or.1 good).imp_right Nat.lt_of_not_le)
  · unfold BadConfig at bad
    obtain three | four | five : c.cls = 3 ∨ c.cls = 4 ∨ c.cls = 5 := by omega
    · have none : laneDirections[c.direction]? = Option.none := List.getElem?_eq_none (by change 3 ≤ _; omega)
      rw [configured_gangway three, none]
      rfl
    · rw [configured_muster four, if_neg (by omega)]
    · omega

/-- Fields in range make an entry of the class. -/
theorem configured_good (good : ¬ BadConfig c) : ∃ new, configured c = some new ∧ new.cls ≠ none := by
  unfold BadConfig at good
  by_cases small : c.cls ≤ 2
  · obtain ⟨cls, named⟩ : ∃ cls, portalClasses[c.cls]? = some cls := ⟨_, List.getElem?_eq_getElem (by change _ < 6; omega)⟩
    obtain ⟨preset, chosen⟩ : ∃ preset, presets[c.preset]? = some preset := ⟨_, List.getElem?_eq_getElem (by change _ < 3; omega)⟩
    refine ⟨_, (configured_door small named (by unfold PlaceInRange; omega) (by omega)).trans (congrArg _ chosen), nofun⟩
  · obtain three | four | five : c.cls = 3 ∨ c.cls = 4 ∨ c.cls = 5 := by omega
    · obtain ⟨d, chosen⟩ : ∃ d, laneDirections[c.direction]? = some d := ⟨_, List.getElem?_eq_getElem (by change _ < 3; omega)⟩
      exact ⟨_, (configured_gangway three).trans (congrArg _ chosen), nofun⟩
    · exact ⟨_, (configured_muster four).trans (if_pos (by omega)), nofun⟩
    · exact ⟨_, configured_terminal five, nofun⟩

theorem configured_cls {new : Portal} (found : configured c = some new) : new.cls ≠ none := by
  have good : ¬ BadConfig c := fun bad => nomatch (configured_none bad).symm.trans found
  obtain ⟨made, same, cls⟩ := configured_good good
  cases same.symm.trans found
  exact cls

end Config

end Sys2Proof.Machine

namespace Sys2Proof.Machine

open Sys2Proof

/-! ## Sound portals (R42, R54, R105): what an operation may make of one -/

/-- The portal is sound, and in EMERGENCY where the condition takes it (R42, R105). -/
def Portal.Fits (condition : Bool) (p : Portal) : Prop :=
  p.Sound ∧ (condition = true → p.isDoor = true → p.preset ≠ .normal → p.state = .emergency)

section OnePortal

variable {c : Bool} {p q : Portal}

theorem Portal.isDoor_congr (cls : q.cls = p.cls) : q.isDoor = p.isDoor := by unfold Portal.isDoor; rw [cls]

theorem Portal.configured_of_isDoor (door : p.isDoor = true) : p.cls ≠ none := by
  intro none
  simp [Portal.isDoor, none] at door

/-- A portal with its timers stopped is sound in any state its class may take. -/
theorem Portal.sound_idle (timers : q.releaseTimer = none ∧ q.heldOpenTimer = none ∧ q.strikeTimer = none ∧ q.strikePending = false)
    (configured : q.cls ≠ none) (plain : q.isDoor = false → q.state = if q.disabled then .outOfService else .secure)
    (disabled : q.isDoor = true → q.disabled = true → q.state = .outOfService ∨ q.state = .emergency)
    (served : q.isDoor = true → q.disabled = false → q.state ≠ .outOfService) : q.Sound := by
  obtain ⟨release, heldOpen, strike, pending⟩ := timers
  exact ⟨fun none => (configured none).elim, fun _ => plain, disabled, served, by simp [release], by simp [heldOpen],
    by simp [strike, pending], by simp [pending]⟩

/-- The states of a door in service that is neither SECURE nor held (R54). -/
def PortalState.acting : PortalState → Bool
  | .released | .opened | .heldOpen | .forced => true
  | .secure | .emergency | .outOfService => false

/-- A portal in one of these states is a door in service, and the condition does not take it. -/
theorem Portal.Sound.acts (a : p.Sound) (acting : p.state.acting = true) :
    p.isDoor = true ∧ p.disabled = false ∧ p.state ≠ .emergency := by
  have other (st : PortalState) (off : st.acting = false) : p.state ≠ st := by
    rintro rfl
    rw [off] at acting
    cases acting
  have configured : p.cls ≠ none := fun none => other .outOfService rfl (a.unconfigured none).1
  have door : p.isDoor = true := by
    by_contra plain
    have state := a.plain configured (Bool.eq_false_iff.2 plain)
    split at state
    · exact other .outOfService rfl state
    · exact other .secure rfl state
  refine ⟨door, Bool.eq_false_iff.2 fun disabled => ?_, other .emergency rfl⟩
  exact (a.disabled door disabled).elim (other .outOfService rfl) (other .emergency rfl)

/-- A SECURE door is in service. -/
theorem Portal.Sound.secure_serves (a : p.Sound) (door : p.isDoor = true) (secure : p.state = .secure) : p.disabled = false := by
  by_contra disabled
  have held := a.disabled door (by simpa using disabled)
  simp [secure] at held

theorem Portal.Sound.release_idle (a : p.Sound) (other : p.state ≠ .released) : p.releaseTimer = none := by
  by_contra runs
  exact other (a.release (Option.isSome_iff_ne_none.2 runs))

theorem Portal.Sound.heldOpen_idle (a : p.Sound) (other : p.state ≠ .opened) : p.heldOpenTimer = none := by
  by_contra runs
  exact other (a.heldOpen (Option.isSome_iff_ne_none.2 runs))

theorem Portal.Sound.pending_idle (a : p.Sound) (other : p.state ≠ .released) : p.strikePending = false := by
  by_contra awaited
  exact other (a.awaited (by simpa using awaited))

theorem Portal.Sound.strike_idle (a : p.Sound) (other : p.state ≠ .released) : p.strikeTimer = none := by
  have stopped := a.strike
  rw [a.pending_idle other] at stopped
  simpa using stopped

/-- In a state without timers none runs. -/
theorem Portal.Sound.idle (a : p.Sound) (released : p.state ≠ .released) (opened : p.state ≠ .opened) :
    p.releaseTimer = none ∧ p.heldOpenTimer = none ∧ p.strikeTimer = none ∧ p.strikePending = false :=
  ⟨a.release_idle released, a.heldOpen_idle opened, a.strike_idle released, a.pending_idle released⟩

theorem Portal.Sound.released_of_strike (a : p.Sound) (runs : p.strikeTimer.isSome = true) : p.state = .released :=
  a.awaited (a.strike ▸ runs)

/-- A door in service that the condition does not take moves to another state of its table. -/
theorem Portal.Fits.move (a : p.Fits c) (door : p.isDoor = true) (serves : p.disabled = false) (free : p.state ≠ .emergency)
    (same : q.cls = p.cls ∧ q.preset = p.preset ∧ q.disabled = p.disabled) (service : q.state ≠ .outOfService)
    (release : q.releaseTimer.isSome = true → q.state = .released) (heldOpen : q.heldOpenTimer.isSome = true → q.state = .opened)
    (strike : q.strikeTimer.isSome = q.strikePending) (awaited : q.strikePending = true → q.state = .released) : q.Fits c := by
  obtain ⟨cls, preset, disabled⟩ := same
  have doorQ : q.isDoor = true := (Portal.isDoor_congr cls).trans door
  refine ⟨⟨fun none => (Portal.configured_of_isDoor doorQ none).elim, fun _ plain => ?_, fun _ off => ?_, fun _ _ => service, release,
    heldOpen, strike, awaited⟩, fun on _ other => ?_⟩
  · rw [doorQ] at plain
    cases plain
  · rw [disabled, serves] at off
    cases off
  · exact (free (a.2 on door (preset ▸ other))).elim

/-- A change that leaves the class, the preset, the mark, the state and which timers run. -/
theorem Portal.Fits.congr (a : p.Fits c) (same : q.cls = p.cls ∧ q.preset = p.preset ∧ q.disabled = p.disabled ∧ q.state = p.state)
    (release : q.releaseTimer.isSome = p.releaseTimer.isSome) (heldOpen : q.heldOpenTimer.isSome = p.heldOpenTimer.isSome)
    (strike : q.strikeTimer.isSome = p.strikeTimer.isSome) (pending : q.strikePending = p.strikePending) : q.Fits c := by
  obtain ⟨cls, preset, disabled, state⟩ := same
  obtain ⟨b, held⟩ := a
  have door := Portal.isDoor_congr cls
  refine ⟨⟨?_, ?_, ?_, ?_, ?_, ?_, ?_, ?_⟩, ?_⟩
  · rw [cls, state, disabled]; exact b.unconfigured
  · rw [cls, door, state, disabled]; exact b.plain
  · rw [door, state, disabled]; exact b.disabled
  · rw [door, state, disabled]; exact b.served
  · rw [release, state]; exact b.release
  · rw [heldOpen, state]; exact b.heldOpen
  · rw [strike, pending]; exact b.strike
  · rw [pending, state]; exact b.awaited
  · rw [door, preset, state]; exact held

theorem Portal.fields_of_masked (masked : q.masked = p.masked) : q.cls = p.cls ∧ q.preset = p.preset ∧ q.disabled = p.disabled := by
  have same := masked
  simp only [Portal.masked, Portal.mk.injEq] at same
  tauto

theorem Portal.leaving_masked (p : Portal) (s : State) : (p.leaving s).masked = p.masked := by
  rcases p.leaving_cases s with stays | ⟨_, takes⟩
  · rw [stays]
  · rw [takes]
    rfl

/-- A placed portal fits (R43). -/
theorem Portal.placed_fits (p : Portal) (s : State) (configured : p.cls ≠ none) : (p.placed s).Fits s.emu.condition := by
  obtain ⟨masked, _, _, state, timers⟩ := p.placed_placedAs s
  generalize p.placed s = q at masked state timers
  obtain ⟨cls, preset, disabled⟩ := Portal.fields_of_masked masked
  have door := Portal.isDoor_congr cls
  rw [← door, ← preset, ← disabled] at state
  refine ⟨Portal.sound_idle timers (cls ▸ configured) (fun plain => ?_) (fun _ off => ?_) (fun _ on => ?_), fun on isDoor other => ?_⟩
  · rw [state, if_neg (by simp [plain])]
  · rw [state, if_pos off]
    split
    · exact .inr rfl
    · exact .inl rfl
  · rw [state]
    split
    · nofun
    · rw [if_neg (by simp [on])]
      nofun
  · rw [state, if_pos ⟨isDoor, other, on⟩]

end OnePortal

/-! ## Sound portals of a state -/

/-- The portals of a state are sound, and their table stands in its canonical form. -/
structure State.DoorsSound (s : State) : Prop where
  wf : Table.wf defaultPortal s.ptu.portals = true
  fits : ∀ n, (s.portal n).Fits s.emu.condition
  condition : s.emu.condition = conditionNow s.emu

section Doors

variable {s t : State}

theorem State.DoorsSound.portalsSound (a : s.DoorsSound) : s.PortalsSound :=
  ⟨fun n => (a.fits n).1, a.condition, fun on n => (a.fits n).2 on⟩

theorem State.PortalsSound.doorsSound (a : s.PortalsSound) (wf : Table.wf defaultPortal s.ptu.portals = true) : s.DoorsSound :=
  ⟨wf, fun n => ⟨a.portals n, fun on => a.held on n⟩, a.condition⟩

theorem portal_of_doors (same : t.doors = s.doors) (n : Nat) : t.portal n = s.portal n :=
  congrArg (fun d : Portals × Bool × Bool => Table.read defaultPortal d.1.portals n) same

theorem condition_of_doors (same : t.doors = s.doors) : t.emu.condition = s.emu.condition := congrArg (fun d => d.2.1) same

theorem State.DoorsSound.of_doors (a : s.DoorsSound) (same : t.doors = s.doors) : t.DoorsSound := by
  have portals : t.ptu.portals = s.ptu.portals := congrArg (fun d => d.1.portals) same
  have sources : conditionNow t.emu = conditionNow s.emu := congrArg (fun d => d.2.2) same
  have condition := condition_of_doors same
  exact ⟨portals ▸ a.wf, fun n => by rw [portal_of_doors same, condition]; exact a.fits n, by rw [condition, sources]; exact a.condition⟩

theorem State.DoorsSound.setPortal (a : s.DoorsSound) (n : Nat) {q : Portal} (fits : q.Fits s.emu.condition) :
    (s.setPortal n q).DoorsSound := by
  refine ⟨Table.wf_write n q a.wf, fun m => ?_, a.condition⟩
  rw [State.setPortal_portal]
  split
  · exact fits
  · exact a.fits m

/-- A choice between two operations. -/
theorem State.DoorsSound.ite {c : Prop} [Decidable c] (ha : c → s.DoorsSound) (hb : ¬ c → t.DoorsSound) :
    (if c then s else t).DoorsSound := by
  split
  · exact ha ‹_›
  · exact hb ‹_›

theorem State.DoorsSound.foldl {α : Type} {f : State → α → State} (a : s.DoorsSound) (xs : List α)
    (step : ∀ u x, u.DoorsSound → (f u x).DoorsSound) : (xs.foldl f s).DoorsSound :=
  List.foldlRecOn xs f a fun u k x _ => step u x k

/-! ### Placement (R43, R102 to R105) -/

/-- An entry into EMERGENCY, but for what it tells (R102). -/
def Portal.entered (p : Portal) (s : State) : Portal := { (p.leaving s).stopped with state := .emergency }

theorem enterEmergency_doors (tell : Bool) (n : Nat) (s : State) :
    (enterEmergency tell n s).doors = (s.setPortal n ((s.portal n).entered s)).doors := by
  simp [enterEmergency, Portal.entered, apply_ite State.doors]

theorem place_doors (tell : Bool) (n : Nat) (s : State) :
    (place tell n s).doors = (s.setPortal n ((s.portal n).placed s)).doors := by
  unfold place Portal.placed
  dsimp only
  split
  · split
    · rfl
    · exact enterEmergency_doors tell n s
  · split <;> rfl

theorem resumeDoor_doors (n : Nat) (s : State) : (resumeDoor n s).doors = (s.setPortal n ((s.portal n).placed s)).doors := by
  simp [resumeDoor, place_doors, apply_ite State.doors]

theorem State.DoorsSound.placed (a : s.DoorsSound) {n : Nat} (configured : (s.portal n).cls ≠ none)
    (same : t.doors = (s.setPortal n ((s.portal n).placed s)).doors) : t.DoorsSound :=
  (a.setPortal n (Portal.placed_fits _ s configured)).of_doors same

/-- Configured portals placed one after the other. -/
theorem State.DoorsSound.placeEach {f : State → Nat → State}
    (places : ∀ u n, (f u n).doors = (u.setPortal n ((u.portal n).placed u)).doors) (ns : List Nat) (a : s.DoorsSound)
    (configured : ∀ n ∈ ns, (s.portal n).cls ≠ none) : (ns.foldl f s).DoorsSound := by
  induction ns generalizing s with
  | nil => exact a
  | cons n ns ih =>
    refine ih (a.placed (configured n List.mem_cons_self) (places s n)) fun m hm => ?_
    rw [portal_of_doors (places s n), State.setPortal_portal]
    split
    · rw [(Portal.fields_of_masked (Portal.placed_placedAs _ s).masked).1]
      exact configured n List.mem_cons_self
    · exact configured m (List.mem_cons_of_mem n hm)

theorem configured_of_portalsWhere {f : Portal → Bool} (off : f defaultPortal = false) (some : ∀ p, f p = true → p.cls ≠ none)
    (wf : Table.wf defaultPortal s.ptu.portals = true) : ∀ n ∈ portalsWhere f s, (s.portal n).cls ≠ none :=
  fun _ mem => some _ ((mem_portalsWhere off wf).1 mem)

/-! ### The condition (R99, R103, R104) -/

/-- The condition has risen, and the doors it takes and that are still out of EMERGENCY are those listed (R103). -/
structure State.Entering (ns : List Nat) (s : State) : Prop where
  wf : Table.wf defaultPortal s.ptu.portals = true
  raised : s.emu.condition = true
  condition : s.emu.condition = conditionNow s.emu
  sound : ∀ n, (s.portal n).Sound
  doors : ∀ n ∈ ns, (s.portal n).isDoor = true
  held : ∀ n, n ∉ ns → (s.portal n).Fits true

theorem Portal.entered_isDoor (p : Portal) (s : State) : (p.entered s).isDoor = p.isDoor :=
  Portal.isDoor_congr (Portal.fields_of_masked (p.leaving_masked s)).1

/-- A door that has entered EMERGENCY is where the condition has it. -/
theorem Portal.entered_fits {p : Portal} (door : p.isDoor = true) (s : State) : (p.entered s).Fits true := by
  have doorQ := (p.entered_isDoor s).trans door
  refine ⟨Portal.sound_idle ⟨rfl, rfl, rfl, rfl⟩ (Portal.configured_of_isDoor doorQ) (fun plain => ?_) (fun _ _ => .inr rfl)
    (fun _ _ => nofun), fun _ _ _ => rfl⟩
  rw [doorQ] at plain
  cases plain

theorem State.Entering.enter {n : Nat} {ns : List Nat} (a : s.Entering (n :: ns)) : (enterEmergency true n s).Entering ns := by
  have same := enterEmergency_doors true n s
  have condition := condition_of_doors same
  have entered := Portal.entered_fits (a.doors n List.mem_cons_self) s
  have read (m : Nat) : (enterEmergency true n s).portal m = if m = n then (s.portal n).entered s else s.portal m := by
    rw [portal_of_doors same, State.setPortal_portal]
  refine ⟨?_, condition.trans a.raised, ?_, fun m => ?_, fun m hm => ?_, fun m hm => ?_⟩
  · rw [show (enterEmergency true n s).ptu = _ from congrArg Prod.fst same]
    exact Table.wf_write n _ a.wf
  · rw [condition, show conditionNow (enterEmergency true n s).emu = _ from congrArg (fun d => d.2.2) same]
    exact a.condition
  · rw [read]
    split
    · exact entered.1
    · exact a.sound m
  · rw [read]
    split
    · exact (Portal.entered_isDoor _ s).trans (a.doors n List.mem_cons_self)
    · exact a.doors m (List.mem_cons_of_mem n hm)
  · rw [read]
    split
    · exact entered
    · rename_i other
      exact a.held m (by simp [other, hm])

end Doors

end Sys2Proof.Machine

namespace Sys2Proof.Machine

open Sys2Proof

/-! ## The door operations keep the portals sound (R43 to R67) -/

section DoorOps

variable {s t : State}

/-! ### Events of a door -/

/-- A door's timers stop, and it comes to a state of its table. -/
theorem State.DoorsSound.settle (a : s.DoorsSound) {n : Nat} {st : PortalState} (acting : (s.portal n).state.acting = true)
    (service : st ≠ .outOfService) : (s.setPortal n { (s.portal n).stopped with state := st }).DoorsSound := by
  obtain ⟨door, serves, free⟩ := (a.fits n).1.acts acting
  exact a.setPortal n ((a.fits n).move door serves free ⟨rfl, rfl, rfl⟩ service nofun nofun rfl nofun)

theorem State.DoorsSound.strikeFailure (a : s.DoorsSound) {n : Nat} (released : (s.portal n).state = .released) :
    (strikeFailure n s).DoorsSound :=
  (a.settle (st := .secure) (by rw [released]; rfl) nofun).of_doors (by simp [Machine.strikeFailure])

theorem State.DoorsSound.releaseEnds (a : s.DoorsSound) {n : Nat} (released : (s.portal n).state = .released) :
    (releaseEnds n s).DoorsSound :=
  a.settle (by rw [released]; rfl) nofun

theorem State.DoorsSound.heldOpenEnds (a : s.DoorsSound) {n : Nat} (opened : (s.portal n).state = .opened) :
    (heldOpenEnds n s).DoorsSound :=
  (a.settle (st := .heldOpen) (by rw [opened]; rfl) nofun).of_doors (by simp [Machine.heldOpenEnds])

theorem State.DoorsSound.releaseExpiry (a : s.DoorsSound) (n : Nat) : (releaseExpiry n s).DoorsSound := by
  unfold Machine.releaseExpiry
  split
  · exact a
  · rename_i timer runs
    have released : (s.portal n).state = .released := (a.fits n).1.release (by simp [runs])
    have waited : (reachTime (timer.start + timer.limit) s).DoorsSound := a.of_doors (by simp)
    exact .ite (fun _ => waited.strikeFailure released) fun _ => waited.releaseEnds released

theorem State.DoorsSound.strikeExpiry (a : s.DoorsSound) (n : Nat) : (strikeExpiry n s).DoorsSound := by
  unfold Machine.strikeExpiry
  split
  · exact a
  · rename_i timer runs
    have waited : (reachTime (timer.start + timer.limit) s).DoorsSound := a.of_doors (by simp)
    exact waited.strikeFailure ((a.fits n).1.released_of_strike (by simp [runs]))

theorem State.DoorsSound.heldOpenExpiry (a : s.DoorsSound) (n : Nat) : (heldOpenExpiry n s).DoorsSound := by
  unfold Machine.heldOpenExpiry
  split
  · exact a
  · rename_i timer runs
    have waited : (reachTime (timer.start + timer.limit) s).DoorsSound := a.of_doors (by simp)
    exact waited.heldOpenEnds ((a.fits n).1.heldOpen (by simp [runs]))

theorem State.DoorsSound.contactOpen (a : s.DoorsSound) {n : Nat} (door : (s.portal n).isDoor = true) :
    (contactOpen n s).DoorsSound := by
  have p := a.fits n
  unfold Machine.contactOpen
  dsimp only
  split
  case h_1 secure =>
    obtain ⟨cls, preset, disabled⟩ := Portal.fields_of_masked ((s.portal n).leaving_masked s)
    have stays : ((s.portal n).leaving s).releaseTimer = none ∧ ((s.portal n).leaving s).heldOpenTimer = none ∧
        ((s.portal n).leaving s).strikeTimer = none ∧ ((s.portal n).leaving s).strikePending = false := by
      have idle := p.1.idle (by simp [secure]) (by simp [secure])
      rcases (s.portal n).leaving_cases s with same | ⟨_, takes⟩
      · rwa [same]
      · rwa [takes]
    obtain ⟨release, heldOpen, strike, pending⟩ := stays
    refine (a.setPortal n (p.move (q := { (s.portal n).leaving s with state := .forced }) door (p.1.secure_serves door secure)
      (by simp [secure]) ⟨cls, preset, disabled⟩ nofun (by simp [release]) (by simp [heldOpen]) (by simp [strike, pending])
      (by simp [pending]))).of_doors ?_
    simp
  case h_2 released =>
    obtain ⟨_, serves, free⟩ := p.1.acts (by rw [released]; rfl)
    exact a.setPortal n (p.move door serves free ⟨rfl, rfl, rfl⟩ nofun nofun (fun _ => rfl) rfl nofun)
  case h_3 => exact .ite (fun _ => a.of_doors (by simp)) fun _ => a
  all_goals exact a

theorem State.DoorsSound.contactClosed (a : s.DoorsSound) (n : Nat) : (contactClosed n s).DoorsSound := by
  have closed (acting : (s.portal n).state.acting = true) : (s.setPortal n { (s.portal n).stopped with state := .secure }).DoorsSound :=
    a.settle acting nofun
  unfold Machine.contactClosed
  dsimp only
  split
  case h_1 opened => exact closed (by rw [opened]; rfl)
  case h_2 held => exact (closed (by rw [held]; rfl)).of_doors (alarm_doors _ _)
  case h_3 forced => exact (closed (by rw [forced]; rfl)).of_doors (alarm_doors _ _)
  all_goals exact a

theorem State.DoorsSound.contact (a : s.DoorsSound) (n position : Nat) (id : ReqId) : (contact n position id s).DoorsSound := by
  have seen (c : Contact) : (s.setPortal n { s.portal n with contact := c }).DoorsSound :=
    a.setPortal n ((a.fits n).congr ⟨rfl, rfl, rfl, rfl⟩ rfl rfl rfl rfl)
  unfold Machine.contact
  dsimp only
  split
  · exact .ite (fun door => ((seen .opened).contactOpen door).of_doors (by simp [doneState])) fun _ => (seen .opened).of_doors (by simp)
  · exact .ite (fun _ => ((seen .closed).contactClosed n).of_doors (by simp [doneState])) fun _ => (seen .closed).of_doors (by simp)
  all_goals exact a.of_doors (by simp)

theorem State.DoorsSound.strikeAck (a : s.DoorsSound) (n : Nat) (id : ReqId) : (strikeAck n id s).DoorsSound := by
  refine .ite (fun _ => a.of_doors (by simp)) fun door => .ite (fun awaits => ?_) fun _ => a.of_doors (by simp)
  have door : (s.portal n).isDoor = true := by simpa using door
  have released : (s.portal n).state = .released := by simp at awaits; exact awaits.1
  have p := a.fits n
  obtain ⟨_, serves, free⟩ := p.1.acts (by rw [released]; rfl)
  exact (a.setPortal n (p.move (q := { s.portal n with strikePending := false, strikeTimer := none }) door serves free
    ⟨rfl, rfl, rfl⟩ (by simp [released]) p.1.release p.1.heldOpen rfl nofun)).of_doors (answer_doors _ _ _)

/-! ### The door step (R52) -/

theorem State.DoorsSound.doorStep (a : s.DoorsSound) {n : Nat} (door : (s.portal n).isDoor = true) : (doorStep n s).2.2.DoorsSound := by
  have p := a.fits n
  unfold Machine.doorStep
  dsimp only
  split
  case h_1 secure =>
    obtain ⟨cls, preset, disabled⟩ := Portal.fields_of_masked ((s.portal n).leaving_masked s)
    have heldOpen : ((s.portal n).leaving s).heldOpenTimer = none := by
      have idle := p.1.heldOpen_idle (by simp [secure])
      rcases (s.portal n).leaving_cases s with same | ⟨_, takes⟩
      · rwa [same]
      · rwa [takes]
    refine a.setPortal n (p.move door (p.1.secure_serves door secure) (by simp [secure]) ⟨cls, preset, disabled⟩ nofun (fun _ => rfl)
      (by simp [heldOpen]) ?_ fun _ => rfl)
    dsimp only
    cases ((s.portal n).leaving s).strikeRequired <;> rfl
  case h_2 released =>
    obtain ⟨_, serves, free⟩ := p.1.acts (by rw [released]; rfl)
    exact a.setPortal n (p.move door serves free ⟨rfl, rfl, rfl⟩ (by simp [released]) (fun _ => released) p.1.heldOpen p.1.strike
      p.1.awaited)
  all_goals exact a

theorem State.DoorsSound.remoteRelease (a : s.DoorsSound) (n : Nat) (id : ReqId) : (remoteRelease n id s).DoorsSound := by
  refine .ite (fun _ => a.of_doors (by simp)) fun door => .ite (fun _ => a.of_doors (by simp)) fun _ => ?_
  have after := a.doorStep (n := n) (by simpa using door)
  split <;> rename_i acts <;> rw [acts] at after <;> exact after.of_doors (by simp)

theorem State.DoorsSound.decideDoor (a : s.DoorsSound) (p : Presentation) (e : CardEntry) : (decideDoor p e s).DoorsSound := by
  have refused (r : Result) : (refuseFor p e r s).DoorsSound := a.of_doors (by simp)
  unfold Machine.decideDoor
  refine .ite (fun _ => refused _) fun _ => ?_
  split
  · exact refused _
  · refine .ite (fun _ => refused _) fun serves => .ite (fun _ => refused _) fun _ => .ite (fun _ => refused _) fun _ => ?_
    refine (a.doorStep (n := p.portal) ?_).of_doors (by simp [apply_ite State.doors])
    simp only [Bool.or_eq_true, Bool.not_eq_true', not_or, Bool.not_eq_false] at serves
    exact serves.2

/-! ### Configuration and service (R43 to R46) -/


/-! ### Configuration and service (R43 to R46) -/

/-- A configured portal takes new fields, and is placed (R43). -/
theorem State.DoorsSound.placeAs (a : s.DoorsSound) (n : Nat) {q : Portal} (configured : q.cls ≠ none) :
    (place true n (s.setPortal n q)).DoorsSound := by
  have same := place_doors true n (s.setPortal n q)
  rw [State.setPortal_portal, if_pos rfl, State.setPortal_setPortal s _ _ _ a.wf] at same
  exact (a.setPortal n (Portal.placed_fits q (s.setPortal n q) configured)).of_doors same

theorem State.DoorsSound.portalSet (a : s.DoorsSound) (c : PortalConfig) (id : ReqId) : (portalSet c id s).DoorsSound := by
  unfold Machine.portalSet
  split
  · exact a.of_doors (by simp)
  · rename_i new made
    refine .ite (fun _ => ?_) fun _ => a.of_doors (by simp)
    have configured : ((s.portal c.portal).reconfigured new).cls ≠ none := (configured_cls made : new.cls ≠ none)
    exact (a.placeAs c.portal configured).of_doors (by simp [doneState])

theorem State.DoorsSound.portalDisable (a : s.DoorsSound) (n : Nat) (id : ReqId) : (portalDisable n id s).DoorsSound := by
  have p := a.fits n
  refine .ite (fun _ => a.of_doors (by simp)) fun named => .ite (fun _ => a.of_doors (by simp)) fun _ => ?_
  have configured : (s.portal n).cls ≠ none := by simpa using named
  by_cases held : (s.portal n).state = .emergency
  · have door : (s.portal n).isDoor = true := by
      by_contra plain
      have state := p.1.plain configured (Bool.eq_false_iff.2 plain)
      rw [held] at state
      split at state <;> cases state
    have marked : Portal.Fits s.emu.condition { s.portal n with disabled := true } :=
      ⟨Portal.sound_idle (p.1.idle (by simp [held]) (by simp [held])) configured (fun plain => nomatch door.symm.trans plain)
        (fun _ _ => .inr held) fun _ => nofun, p.2⟩
    exact (a.setPortal n marked).of_doors (by simp [held])
  · have out : Portal.Fits s.emu.condition
        { ((s.portal n).leaving s).stopped with disabled := true, state := .outOfService } := by
      obtain ⟨cls, preset, _⟩ := Portal.fields_of_masked ((s.portal n).leaving_masked s)
      refine ⟨Portal.sound_idle ⟨rfl, rfl, rfl, rfl⟩ (ne_of_eq_of_ne cls configured) (fun _ => rfl) (fun _ _ => .inl rfl) fun _ => nofun,
        fun on door other => ?_⟩
      exact (held (p.2 on ((Portal.isDoor_congr cls).symm.trans door) (ne_of_eq_of_ne preset.symm other))).elim
    exact (a.setPortal n out).of_doors (by simp [held, takeOut, apply_ite State.doors])

theorem State.DoorsSound.portalEnable (a : s.DoorsSound) (n : Nat) (id : ReqId) : (portalEnable n id s).DoorsSound := by
  have p := a.fits n
  refine .ite (fun _ => a.of_doors (by simp)) fun named => .ite (fun _ => a.of_doors (by simp [doneState])) fun _ => ?_
  have configured : (s.portal n).cls ≠ none := by simpa using named
  by_cases held : (s.portal n).state = .emergency
  · have marked : Portal.Fits s.emu.condition { s.portal n with disabled := false } := by
      refine ⟨Portal.sound_idle (p.1.idle (by simp [held]) (by simp [held])) configured (fun plain => ?_) (fun _ => nofun)
        fun _ _ => by simp [held], p.2⟩
      have state := p.1.plain configured plain
      rw [held] at state
      split at state <;> cases state
    exact (a.setPortal n marked).of_doors (by simp [held, doneState])
  · exact (a.placeAs n (q := { s.portal n with disabled := false }) configured).of_doors (by simp [held, doneState])

/-! ### Retiming (R67) -/

theorem State.DoorsSound.retimeRelease (a : s.DoorsSound) (window n : Nat) : (retimeRelease window n s).DoorsSound := by
  unfold Machine.retimeRelease
  dsimp only
  split
  · exact a
  · rename_i timer runs
    have released : (s.portal n).state = .released := (a.fits n).1.release (by simp [runs])
    exact .ite (fun _ => a) fun _ => .ite (fun _ => a.of_doors (by simp)) fun _ => .ite (fun _ => a.strikeFailure released)
      fun _ => (a.releaseEnds released).of_doors (by simp)

theorem retimeOthers_noStrike {n : Nat} (none : (s.portal n).strikeTimer = none) :
    retimeOthers n s = if (s.portal n).heldOpenTimer.any (·.due s.now) then heldOpenEnds n s else s := by
  simp [retimeOthers, none]

theorem retimeOthers_noHeldOpen {n : Nat} (none : (s.portal n).heldOpenTimer = none) :
    retimeOthers n s = if (s.portal n).strikeTimer.any (·.due s.now) then strikeFailure n s else s := by
  simp [retimeOthers, none]

theorem State.DoorsSound.retimeOthers (a : s.DoorsSound) (n : Nat) : (retimeOthers n s).DoorsSound := by
  have p := (a.fits n).1
  by_cases opened : (s.portal n).state = .opened
  · rw [retimeOthers_noStrike (p.strike_idle (by simp [opened]))]
    exact .ite (fun _ => a.heldOpenEnds opened) fun _ => a
  · rw [retimeOthers_noHeldOpen (p.heldOpen_idle opened)]
    exact .ite (fun due => a.strikeFailure (p.released_of_strike (Option.isSome_of_any due))) fun _ => a

theorem State.DoorsSound.retime (a : s.DoorsSound) (x : Timing) (n : Nat) : (retime x s n).DoorsSound := by
  have timed : ((s.portal n).retimed x).Fits s.emu.condition :=
    (a.fits n).congr ⟨rfl, rfl, rfl, rfl⟩ (Option.isSome_map ..) (Option.isSome_map ..) (Option.isSome_map ..) rfl
  exact ((a.setPortal n timed).retimeRelease _ n).retimeOthers n

theorem State.DoorsSound.timingStage (a : s.DoorsSound) (set release heldOpen strike applyNow : Nat) (id : ReqId) :
    (timingStage set release heldOpen strike applyNow id s).DoorsSound := by
  refine .ite (fun _ => a.of_doors (by simp)) fun _ => ?_
  split
  · exact a.of_doors (by simp)
  · have staged : (s.setTiming set (stagedTiming release heldOpen strike)).DoorsSound := ⟨a.wf, a.fits, a.condition⟩
    exact .ite (fun _ => (staged.foldl _ fun u n k => k.retime _ n).of_doors (answer_doors ..)) fun _ => staged.of_doors (answer_doors ..)

end DoorOps

/-! ## The emergency unit's operations (R96 to R105) -/

section Condition

variable {s t : State}

theorem State.Entering.enterEach {ns : List Nat} (a : s.Entering ns) : (ns.foldl (fun s n => enterEmergency true n s) s).DoorsSound := by
  induction ns generalizing s with
  | nil => exact ⟨a.wf, fun n => a.raised.symm ▸ a.held n List.not_mem_nil, a.condition⟩
  | cons n ns ih => exact ih a.enter

theorem mem_doorsToEnter {n : Nat} (wf : Table.wf defaultPortal s.ptu.portals = true) : n ∈ doorsToEnter s ↔
    (s.portal n).isDoor = true ∧ (s.portal n).preset ≠ .normal ∧ (s.portal n).state ≠ .emergency := by
  unfold doorsToEnter
  rw [mem_portalsWhere rfl wf]
  simp [and_assoc]

/-- The condition rises over sound portals (R103). -/
theorem conditionRises_sound (wf : Table.wf defaultPortal s.ptu.portals = true) (sound : ∀ n, (s.portal n).Sound)
    (sources : conditionNow s.emu = true) : (conditionRises s).DoorsSound := by
  let u := tellEmergency (s.withEmu { s.emu with condition := true, latch := true })
  have same : u.doors = (s.withEmu { s.emu with condition := true, latch := true }).doors := tellEmergency_doors
  have read (n : Nat) : u.portal n = s.portal n := portal_of_doors same n
  have table : Table.wf defaultPortal u.ptu.portals = true := by rw [show u.ptu = s.ptu from congrArg Prod.fst same]; exact wf
  have entering : u.Entering (doorsToEnter u) := by
    refine ⟨table, condition_of_doors same, ?_, fun n => read n ▸ sound n, fun n hn => ((mem_doorsToEnter table).1 hn).1, fun n hn => ?_⟩
    · rw [condition_of_doors same]
      exact (sources.symm.trans (congrArg (fun d : Portals × Bool × Bool => d.2.2) same.symm))
    · rw [mem_doorsToEnter table, read] at hn
      rw [read]
      exact ⟨sound n, fun _ door other => by_contra fun free => hn ⟨door, other, free⟩⟩
  exact .ite (fun _ => entering.enterEach.of_doors (startMuster_doors ..)) fun _ => entering.enterEach

theorem configured_of_doors {f : Portal → Bool} (isDoor : ∀ p, f p = true → p.isDoor = true)
    (wf : Table.wf defaultPortal s.ptu.portals = true) : ∀ n ∈ portalsWhere f s, (s.portal n).cls ≠ none :=
  configured_of_portalsWhere (Bool.eq_false_iff.2 fun on => nomatch isDoor _ on)
    (fun p on => Portal.configured_of_isDoor (isDoor p on)) wf

/-- The condition falls, and the doors that resume by themselves are placed (R104). -/
theorem conditionFalls_sound (wf : Table.wf defaultPortal s.ptu.portals = true) (sound : ∀ n, (s.portal n).Sound)
    (sources : conditionNow s.emu = false) : (conditionFalls s).DoorsSound := by
  have fallen : (s.withEmu { s.emu with condition := false }).DoorsSound :=
    ⟨wf, fun n => ⟨sound n, nofun⟩, sources.symm⟩
  have told : (tellEmergency (s.withEmu { s.emu with condition := false })).DoorsSound := fallen.of_doors tellEmergency_doors
  exact told.placeEach (fun u n => resumeDoor_doors n u) _
    (configured_of_doors (fun p on => by simp at on; exact on.1.1) told.wf)

/-- An evaluation makes the condition that of its sources, whatever they have come to. -/
theorem evalCondition_sound (wf : Table.wf defaultPortal s.ptu.portals = true) (fits : ∀ n, (s.portal n).Fits s.emu.condition) :
    (evalCondition s).DoorsSound := by
  unfold evalCondition
  split
  · rename_i same
    exact ⟨wf, fits, same.symm⟩
  · split
    · rename_i sources
      exact conditionRises_sound wf (fun n => (fits n).1) sources
    · rename_i sources
      exact conditionFalls_sound wf (fun n => (fits n).1) (Bool.eq_false_iff.2 sources)

/-- A change of the lines or of the declaration, and the evaluation. -/
theorem State.DoorsSound.evaluated (a : s.DoorsSound) (x : Emergency) (condition : x.condition = s.emu.condition) :
    (evalCondition (s.withEmu x)).DoorsSound :=
  evalCondition_sound a.wf fun n => by rw [State.withEmu_emu, condition]; exact a.fits n

theorem setLine_condition (e : Emergency) (l : AlarmLine) (f : LineFilter) : (e.setLine l f).condition = e.condition := by
  cases l <;> rfl

theorem State.DoorsSound.takeLine (a : s.DoorsSound) (l : AlarmLine) : (takeLine l s).DoorsSound := by
  unfold Machine.takeLine
  split
  · rename_i due
    rw [show settleLine l s = _ from if_pos due]
    exact a.evaluated _ (setLine_condition ..)
  · exact a

/-- A line's filter changes, but not its enable or its debounced level. -/
theorem setLine_doors (l : AlarmLine) (f : LineFilter) (same : f.source = (s.emu.line l).source) :
    (s.withEmu (s.emu.setLine l f)).doors = s.doors := by
  cases l
  · change (s.ptu, s.emu.condition, f.source || s.emu.lineB.source || s.emu.declared) = _
    rw [same]
    rfl
  · change (s.ptu, s.emu.condition, s.emu.lineA.source || f.source || s.emu.declared) = _
    rw [same]
    rfl

theorem State.DoorsSound.alarmLineChange (a : s.DoorsSound) (l : AlarmLine) (high : Bool) : (alarmLineChange l high s).DoorsSound :=
  .ite (fun _ => State.DoorsSound.takeLine ((a.takeLine l).of_doors (setLine_doors l _ (by rfl))) l)
    fun _ => a.of_doors (setLine_doors l _ (by rfl))

theorem State.DoorsSound.debounceExpiry (a : s.DoorsSound) (l : AlarmLine) : (debounceExpiry l s).DoorsSound := by
  unfold Machine.debounceExpiry
  split
  · exact a
  · exact State.DoorsSound.takeLine (a.of_doors (reachTime_doors _)) l

theorem settleLine_shape (l : AlarmLine) (s : State) : ∃ x : Emergency, x.condition = s.emu.condition ∧ settleLine l s = s.withEmu x := by
  unfold settleLine
  dsimp only
  split
  · exact ⟨_, setLine_condition .., rfl⟩
  · exact ⟨s.emu, rfl, rfl⟩

theorem State.DoorsSound.alarmSet (a : s.DoorsSound) (enableA enableB debounce startsMuster : Nat) (id : ReqId) :
    (alarmSet enableA enableB debounce startsMuster id s).DoorsSound := by
  unfold Machine.alarmSet
  split
  · rename_i onA onB starts _ _ _
    let set := s.withEmu { s.emu with
      lineA := { s.emu.lineA with enabled := onA }, lineB := { s.emu.lineB with enabled := onB },
      debounce := clampTo 0 1000 debounce, startsMuster := starts }
    obtain ⟨x, first, settledA⟩ := settleLine_shape .ema set
    obtain ⟨y, second, settledB⟩ := settleLine_shape .emb (settleLine .ema set)
    have both : settleLine .emb (settleLine .ema set) = s.withEmu y := by rw [settledB, settledA]; rfl
    refine State.DoorsSound.of_doors ?_ (answer_doors ..)
    change (evalCondition (settleLine .emb (settleLine .ema set))).DoorsSound
    rw [both]
    refine a.evaluated y (second.trans ?_)
    rw [settledA]
    exact first
  · exact a.of_doors (answer_doors ..)

theorem State.DoorsSound.emergencyDeclare (a : s.DoorsSound) (value : Nat) (id : ReqId) : (emergencyDeclare value id s).DoorsSound := by
  unfold Machine.emergencyDeclare
  split
  · exact a.of_doors (answer_doors ..)
  · rename_i on _
    exact State.DoorsSound.of_doors (a.evaluated { s.emu with declared := on } rfl) (answer_doors ..)

theorem State.DoorsSound.resume (a : s.DoorsSound) (scope n : Nat) (id : ReqId) : (resume scope n id s).DoorsSound := by
  have answered (r : Result) (fs : List Fld) : (answer id r fs s).DoorsSound := a.of_doors (answer_doors ..)
  refine .ite (fun _ => answered ..) fun _ => .ite (fun _ => answered ..) fun _ => .ite (fun _ => ?_) fun _ => ?_
  · refine .ite (fun _ => answered ..) fun door => .ite (fun _ => answered ..) fun _ => ?_
    have configured := Portal.configured_of_isDoor (p := s.portal n) (by simpa using door)
    exact (a.placed configured (resumeDoor_doors n s)).of_doors (answer_doors ..)
  · exact (a.placeEach (fun u n => resumeDoor_doors n u) _
      (configured_of_doors (fun p on => by simp at on; exact on.1) a.wf)).of_doors (answer_doors ..)

end Condition

end Sys2Proof.Machine

namespace Sys2Proof.Machine

open Sys2Proof

/-! ## Every command keeps the portals sound -/

section Presented

variable {s : State}

/-! ### Presentations handed back, and the records that answer them (R7, R8, R16 to R18, R23, R24) -/

theorem State.DoorsSound.handBack (a : s.DoorsSound) (p : Presentation) (e : CardEntry) : (handBack p e s).DoorsSound := by
  unfold Machine.handBack
  split
  · exact a.decideDoor p e
  all_goals exact a.of_doors (by simp)

theorem State.DoorsSound.resumeWith (a : s.DoorsSound) (e : CardEntry) (p : Presentation) : (resumeWith e s p).DoorsSound :=
  .ite (fun _ => a.of_doors (by simp)) fun _ => .ite (fun _ => a.of_doors (by simp)) fun _ => a.handBack p e

theorem State.DoorsSound.present (a : s.DoorsSound) (p : Presentation) : (present p s).DoorsSound := by
  have asked : (askCard p s).2.DoorsSound := a.of_doors (askCard_doors p)
  refine .ite (fun _ => a.of_doors (by simp)) fun _ => ?_
  split <;> rename_i answered <;> rw [answered] at asked
  · exact asked.handBack p _
  · exact asked.of_doors (by simp)
  · exact asked

theorem State.DoorsSound.presentAt (a : s.DoorsSound) (portal card gen : Nat) (id : ReqId) :
    (presentAt portal card gen id s).DoorsSound := by
  unfold Machine.presentAt
  dsimp only
  split
  · exact a.of_doors (by simp)
  · exact .ite (fun _ => a.of_doors (by simp)) fun _ => .ite (fun _ => a.of_doors (by simp)) fun _ =>
      .ite (fun _ => a.of_doors (by simp)) fun _ => a.present _

theorem State.DoorsSound.authorize (a : s.DoorsSound) (portal card gen : Nat) (x : ChargeAmounts) (id : ReqId) :
    (authorize portal card gen x id s).DoorsSound := by
  have refused (r : Result) : (refuse ⟨id.tag, portal, card, gen, .charge x⟩ r s).DoorsSound := a.of_doors (refuse_doors ..)
  exact .ite (fun _ => refused _) fun _ => .ite (fun _ => refused _) fun _ => .ite (fun _ => refused _) fun _ => a.present _

theorem State.DoorsSound.answerFetch (a : s.DoorsSound) (id : ReqId) (n : Nat) (f : Fetch) (fresh : CardEntry) :
    (answerFetch id n f fresh s).DoorsSound := by
  have placed : (placeRecord { fresh with revoked := fresh.revoked || f.revoked } s).2.DoorsSound := a.of_doors (placeRecord_doors _)
  have passed (e : CardEntry) (u : State) (p : Presentation) (k : u.DoorsSound) : (resumePassed e u p).DoorsSound := by
    unfold resumePassed
    split
    · exact k.of_doors (by simp)
    all_goals exact k.resumeWith e p
  unfold Machine.answerFetch
  dsimp only
  split <;> rename_i u put <;> rw [put] at placed <;> refine State.DoorsSound.of_doors ?_ (answer_doors ..)
  · exact (placed.of_doors (setFetch_doors n none)).foldl _ fun u p k => k.resumeWith _ p
  · exact (placed.of_doors (setFetch_doors n none)).foldl _ fun u p k => k.resumeWith _ p
  · exact (placed.of_doors (setFetch_doors n none)).foldl _ fun u p k => passed _ u p k

theorem State.DoorsSound.cardLoad (a : s.DoorsSound) (r : CardRecord) (id : ReqId) : (cardLoad r id s).DoorsSound := by
  have loaded (fresh : CardEntry) : (loadRecord id fresh s).DoorsSound := by
    have placed : (placeRecord fresh s).2.DoorsSound := a.of_doors (placeRecord_doors _)
    unfold loadRecord
    split <;> rename_i put <;> rw [put] at placed <;> exact placed.of_doors (answer_doors ..)
  unfold Machine.cardLoad
  split
  · exact a.of_doors (answer_doors ..)
  · dsimp only
    split
    · exact a.answerFetch id ..
    · exact loaded _

/-! ### Resets (R43, R69, R183, R186, R205, R206) -/

theorem State.DoorsSound.placeAll (a : s.DoorsSound) : (placeAll s).DoorsSound := by
  let u := s.withPtu { s.ptu with portals := Table.update defaultPortal Portal.unread s.ptu.portals }
  have unread : u.DoorsSound := by
    refine ⟨Table.wf_update Portal.unread a.wf, fun n => ?_, a.condition⟩
    rw [show u.portal n = (s.portal n).unread from Table.read_update rfl n a.wf]
    exact (a.fits n).congr ⟨rfl, rfl, rfl, rfl⟩ rfl rfl rfl rfl
  exact unread.placeEach (fun u n => place_doors false n u) _
    (configured_of_portalsWhere rfl (fun p on none => by rw [none] at on; cases on) unread.wf)

theorem State.DoorsSound.warmReset (a : s.DoorsSound) (source : ResetSource) (straps : Straps) : (warmReset source straps s).DoorsSound := by
  have released (u : State) (slot : Nat) : (releaseAtReset u slot).doors = u.doors := by
    unfold releaseAtReset
    split <;> simp
  have holds (u : State) : (resetHolds u).doors = u.doors := by simp [resetHolds, foldl_doors released]
  have dropped (u : State) : (dropAwaiting u).doors = u.doors := rfl
  have cleared : ((strapsStand straps s).withLink (resetLink straps)).DoorsSound := a.of_doors rfl
  have told (n : Notice) : (notify n ((strapsStand straps s).withLink (resetLink straps))).DoorsSound := cleared.of_doors (notify_doors n)
  refine .ite (fun _ => cleared) fun _ => State.DoorsSound.of_doors (State.DoorsSound.placeAll ?_) (holds _)
  exact (told _).of_doors ((dropped _).trans (withCards_doors _))

theorem doorsSound_afterPower (supply : Bool) (check : SelfCheck) (straps : Straps) (s : State) :
    (afterPower supply check straps s).DoorsSound :=
  (reset_portalsSound.doorsSound rfl).of_doors rfl

/-! ### The acceptance of a request (R200) -/

theorem State.DoorsSound.accept (a : s.DoorsSound) (kind : Nat) (h : Hdr) (need : Nat) (always : Bool) {act : ReqId → State → State}
    (step : ∀ id u, u.DoorsSound → (act id u).DoorsSound) : (accept kind h need always act s).DoorsSound := by
  refine .ite (fun _ => ?_) fun _ => a
  have hunting : (s.withLink { s.link with rx := .hunting }).DoorsSound := a.of_doors rfl
  have enlisted (id : ReqId) : (enlist id (s.withLink { s.link with rx := .hunting })).DoorsSound := a.of_doors rfl
  exact .ite (fun _ => hunting.of_doors (report_doors ..)) fun _ => .ite (fun _ => hunting.of_doors (report_doors ..)) fun _ =>
    .ite (fun _ => hunting.of_doors (refuseBusy_doors _)) fun _ => .ite (fun _ => (enlisted _).of_doors (answer_doors ..)) fun _ =>
      .ite (fun _ => (enlisted _).of_doors (answer_doors ..)) fun _ => step _ _ (enlisted _)

theorem State.DoorsSound.powered (a : s.DoorsSound) {act : State → State} (step : (act s).DoorsSound) : (powered act s).DoorsSound :=
  .ite (fun _ => step) fun _ => a

end Presented

/-- The command is carried out and keeps sound portals sound. -/
def KeepsDoors (i : Instr) (s : State) : Prop := ∃ t, exec i s = .next t ∧ (s.DoorsSound → t.DoorsSound)

section Commands

variable {s : State} {i : Instr}

theorem KeepsDoors.accepted {kind need : Nat} {h : Hdr} {always : Bool} {act : ReqId → State → State}
    (result : exec i s = .next (accept kind h need always act s)) (step : ∀ id u, u.DoorsSound → (act id u).DoorsSound) :
    KeepsDoors i s :=
  ⟨_, result, fun a => a.accept kind h need always step⟩

/-- A request that leaves the portals and the condition alone. -/
theorem KeepsDoors.request {kind need : Nat} {h : Hdr} {always : Bool} {act : ReqId → State → State}
    (result : exec i s = .next (accept kind h need always act s)) (step : ∀ id u, (act id u).doors = u.doors) : KeepsDoors i s :=
  .accepted result fun id u a => a.of_doors (step id u)

/-- A request that is answered and does nothing else. -/
theorem KeepsDoors.answered {kind need : Nat} {h : Hdr} {always : Bool} {act : ReqId → State → State}
    (result : exec i s = .next (accept kind h need always act s)) (step : ∀ id u, Says u (act id u)) : KeepsDoors i s :=
  .request result fun id u => (step id u).doors

theorem KeepsDoors.event {act : State → State} (result : exec i s = .next (powered act s))
    (step : s.DoorsSound → (act s).DoorsSound) : KeepsDoors i s :=
  ⟨_, result, fun a => a.powered (step a)⟩

/-- An event that leaves the portals and the condition alone. -/
theorem KeepsDoors.quiet {act : State → State} (result : exec i s = .next (powered act s)) (same : (act s).doors = s.doors) :
    KeepsDoors i s :=
  .event result fun a => a.of_doors same

/-- A command that leaves the portals and the condition alone. -/
theorem KeepsDoors.own {t : State} (result : exec i s = .next t) (same : t.doors = s.doors) : KeepsDoors i s :=
  ⟨t, result, fun a => a.of_doors same⟩

/-- Each command, by the operation that carries it out. -/
theorem keepsDoors (s : State) : ∀ i : Instr, KeepsDoors i s
  | .powerLoss => ⟨_, rfl, fun _ => doorsSound_afterPower ..⟩
  | .coldReset .. => ⟨_, rfl, fun _ => doorsSound_afterPower ..⟩
  | .storeScan => .quiet rfl storeScan_doors
  | .resetAsserted => .own rfl rfl
  | .warmReset straps =>
    ⟨_, rfl, fun a =>
      have released : (resetReleased s).DoorsSound := a.of_doors rfl
      released.powered (released.warmReset .line straps)⟩
  | .holdLineChange _ =>
    ⟨_, rfl, fun a =>
      have pin (x : Pins) : State.DoorsSound { s with pins := x } := a.of_doors rfl
      (pin _).powered ((pin _).of_doors startTx_doors)⟩
  | .frameSent => .quiet rfl frameSent_doors
  | .byteGapTimeout bytes => .own rfl (abandonFrame_doors bytes)
  | .frameAbandoned bytes => .own rfl (abandonFrame_doors bytes)
  | .frameDiscarded => .own rfl frameDiscarded_doors
  | .unknownKind .. => .answered rfl fun id u => says_answer u id _ _
  | .ping .. => .answered rfl fun id u => says_answer u id _ _
  | .status .. => .request rfl fun _ _ => answer_doors ..
  | .restart h => .accepted rfl fun id _ a => a.warmReset (.request id.tag) h.straps
  | .linkQuery .. => .answered rfl fun id u => says_answer u id _ _
  | .cardLoad _ r => .accepted rfl fun id _ a => a.cardLoad r id
  | .cardUnknown .. => .request rfl fun _ _ => cardUnknown_doors ..
  | .cardRevoke .. => .request rfl fun _ _ => cardRevoke_doors ..
  | .cardResident .. => .request rfl fun _ _ => cardResident_doors ..
  | .cardQuery .. => .request rfl fun _ _ => cardQuery_doors ..
  | .flush .. => .request rfl fun _ _ => flush_doors ..
  | .wayDisable .. => .request rfl fun _ _ => wayDisable_doors ..
  | .wayRestore .. => .request rfl fun _ _ => wayRestore_doors ..
  | .wayQuery .. => .request rfl fun _ _ => wayQuery_doors ..
  | .fetchWaitSet .. => .request rfl fun _ _ => answer_doors ..
  | .fetchExpiry n => .quiet rfl (fetchExpiry_doors n)
  | .secondCount => .quiet rfl secondCount_doors
  | .dayRollover => .quiet rfl evaluateDay_doors
  | .dayWriteRetry => .quiet rfl retryDay_doors
  | .timeSet .. => .request rfl fun _ _ => timeSet_doors ..
  | .rolloverSet .. => .request rfl fun _ _ => rolloverSet_doors ..
  | .clockQuery .. => .answered rfl fun id u => says_answer u id _ _
  | .present _ portal card gen => .accepted rfl fun id _ a => a.presentAt portal card gen id
  | .portalSet _ c => .accepted rfl fun id _ a => a.portalSet c id
  | .portalDisable _ n => .accepted rfl fun id _ a => a.portalDisable n id
  | .portalEnable _ n => .accepted rfl fun id _ a => a.portalEnable n id
  | .portalQuery .. => .answered rfl fun id u => says_answer u id _ _
  | .portalScan .. => .answered rfl fun id u => says_answer u id _ _
  | .contact _ n position => .accepted rfl fun id _ a => a.contact n position id
  | .strikeAck _ n => .accepted rfl fun id _ a => a.strikeAck n id
  | .remoteRelease _ n => .accepted rfl fun id _ a => a.remoteRelease n id
  | .timingStage _ set release heldOpen strike applyNow =>
    .accepted rfl fun id _ a => a.timingStage set release heldOpen strike applyNow id
  | .timingQuery _ set => .answered rfl (says_timingQuery set)
  | .releaseTimerExpiry n => .event rfl fun a => a.releaseExpiry n
  | .strikeConfirmExpiry n => .event rfl fun a => a.strikeExpiry n
  | .heldOpenExpiry n => .event rfl fun a => a.heldOpenExpiry n
  | .capacitySet .. => .request rfl fun _ _ => capacitySet_doors ..
  | .guardSet .. => .request rfl fun _ _ => answer_doors ..
  | .capacityAck .. => .request rfl fun _ _ => answer_doors ..
  | .deadlineSet .. => .request rfl fun _ _ => deadlineSet_doors ..
  | .deadlineEvent => .quiet rfl takeDeadline_doors
  | .enrol .. => .request rfl fun _ _ => enrol_doors ..
  | .discharge .. => .request rfl fun _ _ => discharge_doors ..
  | .presenceSet .. => .request rfl fun _ _ => presenceSet_doors ..
  | .presenceCounts .. => .answered rfl fun id u => says_answer u id _ _
  | .personQuery _ person => .answered rfl (says_personQuery person)
  | .rollRead _ start state kind => .answered rfl (says_rollRead start state kind)
  | .alarmLineChange line high => ⟨_, rfl, fun a => a.alarmLineChange line high⟩
  | .debounceExpiry line => .event rfl fun a => a.debounceExpiry line
  | .alarmSet _ enableA enableB debounce startsMuster =>
    .accepted rfl fun id _ a => a.alarmSet enableA enableB debounce startsMuster id
  | .emergencyDeclare _ value => .accepted rfl fun id _ a => a.emergencyDeclare value id
  | .emergencyClear .. => .request rfl fun _ _ => emergencyClear_doors ..
  | .resume _ scope n => .accepted rfl fun id _ a => a.resume scope n id
  | .musterStart .. => .request rfl fun _ _ => musterStart_doors ..
  | .musterEnd .. => .request rfl fun _ _ => musterEnd_doors ..
  | .musterWriteRetry => .quiet rfl retryRecord_doors
  | .musterQuery .. => .answered rfl fun id u => says_answer u id _ _
  | .musterRead _ start => .answered rfl (says_musterRead start)
  | .emergencyQuery .. => .answered rfl fun id u => says_answer u id _ _
  | .authorize _ portal card gen x => .accepted rfl fun id _ a => a.authorize portal card gen x id
  | .commit .. => .request rfl fun _ _ => commit_doors ..
  | .voidHold .. => .request rfl fun _ _ => voidHold_doors ..
  | .holdExpiry slot => .quiet rfl (expireIfDue_doors slot)
  | .holdTimeSet .. => .request rfl fun _ _ => answer_doors ..
  | .holdQuery _ slot => .answered rfl (says_holdQuery slot)
  | .holdScan .. => .answered rfl fun id u => says_answer u id _ _
  | .folioLoad .. => .request rfl fun _ _ => folioLoad_doors ..
  | .folioPost .. => .request rfl fun _ _ => folioPost_doors ..
  | .folioFreeze .. => .request rfl fun _ _ => moveFolio_doors ..
  | .folioOpen .. => .request rfl fun _ _ => moveFolio_doors ..
  | .folioClose .. => .request rfl fun _ _ => folioClose_doors ..
  | .folioQuery _ n => .answered rfl (says_folioQuery n)
  | .tariffStage .. => .request rfl fun _ _ => tariffStage_doors ..
  | .tariffDiscard .. => .request rfl fun _ _ => answer_doors ..
  | .tariffQuery _ which => .answered rfl (says_tariffQuery which)
  | .journalRead _ start count => .answered rfl (says_journalRead start count)
  | .settle .. => .request rfl fun _ _ => settle_doors ..
  | .storeQuery .. => .answered rfl fun id u => says_answer u id _ _
  | .storeWriteBegin => .quiet rfl beginWrite_doors
  | .storeAttemptEnd .. => .quiet rfl (attemptEnd_doors _)
  | .severitySet .. => .request rfl fun _ _ => severitySet_doors ..
  | .faultRead .. => .answered rfl fun id u => says_answer u id _ _
  | .faultClear .. => .request rfl fun _ _ => answer_doors ..

end Commands

/-- Settles O59: an operation that leaves the portals and the condition alone keeps them sound (`State.DoorsSound.of_doors`); those of
the doors, of the alarm lines and of the resets move each portal to a state its class may take (`Portal.Fits.move`,
`Portal.placed_fits`) and evaluate the condition (`evalCondition_sound`). -/
theorem portalsStaySound : Obligations.PortalsStaySound := by
  intro s t sound canonical x
  have a : s.DoorsSound := sound.doorsSound canonical.portals
  unfold step at x
  split at x
  · cases x
    have ticked : (tick s).doors = s.doors := by simp [tick, apply_ite State.doors]
    exact (a.of_doors ticked).portalsSound
  · rename_i c rest _
    obtain ⟨u, result, keeps⟩ := keepsDoors (s.withPending rest) c
    cases result.symm.trans x
    exact (keeps (a.of_doors rfl)).portalsSound

end Sys2Proof.Machine

namespace Sys2Proof.Machine

open Sys2Proof

/-! ## The door timers (R58, R59, R62) -/

section Timers

variable {s : State} {n : Nat}

/-- An alarm that records no fault is its notice (R55). -/
theorem alarm_told {k : DoorAlarm} (quiet : k.fault = none) :
    alarm n k s = notify (.doorAlarm n k (s.portal n).state s.clock.shipTime) s := by simp [alarm, quiet]

/-- One that records a fault is its notice, then the report (R55). -/
theorem alarm_recorded {k : DoorAlarm} {f : FaultKind} (fault : k.fault = some f) :
    alarm n k s = report f { portal := some n } (notify (.doorAlarm n k (s.portal n).state s.clock.shipTime) s) := by
  simp [alarm, fault]

/-- A portal with its timers stopped, in another state. -/
def Portal.ended (p : Portal) (st : PortalState) : Portal :=
  { p with state := st, releaseTimer := none, heldOpenTimer := none, strikeTimer := none, strikePending := false }

/-- A strike failure, written out (R58). -/
theorem strikeFailure_eq (n : Nat) (s : State) : strikeFailure n s =
    notify (.portalDrive n .relock) (report .strikeFault { portal := some n }
      (notify (.doorAlarm n .strike .secure s.clock.shipTime) (s.setPortal n ((s.portal n).ended .secure)))) := by
  unfold strikeFailure drive
  rw [alarm_recorded rfl, State.setPortal_portal, if_pos rfl]
  rfl

/-- The end of a held-open limit, written out (R62). -/
theorem heldOpenEnds_eq (n : Nat) (s : State) : heldOpenEnds n s = report .doorHeld { portal := some n }
    (notify (.doorAlarm n .held .heldOpen s.clock.shipTime) (s.setPortal n ((s.portal n).ended .heldOpen))) := by
  unfold heldOpenEnds
  rw [alarm_recorded rfl, State.setPortal_portal, if_pos rfl]
  rfl

end Timers

/-- Settles O23. -/
theorem doorTimersExpire : Obligations.DoorTimersExpire := by
  intro s n supply p at' stopped alarmed failed
  have release := exec_powered (i := .releaseTimerExpiry n) rfl supply
  have strike := exec_powered (i := .strikeConfirmExpiry n) rfl supply
  have heldOpen := exec_powered (i := .heldOpenExpiry n) rfl supply
  refine ⟨fun timer runs => ⟨fun awaited => ?_, fun free => ?_⟩, fun timer runs => ?_, fun timer runs => ?_, fun idle => ?_,
    fun idle => ?_, fun idle => ?_⟩
  · have fails : releaseExpiry n s = strikeFailure n (reachTime (timer.start + timer.limit) s) := by
      unfold releaseExpiry
      rw [show (s.portal n).releaseTimer = some timer from runs]
      exact if_pos awaited
    rw [release, fails, strikeFailure_eq]
    rfl
  · have ends : releaseExpiry n s = releaseEnds n (reachTime (timer.start + timer.limit) s) := by
      unfold releaseExpiry
      rw [show (s.portal n).releaseTimer = some timer from runs]
      exact if_neg (Bool.eq_false_iff.1 free)
    rw [release, ends]
    rfl
  · have fails : strikeExpiry n s = strikeFailure n (reachTime (timer.start + timer.limit) s) := by
      unfold strikeExpiry
      rw [show (s.portal n).strikeTimer = some timer from runs]
    rw [strike, fails, strikeFailure_eq]
    rfl
  · have ends : heldOpenExpiry n s = heldOpenEnds n (reachTime (timer.start + timer.limit) s) := by
      unfold heldOpenExpiry
      rw [show (s.portal n).heldOpenTimer = some timer from runs]
    rw [heldOpen, ends, heldOpenEnds_eq]
    rfl
  · rw [release, releaseExpiry, show (s.portal n).releaseTimer = none from idle]
  · rw [strike, strikeExpiry, show (s.portal n).strikeTimer = none from idle]
  · rw [heldOpen, heldOpenExpiry, show (s.portal n).heldOpenTimer = none from idle]

/-! ## Requests to a lock (R57, R63) -/

section Taken

variable {s : State} {h : Hdr} {n : Nat}

theorem exec_strikeAck (a : s.Accepts h 1) :
    exec (.strikeAck h n) s = .next (strikeAck n ⟨Kind.strikeAck, h.tag⟩ (s.taken Kind.strikeAck h)) :=
  congrArg _ (accept_owner a)

theorem exec_remoteRelease (a : s.Accepts h 1) :
    exec (.remoteRelease h n) s = .next (remoteRelease n ⟨Kind.remoteRelease, h.tag⟩ (s.taken Kind.remoteRelease h)) :=
  congrArg _ (accept_owner a)

theorem exec_contact {position : Nat} (a : s.Accepts h 2) :
    exec (.contact h n position) s = .next (contact n position ⟨Kind.contact, h.tag⟩ (s.taken Kind.contact h)) :=
  congrArg _ (accept_owner a)

theorem exec_portalSet {c : PortalConfig} (a : s.Accepts h 12) :
    exec (.portalSet h c) s = .next (portalSet c ⟨Kind.portalSet, h.tag⟩ (s.taken Kind.portalSet h)) :=
  congrArg _ (accept_owner a)

theorem exec_portalDisable (a : s.Accepts h 1) :
    exec (.portalDisable h n) s = .next (portalDisable n ⟨Kind.portalDisable, h.tag⟩ (s.taken Kind.portalDisable h)) :=
  congrArg _ (accept_owner a)

theorem exec_portalEnable (a : s.Accepts h 1) :
    exec (.portalEnable h n) s = .next (portalEnable n ⟨Kind.portalEnable, h.tag⟩ (s.taken Kind.portalEnable h)) :=
  congrArg _ (accept_owner a)

theorem exec_timingStage {set release heldOpen strike applyNow : Nat} (a : s.Accepts h 12) :
    exec (.timingStage h set release heldOpen strike applyNow) s =
      .next (timingStage set release heldOpen strike applyNow ⟨Kind.timingStage, h.tag⟩ (s.taken Kind.timingStage h)) :=
  congrArg _ (accept_owner a)

/-- A request that answers: its step is the reply to it (R204). -/
theorem next_replied {f t : State} {k : Nat} {r : Result} {fs : List Fld} (answered : f = answer ⟨k, h.tag⟩ r fs t) :
    (.next f : Host.Outcome State Fault Refusal) = .next (t.replied k h r fs) :=
  congrArg _ (answered.trans (answer_replied ..))

end Taken

section Lock

variable {s t : State} {n : Nat} {id : ReqId}

theorem strikeAck_notDoor (plain : (s.portal n).isDoor = false) : strikeAck n id s = answer id .notDoor [] s := by
  simp [strikeAck, plain]

theorem strikeAck_taken (door : (s.portal n).isDoor = true) (released : (s.portal n).state = .released)
    (awaited : (s.portal n).strikePending = true) : strikeAck n id s =
      answer id .done [.n1 0] (s.setPortal n { s.portal n with strikePending := false, strikeTimer := none }) := by
  simp [strikeAck, door, released, awaited]

theorem strikeAck_ignored (door : (s.portal n).isDoor = true)
    (other : ¬ ((s.portal n).state = .released ∧ (s.portal n).strikePending = true)) :
    strikeAck n id s = answer id .done [.n1 1] s := by
  simp [strikeAck, door]
  exact fun released awaited => (other ⟨released, awaited⟩).elim

theorem remoteRelease_notDoor (plain : (s.portal n).isDoor = false) : remoteRelease n id s = answer id .notDoor [] s := by
  simp [remoteRelease, plain]

theorem remoteRelease_disabled (door : (s.portal n).isDoor = true) (disabled : (s.portal n).disabled = true) :
    remoteRelease n id s = answer id .outOfService [] s := by
  simp [remoteRelease, door, disabled]

theorem remoteRelease_admitted {release : Nat} (door : (s.portal n).isDoor = true) (serves : (s.portal n).disabled = false)
    (step : doorStep n s = (.admitted, release, t)) : remoteRelease n id s = answer id .done [.n4 release] t := by
  simp [remoteRelease, door, serves, step]

theorem remoteRelease_refused {release : Nat} (door : (s.portal n).isDoor = true) (serves : (s.portal n).disabled = false)
    (step : doorStep n s = (.emergency, release, t)) : remoteRelease n id s = answer id .emergency [] t := by
  simp [remoteRelease, door, serves, step]

theorem doorStep_released (st : (s.portal n).state = .released) : doorStep n s = (.admitted, (s.portal n).captured.release,
    s.setPortal n { s.portal n with releaseTimer := some ⟨s.now, 1000 * (s.portal n).captured.release⟩ }) := by
  simp [doorStep, st, Timing.releaseMs]

theorem doorStep_opened (st : (s.portal n).state = .opened ∨ (s.portal n).state = .heldOpen ∨ (s.portal n).state = .forced) :
    doorStep n s = (.admitted, (s.portal n).captured.release, s) := by
  rcases st with st | st | st <;> simp [doorStep, st]

theorem doorStep_heldReleased (st : (s.portal n).state = .emergency) (preset : (s.portal n).preset = .release) :
    doorStep n s = (.admitted, 0, s) := by
  simp [doorStep, st, preset]

theorem doorStep_lockedDown (st : (s.portal n).state = .emergency) (preset : (s.portal n).preset = .lockdown) :
    doorStep n s = (.emergency, 0, s) := by
  simp [doorStep, st, preset]

end Lock

/-- Settles O21. -/
theorem lockRequestsAnswered : Obligations.LockRequestsAnswered := by
  constructor
  · intro s h n a
    dsimp only
    rw [exec_strikeAck a]
    let u := s.taken Kind.strikeAck h
    exact ⟨fun plain => next_replied (strikeAck_notDoor (s := u) plain),
      fun door released awaited => next_replied (strikeAck_taken (s := u) door released awaited),
      fun door other => next_replied (strikeAck_ignored (s := u) door other)⟩
  · intro s h n a
    dsimp only
    rw [exec_remoteRelease a]
    let u := s.taken Kind.remoteRelease h
    refine ⟨fun plain => next_replied (remoteRelease_notDoor (s := u) plain),
      fun door disabled => next_replied (remoteRelease_disabled (s := u) door disabled), fun door serves => ?_⟩
    have admitted {release : Nat} {t : State} (step : doorStep n u = (.admitted, release, t)) :=
      remoteRelease_admitted (s := u) (id := ⟨Kind.remoteRelease, h.tag⟩) door serves step
    exact ⟨fun st => next_replied (admitted (doorStep_secure (s := u) door st)),
      fun st => next_replied (admitted (doorStep_released (s := u) st)),
      fun st => next_replied (admitted (doorStep_opened (s := u) st)),
      fun st preset => next_replied (admitted (doorStep_heldReleased (s := u) st preset)),
      fun st preset => next_replied (remoteRelease_refused (s := u) door serves (doorStep_lockedDown (s := u) st preset))⟩

end Sys2Proof.Machine

namespace Sys2Proof.Machine

open Sys2Proof

/-! ## Contact positions (R56, R60, R61, R64) -/

section Contact

variable {s t : State} {n position : Nat} {id : ReqId} {q : Portal}

/-- A portal with another contact position. -/
def Portal.seen (p : Portal) (c : Contact) : Portal := { p with contact := c }

/-- The position is kept on every portal, and only on a door is it applied. -/
theorem contact_opened : contact n 0 id s =
    if (s.portal n).isDoor then doneState id n (contactOpen n (s.setPortal n ((s.portal n).seen .opened)))
    else answer id .notDoor [] (s.setPortal n ((s.portal n).seen .opened)) := by
  unfold contact
  rw [show enumOf contacts 0 = some .opened from rfl]
  dsimp only
  rw [State.setPortal_portal, if_pos rfl]
  rfl

theorem contact_closed : contact n 1 id s =
    if (s.portal n).isDoor then doneState id n (contactClosed n (s.setPortal n ((s.portal n).seen .closed)))
    else answer id .notDoor [] (s.setPortal n ((s.portal n).seen .closed)) := by
  unfold contact
  rw [show enumOf contacts 1 = some .closed from rfl]
  dsimp only
  rw [State.setPortal_portal, if_pos rfl]
  rfl

theorem contact_badValue (other : 1 < position) : contact n position id s = answer id .badValue [] s := by
  match position, other with
  | 2, _ => rfl
  | _ + 3, _ => rfl

/-- The contact is applied, and the reply carries the code of the state reached. -/
theorem contact_opened_applied {st : PortalState} (door : (s.portal n).isDoor = true)
    (applied : contactOpen n (s.setPortal n ((s.portal n).seen .opened)) = t) (reached : (t.portal n).state = st) :
    contact n 0 id s = answer id .done [.n1 (enumCode portalStates st)] t := by
  rw [contact_opened, if_pos door, applied, doneState, stateCode, reached]

theorem contact_closed_applied {st : PortalState} (door : (s.portal n).isDoor = true)
    (applied : contactClosed n (s.setPortal n ((s.portal n).seen .closed)) = t) (reached : (t.portal n).state = st) :
    contact n 1 id s = answer id .done [.n1 (enumCode portalStates st)] t := by
  rw [contact_closed, if_pos door, applied, doneState, stateCode, reached]

/-- The portal just written is what a reader of a state with the same doors sees. -/
theorem portal_written (same : t.doors = (s.setPortal n q).doors) : t.portal n = q := by
  rw [portal_of_doors same, State.setPortal_portal, if_pos rfl]

/-- A portal written twice, and a cleared alarm: the second write and the notice with its state. -/
theorem alarm_written {k : DoorAlarm} (quiet : k.fault = none) : alarm n k (s.setPortal n q) =
    notify (.doorAlarm n k q.state s.clock.shipTime) (s.setPortal n q) := by
  rw [alarm_told quiet, State.setPortal_portal, if_pos rfl]; rfl

theorem forced_written : alarm n .forced (s.setPortal n q) = report .doorForced { portal := some n }
    (notify (.doorAlarm n .forced q.state s.clock.shipTime) (s.setPortal n q)) := by
  rw [alarm_recorded rfl, State.setPortal_portal, if_pos rfl]; rfl

section Written

variable (canonical : Table.wf defaultPortal s.ptu.portals = true)
include canonical

theorem contactOpen_secure (q : Portal) (st : q.state = .secure) (door : q.isDoor = true) : contactOpen n (s.setPortal n q) =
    report .doorForced { portal := some n } (notify (.doorAlarm n .forced .forced s.clock.shipTime)
      (s.setPortal n { q with captured := s.timing q.timingSet, state := .forced })) := by
  have leaves : contactOpen n (s.setPortal n q) =
      alarm n .forced (s.setPortal n { q with captured := s.timing q.timingSet, state := .forced }) := by
    simp [contactOpen, st, Portal.leaving, door, State.setPortal_setPortal _ _ _ _ canonical]
  rw [leaves, forced_written]

theorem contactOpen_released (q : Portal) (st : q.state = .released) :
    contactOpen n (s.setPortal n q) =
      s.setPortal n { q with
        state := .opened, releaseTimer := none, heldOpenTimer := some ⟨s.now, 1000 * q.captured.heldOpen⟩, strikeTimer := none,
        strikePending := false } := by
  simp [contactOpen, st, State.setPortal_setPortal _ _ _ _ canonical, Portal.stopped, Timing.heldOpenMs]

theorem contactClosed_opened (q : Portal) (st : q.state = .opened) :
    contactClosed n (s.setPortal n q) = s.setPortal n (q.ended .secure) := by
  simp [contactClosed, st, State.setPortal_setPortal _ _ _ _ canonical, Portal.ended, Portal.stopped]

theorem contactClosed_heldOpen (q : Portal) (st : q.state = .heldOpen) : contactClosed n (s.setPortal n q) =
    notify (.doorAlarm n .heldCleared .secure s.clock.shipTime) (s.setPortal n (q.ended .secure)) := by
  have clears : contactClosed n (s.setPortal n q) = alarm n .heldCleared (s.setPortal n (q.ended .secure)) := by
    simp [contactClosed, st, State.setPortal_setPortal _ _ _ _ canonical, Portal.ended, Portal.stopped]
  rw [clears, alarm_written rfl]
  rfl

theorem contactClosed_forced (q : Portal) (st : q.state = .forced) : contactClosed n (s.setPortal n q) =
    notify (.doorAlarm n .forcedCleared .secure s.clock.shipTime) (s.setPortal n (q.ended .secure)) := by
  have clears : contactClosed n (s.setPortal n q) = alarm n .forcedCleared (s.setPortal n (q.ended .secure)) := by
    simp [contactClosed, st, State.setPortal_setPortal _ _ _ _ canonical, Portal.ended, Portal.stopped]
  rw [clears, alarm_written rfl]
  rfl

end Written

theorem contactOpen_lockdown (q : Portal) (st : q.state = .emergency) (preset : q.preset = .lockdown) :
    contactOpen n (s.setPortal n q) = report .doorForced { portal := some n }
      (notify (.doorAlarm n .forced .emergency s.clock.shipTime) (s.setPortal n q)) := by
  have forced : contactOpen n (s.setPortal n q) = alarm n .forced (s.setPortal n q) := by simp [contactOpen, st, preset]
  rw [forced, forced_written, st]

theorem contactOpen_release (q : Portal) (st : q.state = .emergency) (preset : q.preset = .release) :
    contactOpen n (s.setPortal n q) = s.setPortal n q := by
  simp [contactOpen, st, preset]

theorem contactOpen_kept (q : Portal)
    (st : q.state = .opened ∨ q.state = .heldOpen ∨ q.state = .forced ∨ q.state = .outOfService) :
    contactOpen n (s.setPortal n q) = s.setPortal n q := by
  rcases st with st | st | st | st <;> simp [contactOpen, st]

theorem contactClosed_kept (q : Portal)
    (st : q.state = .secure ∨ q.state = .released ∨ q.state = .emergency ∨ q.state = .outOfService) :
    contactClosed n (s.setPortal n q) = s.setPortal n q := by
  rcases st with st | st | st | st <;> simp [contactClosed, st]

section Applied

variable (door : (s.portal n).isDoor = true) {st : PortalState} {x : Notice} {k : FaultKind}
include door

/-- A position that only rewrites the portal: the reply carries the code of the state written. -/
theorem contact_opened_placed (state : q.state = st)
    (applied : contactOpen n (s.setPortal n ((s.portal n).seen .opened)) = s.setPortal n q) :
    contact n 0 id s = answer id .done [.n1 (enumCode portalStates st)] (s.setPortal n q) :=
  contact_opened_applied door applied (by rw [portal_written rfl, state])

theorem contact_closed_placed (state : q.state = st)
    (applied : contactClosed n (s.setPortal n ((s.portal n).seen .closed)) = s.setPortal n q) :
    contact n 1 id s = answer id .done [.n1 (enumCode portalStates st)] (s.setPortal n q) :=
  contact_closed_applied door applied (by rw [portal_written rfl, state])

theorem contact_opened_recorded (state : q.state = st) (applied : contactOpen n (s.setPortal n ((s.portal n).seen .opened)) =
      report k { portal := some n } (notify x (s.setPortal n q))) :
    contact n 0 id s =
      answer id .done [.n1 (enumCode portalStates st)] (report k { portal := some n } (notify x (s.setPortal n q))) :=
  contact_opened_applied door applied (by rw [portal_written ((report_doors ..).trans (notify_doors ..)), state])

theorem contact_closed_told (state : q.state = st)
    (applied : contactClosed n (s.setPortal n ((s.portal n).seen .closed)) = notify x (s.setPortal n q)) :
    contact n 1 id s = answer id .done [.n1 (enumCode portalStates st)] (notify x (s.setPortal n q)) :=
  contact_closed_applied door applied (by rw [portal_written (notify_doors ..), state])

end Applied

end Contact

/-- Settles O20. -/
theorem contactApplied : Obligations.ContactApplied := by
  intro s h n a canonical
  dsimp only
  simp only [exec_contact a]
  let u := s.taken Kind.contact h
  have wf : Table.wf defaultPortal u.ptu.portals = true := canonical.portals
  refine ⟨fun position other => next_replied (contact_badValue other), fun plain => ⟨?_, ?_⟩, fun door => ?_⟩
  · exact next_replied (contact_opened.trans (if_neg (by rw [State.taken_portal, plain]; nofun)))
  · exact next_replied (contact_closed.trans (if_neg (by rw [State.taken_portal, plain]; nofun)))
  let opened := (u.portal n).seen .opened
  let closed := (u.portal n).seen .closed
  refine ⟨fun st => ⟨next_replied ?_, next_replied ?_⟩, fun st => ⟨next_replied ?_, next_replied ?_⟩,
    fun st => ⟨next_replied ?_, next_replied ?_⟩, fun st => ⟨next_replied ?_, next_replied ?_⟩,
    fun st => ⟨next_replied ?_, next_replied ?_⟩, fun st => ⟨next_replied ?_, next_replied ?_⟩,
    fun st => ⟨fun preset => next_replied ?_, fun preset => next_replied ?_, next_replied ?_⟩⟩
  · exact (contact_opened_recorded (s := u) door rfl (contactOpen_secure wf opened st door) :)
  · exact (contact_closed_placed (s := u) (q := closed) door st (contactClosed_kept closed (.inl st)) :)
  · exact (contact_opened_placed (s := u) door rfl (contactOpen_released wf opened st) :)
  · exact (contact_closed_placed (s := u) (q := closed) door st (contactClosed_kept closed (.inr (.inl st))) :)
  · exact (contact_opened_placed (s := u) (q := opened) door st (contactOpen_kept opened (.inl st)) :)
  · exact (contact_closed_placed (s := u) door rfl (contactClosed_opened wf closed st) :)
  · exact (contact_opened_placed (s := u) (q := opened) door st (contactOpen_kept opened (.inr (.inl st))) :)
  · exact (contact_closed_told (s := u) door rfl (contactClosed_heldOpen wf closed st) :)
  · exact (contact_opened_placed (s := u) (q := opened) door st (contactOpen_kept opened (.inr (.inr (.inl st)))) :)
  · exact (contact_closed_told (s := u) door rfl (contactClosed_forced wf closed st) :)
  · exact (contact_opened_placed (s := u) (q := opened) door st (contactOpen_kept opened (.inr (.inr (.inr st)))) :)
  · exact (contact_closed_placed (s := u) (q := closed) door st (contactClosed_kept closed (.inr (.inr (.inr st)))) :)
  · exact (contact_opened_recorded (s := u) (q := opened) door st (contactOpen_lockdown opened st preset) :)
  · exact (contact_opened_placed (s := u) (q := opened) door st (contactOpen_release opened st preset) :)
  · exact (contact_closed_placed (s := u) (q := closed) door st (contactClosed_kept closed (.inr (.inr (.inl st)))) :)

end Sys2Proof.Machine

namespace Sys2Proof.Machine

open Sys2Proof

/-! ## Placement of a portal just written (R43, R102) -/

section Placed

variable {s : State} {n : Nat} {q : Portal}

/-- A portal whose timing set is copied only from SECURE, and only of a door (R66). -/
theorem Portal.leaving_eq (p : Portal) (s : State) : p.leaving s =
    { p with captured := if p.state = .secure ∧ p.isDoor = true then s.timing p.timingSet else p.captured } := by
  unfold Portal.leaving
  by_cases leaves : p.state = .secure ∧ p.isDoor = true
  · rw [if_pos leaves, if_pos (by rw [leaves.1, leaves.2]; rfl)]
  · rw [if_neg leaves, if_neg (by simpa using leaves)]

/-- Whether the emergency condition holds a door: its preset is not NORMAL and the condition is true (R102). -/
def Portal.heldBy (p : Portal) (condition : Bool) : Bool := p.isDoor && p.preset != .normal && condition

theorem Portal.heldBy_iff {p : Portal} {condition : Bool} :
    p.heldBy condition = true ↔ p.isDoor = true ∧ p.preset ≠ .normal ∧ condition = true := by
  simp [Portal.heldBy, and_assoc]

theorem Portal.heldBy_eq_false {p : Portal} {condition : Bool} :
    p.heldBy condition = false ↔ p.isDoor = false ∨ p.preset = .normal ∨ condition = false := by
  rw [← Bool.not_eq_true, Portal.heldBy_iff, not_and_or, not_and_or, not_not, Bool.not_eq_true, Bool.not_eq_true]

/-- Only SECURE copies the timing set. -/
theorem Portal.entered_of_out (st : q.state = .outOfService) : q.entered s = q.ended .emergency := by
  simp [Portal.entered, Portal.leaving, st, Portal.ended, Portal.stopped]

variable (canonical : Table.wf defaultPortal s.ptu.portals = true)
include canonical

theorem place_written_held (held : q.heldBy s.emu.condition = true) (st : q.state = .secure ∨ q.state = .outOfService) :
    place true n (s.setPortal n q) =
      notify (.portalDrive n (if q.preset = .release then .holdReleased else .relock)) (s.setPortal n (q.entered s)) := by
  have read : (s.setPortal n q).portal n = q := portal_written rfl
  have enters : (q.isDoor && q.preset != .normal && (s.setPortal n q).emu.condition) = true := held
  have other : q.state ≠ .emergency := by rcases st with st | st <;> rw [st] <;> nofun
  have quiet (t : State) : clearAlarm n q.state t = t := by rcases st with st | st <;> rw [st] <;> rfl
  rw [place, read, if_pos enters, if_neg other, enterEmergency, read, if_pos rfl, quiet,
    State.setPortal_setPortal _ _ _ _ canonical]
  rfl

theorem place_written_secure (free : q.heldBy s.emu.condition = false) (serves : q.disabled = false) :
    place true n (s.setPortal n q) = s.setPortal n (q.ended .secure) := by
  have read : (s.setPortal n q).portal n = q := portal_written rfl
  have stays : (q.isDoor && q.preset != .normal && (s.setPortal n q).emu.condition) = false := free
  rw [place, read, if_neg (by rw [stays]; nofun), if_neg (by rw [serves]; nofun), State.setPortal_setPortal _ _ _ _ canonical]
  rfl

theorem place_written_out (free : q.heldBy s.emu.condition = false) (disabled : q.disabled = true) :
    place true n (s.setPortal n q) = s.setPortal n ((q.leaving s).ended .outOfService) := by
  have read : (s.setPortal n q).portal n = q := portal_written rfl
  have stays : (q.isDoor && q.preset != .normal && (s.setPortal n q).emu.condition) = false := free
  rw [place, read, if_neg (by rw [stays]; nofun), if_pos disabled, State.setPortal_setPortal _ _ _ _ canonical]
  rfl

end Placed

/-! ## Taking a portal out of service and back (R45, R46) -/

section Service

variable {s t : State} {n : Nat} {id : ReqId}

/-- A portal taken out of service (R45). -/
def Portal.takenOut (p : Portal) (s : State) : Portal :=
  { p.ended .outOfService with
    disabled := true, captured := if p.state = .secure ∧ p.isDoor = true then s.timing p.timingSet else p.captured }

theorem takeOut_eq (n : Nat) (s : State) : takeOut n s =
    clearAlarm n (s.portal n).state (if (s.portal n).state = .released
      then notify (.portalDrive n .relock) (s.setPortal n ((s.portal n).takenOut s))
      else s.setPortal n ((s.portal n).takenOut s)) := by
  unfold takeOut
  dsimp only
  rw [Portal.leaving_eq]
  rfl

theorem takeOut_quiet
    (st : (s.portal n).state = .secure ∨ (s.portal n).state = .opened ∨ (s.portal n).state = .outOfService) :
    takeOut n s = s.setPortal n ((s.portal n).takenOut s) := by
  rw [takeOut_eq]
  rcases st with st | st | st <;> rw [st] <;> rfl

theorem takeOut_released (st : (s.portal n).state = .released) :
    takeOut n s = notify (.portalDrive n .relock) (s.setPortal n ((s.portal n).takenOut s)) := by
  rw [takeOut_eq, st]
  rfl

theorem takeOut_forced (st : (s.portal n).state = .forced) : takeOut n s =
    notify (.doorAlarm n .forcedCleared .outOfService s.clock.shipTime) (s.setPortal n ((s.portal n).takenOut s)) := by
  rw [takeOut_eq, st]
  exact alarm_written (k := .forcedCleared) rfl

theorem takeOut_heldOpen (st : (s.portal n).state = .heldOpen) : takeOut n s =
    notify (.doorAlarm n .heldCleared .outOfService s.clock.shipTime) (s.setPortal n ((s.portal n).takenOut s)) := by
  rw [takeOut_eq, st]
  exact alarm_written (k := .heldCleared) rfl

theorem portalDisable_notConfigured (none : (s.portal n).cls = none) : portalDisable n id s = answer id .notConfigured [] s := by
  simp [portalDisable, none]

theorem portalEnable_notConfigured (none : (s.portal n).cls = none) : portalEnable n id s = answer id .notConfigured [] s := by
  simp [portalEnable, none]

theorem portalDisable_already (configured : (s.portal n).cls ≠ none) (disabled : (s.portal n).disabled = true) :
    portalDisable n id s = answer id .done [.n1 255] s := by
  simp [portalDisable, configured, disabled, orNoState, enumCode?]

theorem portalDisable_emergency (configured : (s.portal n).cls ≠ none) (serves : (s.portal n).disabled = false)
    (st : (s.portal n).state = .emergency) :
    portalDisable n id s = answer id .done [.n1 5] (s.setPortal n { s.portal n with disabled := true }) := by
  simp [portalDisable, configured, serves, st]
  rfl

theorem portalDisable_takesOut (configured : (s.portal n).cls ≠ none) (serves : (s.portal n).disabled = false)
    (other : (s.portal n).state ≠ .emergency) (takes : takeOut n s = t)
    (same : t.doors = (s.setPortal n ((s.portal n).takenOut s)).doors) : portalDisable n id s = answer id .done [.n1 6] t := by
  have reached : (t.portal n).state = .outOfService := congrArg Portal.state (portal_written same)
  simp [portalDisable, configured, serves, other, takes, reached]
  rfl

theorem portalEnable_already (configured : (s.portal n).cls ≠ none) (serves : (s.portal n).disabled = false) :
    portalEnable n id s = answer id .done [.n1 (enumCode portalStates (s.portal n).state)] s := by
  simp [portalEnable, configured, serves, doneState, stateCode]

theorem portalEnable_emergency (configured : (s.portal n).cls ≠ none) (disabled : (s.portal n).disabled = true)
    (st : (s.portal n).state = .emergency) :
    portalEnable n id s = answer id .done [.n1 5] (s.setPortal n { s.portal n with disabled := false }) := by
  simp [portalEnable, configured, disabled, st, doneState, stateCode]
  rfl

theorem portalEnable_places {st : PortalState} (configured : (s.portal n).cls ≠ none) (disabled : (s.portal n).disabled = true)
    (other : (s.portal n).state ≠ .emergency) (places : place true n (s.setPortal n { s.portal n with disabled := false }) = t)
    (reached : (t.portal n).state = st) : portalEnable n id s = answer id .done [.n1 (enumCode portalStates st)] t := by
  simp [portalEnable, configured, disabled, other, places, doneState, stateCode, reached]

end Service

/-- Settles O19. -/
theorem portalServiceChanges : Obligations.PortalServiceChanges := by
  intro s h n a canonical
  dsimp only
  simp only [exec_portalDisable a, exec_portalEnable a]
  let u := s.taken Kind.portalDisable h
  let v := s.taken Kind.portalEnable h
  have wf : Table.wf defaultPortal v.ptu.portals = true := canonical.portals
  refine ⟨fun none => ⟨?_, ?_⟩, fun configured disabled => ?_, fun configured serves => ?_, fun configured disabled => ?_⟩
  · exact next_replied (portalDisable_notConfigured (s := u) none)
  · exact next_replied (portalEnable_notConfigured (s := v) none)
  · exact next_replied (portalDisable_already (s := u) configured disabled)
  · have takesOut {t : State} (other : (u.portal n).state ≠ .emergency) (takes : takeOut n u = t)
        (same : t.doors = (u.setPortal n ((u.portal n).takenOut u)).doors) :
        portalDisable n ⟨Kind.portalDisable, h.tag⟩ u = answer ⟨Kind.portalDisable, h.tag⟩ .done [.n1 6] t :=
      portalDisable_takesOut (s := u) configured serves other takes same
    have other {st : PortalState} (is : (u.portal n).state = st) (not : st ≠ .emergency) : (u.portal n).state ≠ .emergency :=
      is ▸ not
    refine ⟨fun st => ?_, fun st => ?_, fun st => ?_, fun st => ?_, fun st => ?_, ?_⟩
    · exact next_replied (portalDisable_emergency (s := u) configured serves st)
    · refine next_replied (takesOut ?_ (takeOut_quiet st) rfl)
      rcases st with st | st | st <;> exact other st nofun
    · exact next_replied (takesOut (other st nofun) (takeOut_released st) (notify_doors ..))
    · exact next_replied (takesOut (other st nofun) (takeOut_forced st) (notify_doors ..))
    · exact next_replied (takesOut (other st nofun) (takeOut_heldOpen st) (notify_doors ..))
    · exact next_replied (portalEnable_already (s := v) configured serves)
  · let served : Portal := { v.portal n with disabled := false }
    refine ⟨fun st => ?_, fun st free => ?_, fun st door preset condition => ?_⟩
    · exact next_replied (portalEnable_emergency (s := v) configured disabled st)
    · have places := place_written_secure (n := n) (q := served) wf (Portal.heldBy_eq_false.2 free) rfl
      exact next_replied (portalEnable_places (s := v) configured disabled (st ▸ nofun) places
        (congrArg Portal.state (portal_written rfl)) :)
    · have places := place_written_held (n := n) (q := served) wf (Portal.heldBy_iff.2 ⟨door, preset, condition⟩) (.inr st)
      rw [Portal.entered_of_out (q := served) st] at places
      exact next_replied (portalEnable_places (s := v) configured disabled (st ▸ nofun) places
        (congrArg Portal.state (portal_written (notify_doors ..))) :)

end Sys2Proof.Machine

namespace Sys2Proof.Machine

open Sys2Proof

/-! ## Configuring a portal (R43, R44) -/

section Configure

variable {s : State} {c : PortalConfig} {id : ReqId} {n : Nat} {p e : Portal} {copy : Timing}

/-- A configured entry in the place of a portal, which keeps its disabled mark and its contact (R44). -/
def Portal.replacing (e p : Portal) (st : PortalState) (copy : Timing) : Portal :=
  { e with disabled := p.disabled, state := st, contact := p.contact, captured := copy }

theorem Portal.replacing_ended (idle : e.stopped = e) (st st' : PortalState) :
    (e.replacing p st copy).ended st' = e.replacing p st' copy := by
  rw [← idle]
  rfl

theorem Portal.reconfigured_door (door : e.isDoor = true) : p.reconfigured e = e.replacing p p.state p.captured := by
  rw [Portal.reconfigured, if_pos door]
  rfl

theorem Portal.reconfigured_plain (plain : e.isDoor = false) : p.reconfigured e = e.replacing p p.state defaultTiming := by
  rw [Portal.reconfigured, if_neg (by rw [plain]; nofun)]
  rfl

/-- The timing a door captures as it leaves SECURE: its own set's, and from another state what it held (R66). -/
def Portal.captures (p : Portal) (t : Timing) : Timing := if p.state = .secure then t else p.captured

theorem Portal.replacing_leaving_door (door : e.isDoor = true) :
    (e.replacing p p.state p.captured).leaving s = e.replacing p p.state (p.captures (s.timing e.timingSet)) := by
  rw [Portal.leaving_eq, show (e.replacing p p.state p.captured).isDoor = true from door]
  simp [Portal.replacing, Portal.captures]

theorem Portal.replacing_leaving_plain (plain : e.isDoor = false) (st : PortalState) :
    (e.replacing p st copy).leaving s = e.replacing p st copy := by
  rw [Portal.leaving_eq, show (e.replacing p st copy).isDoor = false from plain]
  simp

theorem portalSet_badValue (bad : configured c = none) : portalSet c id s = answer id .badValue [] s := by
  rw [portalSet, bad]

theorem portalSet_busy (found : configured c = some e) (notSecure : (s.portal c.portal).state ≠ .secure)
    (serves : (s.portal c.portal).state ≠ .outOfService) : portalSet c id s = answer id .busy [] s := by
  simp [portalSet, found, notSecure, serves]

/-- The entry is replaced and placed; the reply carries the code of the state it is placed in. -/
theorem portalSet_places {t : State} {st : PortalState} (found : configured c = some e)
    (rests : (s.portal c.portal).state = .secure ∨ (s.portal c.portal).state = .outOfService)
    (places : place true c.portal (s.setPortal c.portal ((s.portal c.portal).reconfigured e)) = t)
    (reached : (t.portal c.portal).state = st) : portalSet c id s = answer id .done [.n1 (enumCode portalStates st)] t := by
  have configures : portalSet c id s = doneState id c.portal t := by simp [portalSet, found, rests, ← places]
  rw [configures, doneState, stateCode, reached]

section Replaced

variable (canonical : Table.wf defaultPortal s.ptu.portals = true) (idle : e.stopped = e)
include canonical idle

theorem place_plain (plain : e.isDoor = false) : place true n (s.setPortal n (p.reconfigured e)) =
    s.setPortal n (e.replacing p (if p.disabled then .outOfService else .secure) defaultTiming) := by
  have free : (e.replacing p p.state defaultTiming).heldBy s.emu.condition = false := Portal.heldBy_eq_false.2 (.inl plain)
  rw [Portal.reconfigured_plain plain]
  cases disabled : p.disabled with
  | false => rw [place_written_secure canonical free disabled, Portal.replacing_ended idle]; rfl
  | true =>
    rw [place_written_out canonical free disabled, Portal.replacing_leaving_plain plain, Portal.replacing_ended idle]; rfl

theorem place_door (door : e.isDoor = true) (free : e.heldBy s.emu.condition = false) :
    place true n (s.setPortal n (p.reconfigured e)) = s.setPortal n (e.replacing p (if p.disabled then .outOfService else .secure)
      (if p.disabled then p.captures (s.timing e.timingSet) else p.captured)) := by
  have free : (e.replacing p p.state p.captured).heldBy s.emu.condition = false := free
  rw [Portal.reconfigured_door door]
  cases disabled : p.disabled with
  | false => rw [place_written_secure canonical free disabled, Portal.replacing_ended idle]; rfl
  | true =>
    rw [place_written_out canonical free disabled, Portal.replacing_leaving_door door, Portal.replacing_ended idle]; rfl

theorem place_door_held (door : e.isDoor = true) (held : e.heldBy s.emu.condition = true)
    (rests : p.state = .secure ∨ p.state = .outOfService) : place true n (s.setPortal n (p.reconfigured e)) =
      notify (.portalDrive n (if e.preset = .release then .holdReleased else .relock))
        (s.setPortal n (e.replacing p .emergency (p.captures (s.timing e.timingSet)))) := by
  have held : (e.replacing p p.state p.captured).heldBy s.emu.condition = true := held
  have enters : (e.replacing p p.state p.captured).entered s = e.replacing p .emergency (p.captures (s.timing e.timingSet)) := by
    unfold Portal.entered
    rw [Portal.replacing_leaving_door door]
    exact Portal.replacing_ended idle p.state .emergency
  rw [Portal.reconfigured_door door, place_written_held canonical held rests, enters]
  rfl

end Replaced

theorem code_placed (disabled : Bool) :
    enumCode portalStates (if disabled then .outOfService else .secure) = if disabled then 6 else 0 := by
  cases disabled <;> rfl

section Answered

variable (canonical : Table.wf defaultPortal s.ptu.portals = true) (found : configured c = some e) (idle : e.stopped = e)
  (rests : (s.portal c.portal).state = .secure ∨ (s.portal c.portal).state = .outOfService)
include canonical found idle rests

theorem portalSet_plain (plain : e.isDoor = false) :
    portalSet c id s = answer id .done [.n1 (if (s.portal c.portal).disabled then 6 else 0)] (s.setPortal c.portal
      (e.replacing (s.portal c.portal) (if (s.portal c.portal).disabled then .outOfService else .secure) defaultTiming)) := by
  rw [portalSet_places found rests (place_plain canonical idle plain) (congrArg Portal.state (portal_written rfl)),
    ← code_placed]
  rfl

theorem portalSet_door (door : e.isDoor = true) (free : e.heldBy s.emu.condition = false) :
    portalSet c id s = answer id .done [.n1 (if (s.portal c.portal).disabled then 6 else 0)] (s.setPortal c.portal
      (e.replacing (s.portal c.portal) (if (s.portal c.portal).disabled then .outOfService else .secure)
        (if (s.portal c.portal).disabled then (s.portal c.portal).captures (s.timing e.timingSet)
          else (s.portal c.portal).captured))) := by
  rw [portalSet_places found rests (place_door canonical idle door free) (congrArg Portal.state (portal_written rfl)),
    ← code_placed]
  rfl

theorem portalSet_held (door : e.isDoor = true) (held : e.heldBy s.emu.condition = true) : portalSet c id s =
    answer id .done [.n1 5] (notify (.portalDrive c.portal (if e.preset = .release then .holdReleased else .relock))
      (s.setPortal c.portal
        (e.replacing (s.portal c.portal) .emergency ((s.portal c.portal).captures (s.timing e.timingSet))))) := by
  rw [portalSet_places (st := .emergency) found rests (place_door_held canonical idle door held rests)
    (congrArg Portal.state (portal_written (notify_doors ..)))]
  rfl

end Answered

theorem configured_door_good {cls : PortalClass} {preset : Preset} (good : ¬ BadConfig c) (small : c.cls ≤ 2)
    (named : portalClasses[c.cls]? = some cls) (chosen : presets[c.preset]? = some preset) :
    configured c = some (doorEntry c cls preset defaultTiming) := by
  unfold BadConfig at good
  have place : PlaceInRange c := by unfold PlaceInRange; omega
  exact (configured_door small named place (by omega)).trans (congrArg _ chosen)

/-- The three door classes are the first three codes (R42). -/
theorem isDoor_doorEntry {cls : PortalClass} {preset : Preset} (small : c.cls ≤ 2) (named : portalClasses[c.cls]? = some cls) :
    (doorEntry c cls preset copy).isDoor = true := by
  obtain code | code | code : c.cls = 0 ∨ c.cls = 1 ∨ c.cls = 2 := by omega
  all_goals
    rw [code] at named
    cases named
    rfl

end Configure

/-- Settles O18. -/
theorem portalConfigured : Obligations.PortalConfigured := by
  intro s h c a canonical
  dsimp only
  rw [exec_portalSet a]
  let u := s.taken Kind.portalSet h
  have wf : Table.wf defaultPortal u.ptu.portals = true := canonical.portals
  refine ⟨fun bad => next_replied (portalSet_badValue (configured_none bad)), fun good notSecure serves => ?_,
    fun rests good => ?_⟩
  · obtain ⟨e, found, -⟩ := configured_good good
    exact next_replied (portalSet_busy (s := u) found notSecure serves)
  refine ⟨fun cls d chosen => ?_, fun cls => ?_, fun cls => ?_,
    fun cls preset small named chosen => ⟨fun free => ?_, fun held condition => ?_⟩⟩
  · have found := (configured_gangway cls).trans (congrArg _ chosen)
    exact next_replied (portalSet_plain (s := u) wf found rfl rests rfl :)
  · have found := (configured_muster cls).trans (if_pos (by omega))
    exact next_replied (portalSet_plain (s := u) wf found rfl rests rfl :)
  · exact next_replied (portalSet_plain (s := u) wf (configured_terminal cls) rfl rests rfl :)
  · have found := configured_door_good good small named chosen
    exact next_replied (portalSet_door (s := u) wf found rfl rests (isDoor_doorEntry small named)
      (Portal.heldBy_eq_false.2 (.inr free)) :)
  · have found := configured_door_good good small named chosen
    have door := isDoor_doorEntry (copy := defaultTiming) (preset := preset) small named
    exact next_replied (portalSet_held (s := u) wf found rfl rests door (Portal.heldBy_iff.2 ⟨door, held, condition⟩) :)

end Sys2Proof.Machine

namespace Sys2Proof.Machine

open Sys2Proof

/-! ## What a door operation says (R55, R68, R192) -/

/-- Whether a notice is a FAULT. -/
def Notice.isFault : Notice → Bool
  | .fault .. => true
  | _ => false

/-- From `s` to `t` only portals, the link and the recorder change; at most `k` notices are sent, and with room for `k` those that
are no FAULT are the ones `told`. -/
structure DoorNotes (k : Nat) (told : List Notice) (s t : State) : Prop where
  shape : ∃ portals l r, t = ((s.withPtu { s.ptu with portals := portals }).withLink l).withFrc r
  notes : ∃ ns : List Notice, ns.length ≤ k ∧ t.link.tx = s.link.tx ++ ns.map Frame.notice ∧
    (s.NoticeRoom k → ns.filter (fun x => !x.isFault) = told)

section Chain

variable {s t u : State} {k m n : Nat} {told said : List Notice} {x : Notice}

theorem DoorNotes.refl (s : State) : DoorNotes 0 [] s s :=
  ⟨⟨s.ptu.portals, s.link, s.frc, rfl⟩, [], Nat.le_refl _, (List.append_nil _).symm, fun _ => rfl⟩

theorem DoorNotes.now (a : DoorNotes k told s t) : t.now = s.now := by obtain ⟨_, _, _, rfl⟩ := a.shape; rfl
theorem DoorNotes.clock (a : DoorNotes k told s t) : t.clock = s.clock := by obtain ⟨_, _, _, rfl⟩ := a.shape; rfl

/-- What is sent first leaves room for what is sent next. -/
theorem DoorNotes.trans (a : DoorNotes k told s t) (b : DoorNotes m said t u) : DoorNotes (k + m) (told ++ said) s u := by
  obtain ⟨⟨_, _, _, rfl⟩, ns, few, sent, saysA⟩ := a
  obtain ⟨⟨ps, l, r, rfl⟩, ms, few', sent', saysB⟩ := b
  refine ⟨⟨ps, l, r, rfl⟩, ns ++ ms, by rw [List.length_append]; omega, ?_, fun room => ?_⟩
  · rw [sent', sent, List.map_append, List.append_assoc]
  · have first : s.NoticeRoom k := by unfold State.NoticeRoom at room ⊢; omega
    rw [List.filter_append, saysA first, saysB]
    unfold State.NoticeRoom at room ⊢
    rw [sent, noticesWaiting_append, noticesWaiting_notices]
    omega

theorem DoorNotes.mono (a : DoorNotes k told s t) (more : k ≤ m) : DoorNotes m told s t := by
  obtain ⟨shape, ns, few, sent, heard⟩ := a
  exact ⟨shape, ns, Nat.le_trans few more, sent, fun room => heard (by unfold State.NoticeRoom at room ⊢; omega)⟩

theorem doorNotes_setPortal (s : State) (n : Nat) (q : Portal) : DoorNotes 0 [] s (s.setPortal n q) :=
  ⟨⟨(s.setPortal n q).ptu.portals, s.link, s.frc, rfl⟩, [], Nat.le_refl _, (List.append_nil _).symm, fun _ => rfl⟩

theorem Tells.doorShape (a : Tells s t) : ∃ portals l r, t = ((s.withPtu { s.ptu with portals := portals }).withLink l).withFrc r := by
  obtain ⟨l, r, rfl⟩ := a
  exact ⟨s.ptu.portals, l, r, rfl⟩

theorem doorNotes_report (s : State) (k : FaultKind) (f : FaultFields) : DoorNotes 1 [] s (report k f s) := by
  refine ⟨(tells_report s k f).doorShape, ?_⟩
  by_cases alert : (s.frc.rowOf k).severity = .alert
  · by_cases room : s.NoticeRoom 1
    · rw [report_alert s k f alert room]
      exact ⟨[_], Nat.le_refl _, rfl, fun _ => rfl⟩
    · rw [report_alert_full s k f alert room]
      exact ⟨[], Nat.zero_le _, (List.append_nil _).symm, fun _ => rfl⟩
  · rw [report_quiet s k f alert]
    exact ⟨[], Nat.zero_le _, (List.append_nil _).symm, fun _ => rfl⟩

theorem doorNotes_notify (s : State) (plain : x.isFault = false) : DoorNotes 1 [x] s (notify x s) := by
  refine ⟨(tells_notify s x).doorShape, ?_⟩
  by_cases room : s.NoticeRoom 1
  · rw [notify_room s x room]
    exact ⟨[x], Nat.le_refl _, rfl, fun _ => by rw [List.filter_singleton, plain]; rfl⟩
  · rw [notify_full s x room]
    obtain ⟨-, ns, few, sent, -⟩ := doorNotes_report (s.withLink { s.link with noticesLost := true }) .noticeLost {}
    exact ⟨ns, few, sent, fun free => (room free).elim⟩

/-- A strike failure says the alarm and the RELOCK, beside its FAULT (R58). -/
theorem doorNotes_strikeFailure (n : Nat) (s : State) :
    DoorNotes 3 [.doorAlarm n .strike .secure s.clock.shipTime, .portalDrive n .relock] s (strikeFailure n s) := by
  rw [strikeFailure_eq]
  exact (((doorNotes_setPortal s n _).trans (doorNotes_notify _ rfl)).trans (doorNotes_report ..)).trans (doorNotes_notify _ rfl)

/-- A held-open limit says its alarm, beside its FAULT (R62). -/
theorem doorNotes_heldOpenEnds (n : Nat) (s : State) :
    DoorNotes 2 [.doorAlarm n .held .heldOpen s.clock.shipTime] s (heldOpenEnds n s) := by
  rw [heldOpenEnds_eq]
  exact ((doorNotes_setPortal s n _).trans (doorNotes_notify _ rfl)).trans (doorNotes_report ..)

theorem strikeFailure_portal (n m : Nat) (s : State) :
    (strikeFailure n s).portal m = if m = n then (s.portal n).ended .secure else s.portal m := by
  rw [strikeFailure_eq, portal_of_doors (notify_doors ..), portal_of_doors (report_doors ..), portal_of_doors (notify_doors ..),
    State.setPortal_portal]

theorem heldOpenEnds_portal (n m : Nat) (s : State) :
    (heldOpenEnds n s).portal m = if m = n then (s.portal n).ended .heldOpen else s.portal m := by
  rw [heldOpenEnds_eq, portal_of_doors (report_doors ..), portal_of_doors (notify_doors ..), State.setPortal_portal]

end Chain

/-! ## One portal retimed (R67) -/

/-- The new window of a running release has passed already. -/
def Portal.windowEnded (p : Portal) (t : Timing) (now : Nat) : Bool :=
  p.captured.release != t.release && p.releaseTimer.any fun r => r.start + 1000 * t.release ≤ now

/-- The retime brings a strike failure. -/
def Portal.strikeFails (p : Portal) (t : Timing) (now : Nat) : Bool :=
  if p.windowEnded t now then p.strikePending else p.strikeTimer.any fun r => r.start + t.strike ≤ now

/-- The new held-open limit has passed already. -/
def Portal.heldPasses (p : Portal) (t : Timing) (now : Nat) : Bool :=
  p.heldOpenTimer.any fun r => r.start + 1000 * t.heldOpen ≤ now

/-- A portal that a retime brings to another state: the new copy is captured and no timer runs. -/
def Portal.retimedTo (p : Portal) (t : Timing) (st : PortalState) : Portal :=
  { p with
    captured := t, state := st, releaseTimer := none, heldOpenTimer := none, strikeTimer := none, strikePending := false }

/-- The portal after its retime. -/
def Portal.restaged (p : Portal) (t : Timing) (now : Nat) : Portal :=
  if p.windowEnded t now || p.strikeFails t now then p.retimedTo t .secure
  else if p.heldPasses t now then p.retimedTo t .heldOpen else p.retimed t

/-- The PORTAL-DRIVE RELEASE of a release that runs on with another window. -/
def Portal.releaseTold (p : Portal) (n : Nat) (t : Timing) (now : Nat) : List Notice :=
  p.releaseTimer.toList.flatMap fun r => if p.captured.release = t.release ∨ p.windowEnded t now = true then []
    else [.portalDrive n (.release ((r.start + 1000 * t.release - now + 999) / 1000))]

/-- The notices of what the retime ends. -/
def Portal.endTold (p : Portal) (n : Nat) (t : Timing) (now shipTime : Nat) : List Notice :=
  if p.strikeFails t now then [.doorAlarm n .strike .secure shipTime, .portalDrive n .relock]
  else if p.windowEnded t now then [.portalDrive n .relock]
  else if p.heldPasses t now then [.doorAlarm n .held .heldOpen shipTime] else []

section Retimed

variable {s u : State} {n m : Nat} {p : Portal} {t : Timing}

theorem retimeOthers_idle (strike : (s.portal n).strikeTimer = none) (heldOpen : (s.portal n).heldOpenTimer = none) :
    retimeOthers n s = s := by
  rw [retimeOthers_noStrike strike, heldOpen]
  rfl

theorem strike_due (p : Portal) (t : Timing) (now : Nat) :
    (p.retimed t).strikeTimer.any (·.due now) = p.strikeTimer.any fun r => r.start + t.strike ≤ now := by
  simp [Portal.retimed, Timer.due, Option.any_map]

theorem heldOpen_due (p : Portal) (t : Timing) (now : Nat) :
    (p.retimed t).heldOpenTimer.any (·.due now) = p.heldPasses t now := by
  simp [Portal.retimed, Portal.heldPasses, Timer.due, Option.any_map, Timing.heldOpenMs]

/-- A release whose new window has passed ends, and no timer of it is left. -/
theorem retime_ended (ended : (s.portal n).windowEnded t s.now = true) :
    retime t s n = if (s.portal n).strikePending then strikeFailure n (s.setPortal n ((s.portal n).retimed t))
      else notify (.portalDrive n .relock) (releaseEnds n (s.setPortal n ((s.portal n).retimed t))) := by
  have read : (s.setPortal n ((s.portal n).retimed t)).portal n = (s.portal n).retimed t := portal_written rfl
  obtain ⟨changed, due⟩ := Bool.and_eq_true_iff.1 ended
  obtain ⟨r, runs, passed⟩ := (Option.any_eq_true _ _).1 due
  have ends : retimeRelease (s.portal n).captured.release n (s.setPortal n ((s.portal n).retimed t)) =
      if (s.portal n).strikePending then strikeFailure n (s.setPortal n ((s.portal n).retimed t))
        else notify (.portalDrive n .relock) (releaseEnds n (s.setPortal n ((s.portal n).retimed t))) := by
    have other : t.release ≠ (s.portal n).captured.release := fun same => by simp [same] at changed
    have passed : r.start + 1000 * t.release ≤ s.now := by simpa using passed
    unfold retimeRelease
    rw [read]
    simp [Portal.retimed, runs, other, Timer.due, Timing.releaseMs, passed, drive]
  unfold retime
  dsimp only
  rw [ends]
  split
  · refine retimeOthers_idle ?_ ?_ <;> rw [strikeFailure_portal, if_pos rfl] <;> rfl
  · refine retimeOthers_idle ?_ ?_ <;>
      rw [portal_of_doors (notify_doors ..), releaseEnds, State.setPortal_portal, if_pos rfl] <;> rfl

/-- A release that runs on is told to its lock if its window changed. -/
theorem retimeRelease_runs (runs : (s.portal n).windowEnded t s.now = false) :
    retimeRelease (s.portal n).captured.release n (s.setPortal n ((s.portal n).retimed t)) =
      ((s.portal n).releaseTold n t s.now).foldl (fun u x => notify x u) (s.setPortal n ((s.portal n).retimed t)) := by
  have read : (s.setPortal n ((s.portal n).retimed t)).portal n = (s.portal n).retimed t := portal_written rfl
  unfold retimeRelease Portal.releaseTold
  rw [read, runs]
  unfold Portal.windowEnded at runs
  cases timer : (s.portal n).releaseTimer with
  | none => simp [Portal.retimed, timer]
  | some r =>
    by_cases same : (s.portal n).captured.release = t.release
    · simp [Portal.retimed, timer, same]
    · have early : s.now < r.start + 1000 * t.release := by simpa [timer, same] using runs
      simp [Portal.retimed, timer, same, Ne.symm same, Timer.due, Timing.releaseMs, Nat.not_le.2 early, Timer.remaining, drive]

theorem releaseTold_cases (p : Portal) (n : Nat) (t : Timing) (now : Nat) :
    p.releaseTold n t now = [] ∨ ∃ seconds, p.releaseTold n t now = [.portalDrive n (.release seconds)] := by
  unfold Portal.releaseTold
  cases p.releaseTimer with
  | none => exact .inl rfl
  | some r =>
    by_cases quiet : p.captured.release = t.release ∨ p.windowEnded t now = true
    · simp [quiet]
    · simp [quiet]

/-- The state in which the release that runs on has been told to its lock. -/
def advised (t : Timing) (n : Nat) (s : State) : State :=
  ((s.portal n).releaseTold n t s.now).foldl (fun u x => notify x u) (s.setPortal n ((s.portal n).retimed t))

theorem doorNotes_advised (t : Timing) (n : Nat) (s : State) :
    DoorNotes 1 ((s.portal n).releaseTold n t s.now) s (advised t n s) := by
  unfold advised
  obtain quiet | ⟨seconds, told⟩ := releaseTold_cases (s.portal n) n t s.now
  · rw [quiet]
    exact (doorNotes_setPortal s n _).mono (Nat.zero_le _)
  · rw [told]
    exact (doorNotes_setPortal s n _).trans (doorNotes_notify _ rfl)

theorem advised_portal (t : Timing) (n m : Nat) (s : State) :
    (advised t n s).portal m = if m = n then (s.portal n).retimed t else s.portal m := by
  unfold advised
  obtain quiet | ⟨seconds, told⟩ := releaseTold_cases (s.portal n) n t s.now
  · rw [quiet]
    exact State.setPortal_portal ..
  · rw [told]
    exact (portal_of_doors (notify_doors ..) m).trans (State.setPortal_portal ..)

theorem retime_advises (runs : (s.portal n).windowEnded t s.now = false) : retime t s n = retimeOthers n (advised t n s) :=
  congrArg (retimeOthers n) (retimeRelease_runs runs)

/-- A door whose release runs on: its strike confirmation and its held-open limit, of which one at most runs, are treated. -/
theorem retime_runs (sound : (s.portal n).Sound) (runs : (s.portal n).windowEnded t s.now = false) :
    retime t s n = if (s.portal n).strikeFails t s.now then strikeFailure n (advised t n s)
      else if (s.portal n).heldPasses t s.now then heldOpenEnds n (advised t n s) else advised t n s := by
  have read : (advised t n s).portal n = (s.portal n).retimed t := by rw [advised_portal, if_pos rfl]
  have now : (advised t n s).now = s.now := (doorNotes_advised t n s).now
  have strike : (s.portal n).strikeFails t s.now = (s.portal n).strikeTimer.any fun r => r.start + t.strike ≤ s.now := by
    rw [Portal.strikeFails, runs]
    rfl
  rw [retime_advises runs]
  by_cases opened : (s.portal n).state = .opened
  · have idle : (s.portal n).strikeTimer = none := sound.strike_idle (by rw [opened]; nofun)
    rw [retimeOthers_noStrike (by rw [read, Portal.retimed, idle]; rfl), read, now, heldOpen_due, strike, idle]
    rfl
  · have idle : (s.portal n).heldOpenTimer = none := sound.heldOpen_idle opened
    rw [retimeOthers_noHeldOpen (by rw [read, Portal.retimed, idle]; rfl), read, now, strike_due, strike,
      show (s.portal n).heldPasses t s.now = false by rw [Portal.heldPasses, idle]; rfl]
    rfl

theorem retime_portal (sound : (s.portal n).Sound) (m : Nat) :
    (retime t s n).portal m = if m = n then (s.portal n).restaged t s.now else s.portal m := by
  unfold Portal.restaged
  cases ended : (s.portal n).windowEnded t s.now with
  | true =>
    rw [retime_ended ended, Bool.true_or, if_pos (c := true = true) rfl]
    split
    · rw [strikeFailure_portal, State.setPortal_portal, State.setPortal_portal, if_pos rfl]
      split <;> rfl
    · rw [portal_of_doors (notify_doors ..), releaseEnds, State.setPortal_portal, State.setPortal_portal, State.setPortal_portal,
        if_pos rfl]
      split <;> rfl
  | false =>
    rw [retime_runs sound ended, Bool.false_or]
    split
    · rw [strikeFailure_portal, advised_portal, advised_portal, if_pos rfl]
      split <;> rfl
    · split
      · rw [heldOpenEnds_portal, advised_portal, advised_portal, if_pos rfl]
        split <;> rfl
      · exact advised_portal t n m s

theorem doorNotes_retime (sound : (s.portal n).Sound) : DoorNotes 4
    ((s.portal n).releaseTold n t s.now ++ (s.portal n).endTold n t s.now s.clock.shipTime) s (retime t s n) := by
  have advises := doorNotes_advised t n s
  have clock : (advised t n s).clock = s.clock := advises.clock
  unfold Portal.endTold
  cases ended : (s.portal n).windowEnded t s.now with
  | true =>
    have quiet : (s.portal n).releaseTold n t s.now = [] := by
      unfold Portal.releaseTold
      rw [ended]
      cases (s.portal n).releaseTimer <;> simp
    have writes := doorNotes_setPortal s n ((s.portal n).retimed t)
    rw [quiet, retime_ended ended, Portal.strikeFails, ended, if_pos rfl, if_pos rfl]
    split
    · exact (writes.trans (doorNotes_strikeFailure n _)).mono (by omega)
    · exact ((writes.trans (doorNotes_setPortal _ n _)).trans (doorNotes_notify _ rfl)).mono (by omega)
  | false =>
    rw [retime_runs sound ended, if_neg Bool.false_ne_true]
    split
    · rw [← clock]
      exact advises.trans (doorNotes_strikeFailure n _)
    · split
      · rw [← clock]
        exact (advises.trans (doorNotes_heldOpenEnds n _)).mono (by omega)
      · rw [List.append_nil]
        exact advises.mono (by omega)

end Retimed

/-! ## Every portal of the set retimed (R67, log 40) -/

section Fold

variable {s : State} {t : Timing}

/-- What a portal's retime says, in order. -/
def Portal.retimeTold (p : Portal) (n : Nat) (t : Timing) (now shipTime : Nat) : List Notice :=
  p.releaseTold n t now ++ p.endTold n t now shipTime

/-- The doors are retimed one after another, each once. -/
theorem foldl_retime (ns : List Nat) (nodup : ns.Nodup) (s : State) (sound : ∀ n ∈ ns, (s.portal n).Sound) :
    (∀ m, (ns.foldl (retime t) s).portal m = if m ∈ ns then (s.portal m).restaged t s.now else s.portal m) ∧
      DoorNotes (4 * ns.length) (ns.flatMap fun n => (s.portal n).retimeTold n t s.now s.clock.shipTime) s
        (ns.foldl (retime t) s) := by
  induction ns generalizing s with
  | nil => exact ⟨fun _ => rfl, .refl s⟩
  | cons n ns ih =>
    obtain ⟨once, nodup⟩ := List.nodup_cons.1 nodup
    have soundN := sound n List.mem_cons_self
    have notes := doorNotes_retime (t := t) soundN
    have kept {m : Nat} (mem : m ∈ ns) : (retime t s n).portal m = s.portal m := by
      rw [retime_portal soundN, if_neg (by rintro rfl; exact once mem)]
    obtain ⟨portals, rest⟩ := ih nodup (retime t s n) fun m mem => by rw [kept mem]; exact sound m (List.mem_cons_of_mem n mem)
    rw [notes.now] at portals rest
    rw [notes.clock] at rest
    refine ⟨fun m => ?_, ?_⟩
    · rw [List.foldl_cons, portals, retime_portal soundN]
      by_cases same : m = n
      · simp [same, once]
      · simp [same]
    · have told : (ns.flatMap fun m => ((retime t s n).portal m).retimeTold m t s.now s.clock.shipTime) =
          ns.flatMap fun m => (s.portal m).retimeTold m t s.now s.clock.shipTime :=
        List.flatMap_congr fun m mem => by rw [kept mem]
      rw [told] at rest
      exact (notes.trans rest).mono (by rw [List.length_cons]; omega)

end Fold

end Sys2Proof.Machine

namespace Sys2Proof.Machine

open Sys2Proof

/-! ## TIMING-STAGE (R65, R67) -/

section Stage

variable {s u : State} {set release heldOpen strike applyNow k n : Nat} {id : ReqId} {told : List Notice}
  {p : Portal} {t : Timing}

theorem DoorNotes.timing (a : DoorNotes k told s u) (m : Nat) : u.timing m = s.timing m := by
  obtain ⟨_, _, _, rfl⟩ := a.shape; rfl

/-- Beside portals, link and recorder a door operation leaves everything. -/
theorem DoorNotes.rest (a : DoorNotes k told s u) :
    (u.now, u.pins, u.clock, u.cards, u.roll, u.emu, u.purse, u.journal, u.store, u.image) =
      (s.now, s.pins, s.clock, s.cards, s.roll, s.emu, s.purse, s.journal, s.store, s.image) := by
  obtain ⟨_, _, _, rfl⟩ := a.shape
  rfl

theorem timingStage_badValue (bad : 7 < set ∨ 1 < applyNow) :
    timingStage set release heldOpen strike applyNow id s = answer id .badValue [] s := by
  unfold timingStage
  by_cases outside : 7 < set
  · rw [if_pos outside]
  · have other : yesNo? applyNow = none := List.getElem?_eq_none (bad.resolve_left outside)
    rw [if_neg outside, other]

theorem timingStage_later (inside : set ≤ 7) : timingStage set release heldOpen strike 0 id s =
    answer id .done (timingFields (stagedTiming release heldOpen strike) ++ [.n2 65535])
      (s.setTiming set (stagedTiming release heldOpen strike)) := by
  unfold timingStage
  rw [if_neg (Nat.not_lt.2 inside)]
  rfl

/-- With apply-now every door on the set that is not SECURE is retimed, and they are counted. -/
theorem timingStage_applied (inside : set ≤ 7) : timingStage set release heldOpen strike 1 id s =
    answer id .done (timingFields (stagedTiming release heldOpen strike) ++ [.n2 (portalsOnSet set s).length])
      ((portalsOnSet set s).foldl (retime (stagedTiming release heldOpen strike))
        (s.setTiming set (stagedTiming release heldOpen strike))) := by
  unfold timingStage
  rw [if_neg (Nat.not_lt.2 inside)]
  rfl

/-- A release that runs on in a door with no other timer: its portal alone is written, and its lock is told (R67). -/
theorem retime_release {r : Timer} (runs : (s.portal n).releaseTimer = some r) (strike : (s.portal n).strikeTimer = none)
    (heldOpen : (s.portal n).heldOpenTimer = none) (changed : (s.portal n).captured.release ≠ t.release)
    (early : s.now < r.start + 1000 * t.release) (room : s.NoticeRoom 1) : retime t s n =
      (s.setPortal n { s.portal n with captured := t, releaseTimer := some ⟨r.start, 1000 * t.release⟩ }).transmits
        [.notice (.portalDrive n (.release ((r.start + 1000 * t.release - s.now + 999) / 1000)))] := by
  have ongoing : (s.portal n).windowEnded t s.now = false := by
    simp [Portal.windowEnded, runs, Nat.not_le.2 early]
  have others : retimeOthers n (advised t n s) = advised t n s := by
    refine retimeOthers_idle ?_ ?_ <;> rw [advised_portal, if_pos rfl, Portal.retimed]
    · rw [strike]; rfl
    · rw [heldOpen]; rfl
  have told : (s.portal n).releaseTold n t s.now =
      [.portalDrive n (.release ((r.start + 1000 * t.release - s.now + 999) / 1000))] := by
    simp [Portal.releaseTold, runs, changed, ongoing]
  have written : (s.portal n).retimed t =
      { s.portal n with captured := t, releaseTimer := some ⟨r.start, 1000 * t.release⟩ } := by
    simp [Portal.retimed, runs, strike, heldOpen, Timing.releaseMs]
  rw [retime_advises ongoing, others, advised, told, written]
  exact notify_room _ _ room

/-- The only portal is on the set. -/
theorem portalsOnSet_one (one : s.ptu.portals = [(n, p)]) (door : p.isDoor = true) (on : p.timingSet = set)
    (leaves : p.state ≠ .secure) : portalsOnSet set s = [n] := by
  simp [portalsOnSet, portalsWhere, one, door, on, leaves]

theorem portal_one (one : s.ptu.portals = [(n, p)]) : s.portal n = p := by
  simp [State.portal, one, Table.read]

/-- Each portal of the list is read as it stands in the table. -/
theorem flatMap_portalsWhere {β : Type} (wf : Table.wf defaultPortal s.ptu.portals = true) (f : Portal → Bool)
    (g : Nat → Portal → List β) : (portalsWhere f s).flatMap (fun n => g n (s.portal n)) =
      (s.ptu.portals.filter fun x => f x.2).flatMap fun x => g x.1 x.2 := by
  unfold portalsWhere
  rw [List.flatMap_map]
  refine List.flatMap_congr fun x mem => ?_
  rw [show s.portal x.1 = x.2 from Table.read_of_mem wf (List.mem_filter.1 mem).1]

end Stage

/-- Settles O22. -/
theorem timingStaged : Obligations.TimingStaged := by
  constructor
  · intro s h set release heldOpen strike applyNow a
    dsimp only
    rw [exec_timingStage a]
    refine ⟨fun bad => next_replied (timingStage_badValue bad), fun inside now => ?_, fun inside now => ?_⟩
    · subst now
      exact next_replied (timingStage_later inside)
    · subst now
      intro n p timer one door on released runs strikeIdle heldIdle changed early room
      let t := stagedTiming release heldOpen strike
      let u := (s.taken Kind.timingStage h).setTiming set t
      have read : u.portal n = p := portal_one one
      have retimed := retime_release (s := u) (t := t) (read ▸ runs) (read ▸ strikeIdle) (read ▸ heldIdle) (read ▸ changed)
        early room
      have listed : portalsOnSet set (s.taken Kind.timingStage h) = [n] := portalsOnSet_one one door on (by rw [released]; nofun)
      rw [timingStage_applied inside, listed]
      refine (next_replied rfl).trans (congrArg _ ?_)
      rw [List.foldl_cons, List.foldl_nil]
      refine (congrArg (fun w => State.replied w Kind.timingStage h .done _) retimed).trans ?_
      rw [read]
      exact State.transmits_transmits ..
  · intro s h set release heldOpen strike a canonical sound inside
    dsimp only
    let t := stagedTiming release heldOpen strike
    let v := s.taken Kind.timingStage h
    let u := v.setTiming set t
    let touched (p : Portal) : Bool := p.isDoor && p.timingSet = set && p.state != .secure
    have wf : Table.wf defaultPortal v.ptu.portals = true := canonical.portals
    obtain ⟨portals, notes⟩ :=
      foldl_retime (t := t) (portalsOnSet set v) (portalsWhere_nodup _ wf) u fun n _ => sound.portals n
    have counted : (portalsOnSet set v).length = (s.ptu.portals.filter fun x => touched x.2).length :=
      List.length_map ..
    obtain ⟨ns, few, sent, heard⟩ := notes.notes
    refine ⟨_, (exec_timingStage a).trans (congrArg _ ((timingStage_applied inside).trans (answer_replied ..))),
      ?_, fun m other => ?_, fun n => ?_, ⟨ns, ?_, fun room => ?_⟩, ?_⟩
    · exact (notes.timing set).trans ((State.setTiming_timing v set set t).trans (if_pos rfl))
    · exact (notes.timing m).trans ((State.setTiming_timing v set m t).trans (if_neg other))
    · have listed := mem_portalsWhere (s := v) (n := n) (f := touched) rfl wf
      cases on : touched (s.portal n) with
      | false =>
        have stays : n ∉ portalsOnSet set v := fun mem => nomatch on.symm.trans (listed.1 mem)
        exact (portals n).trans ((if_neg stays).trans (if_pos on).symm)
      | true =>
        have leaves : ¬ touched (s.portal n) = false := by rw [on]; nofun
        exact (portals n).trans ((if_pos (listed.2 on)).trans (if_neg leaves).symm)
    · rw [← counted]
      exact (congrArg (· ++ _) sent).trans rfl
    · rw [← counted] at room
      refine (List.filter_congr fun x _ => ?_).trans ((heard room).trans ?_)
      · cases x <;> rfl
      exact flatMap_portalsWhere (s := v) wf touched fun n p => p.retimeTold n t u.now u.clock.shipTime
    · exact notes.rest

end Sys2Proof.Machine

namespace Sys2Proof.Machine

open Sys2Proof

/-! ## The capacity warning (R82, R84, R85) -/

section Capacity

variable {s t : State} {h : Hdr} {id : ReqId} {limit level hysteresis : Nat} {standing armed : Bool}

theorem exec_capacityAck (a : s.Accepts h 0) :
    exec (.capacityAck h) s = .next (capacityAck ⟨Kind.capacityAck, h.tag⟩ (s.taken Kind.capacityAck h)) :=
  congrArg _ (accept_owner a)

theorem exec_capacitySet (a : s.Accepts h 5) : exec (.capacitySet h limit level hysteresis) s =
    .next (capacitySet limit level hysteresis ⟨Kind.capacitySet, h.tag⟩ (s.taken Kind.capacitySet h)) :=
  congrArg _ (accept_owner a)

/-- The warning as it is found to stand. -/
def State.warned (s : State) (standing armed : Bool) : State := s.withRoll { s.roll with standing := standing, armed := armed }

theorem State.warned_same (was : s.roll.standing = standing) : s = s.warned standing s.roll.armed := by
  subst was
  rfl

theorem evalWarning_below (off : s.roll.standing = false) (below : aboardTotal s.roll < s.roll.level) :
    evalWarning s = s.warned false s.roll.armed := by
  simp only [evalWarning, off, Nat.not_le.2 below, if_false, Bool.false_eq_true]
  exact State.warned_same off

theorem evalWarning_asserts (off : s.roll.standing = false) (reached : s.roll.level ≤ aboardTotal s.roll) :
    evalWarning s = assertWarning s := by
  simp [evalWarning, off, reached]

theorem assertWarning_unarmed (unarmed : s.roll.armed = false) : assertWarning s = s.warned true false := by
  simp [assertWarning, unarmed, State.warned]

theorem assertWarning_armed (armed : s.roll.armed = true) : assertWarning s =
    notify (.capacityWarning (aboardTotal s.roll) s.roll.aboardGuests s.roll.aboardCrew s.roll.level s.roll.limit s.clock.shipTime)
      (s.warned true false) := by
  simp [assertWarning, armed, State.warned]

theorem evalWarning_clears (on : s.roll.standing = true) (below : aboardTotal s.roll < s.roll.level)
    (clear : aboardTotal s.roll + s.roll.hysteresis ≤ s.roll.level) : evalWarning s = s.warned false s.roll.armed := by
  have low : aboardTotal s.roll ≤ clearLevel s.roll := Nat.le_sub_of_add_le clear
  simp only [evalWarning, on, below, low, decide_true, Bool.and_self, if_true]
  rfl

theorem evalWarning_stands (on : s.roll.standing = true) (high : s.roll.level ≤ aboardTotal s.roll ∨
    (0 < aboardTotal s.roll ∧ s.roll.level < aboardTotal s.roll + s.roll.hysteresis)) :
    evalWarning s = s.warned true s.roll.armed := by
  have stays : ¬ (aboardTotal s.roll < s.roll.level ∧ aboardTotal s.roll ≤ clearLevel s.roll) := by
    unfold clearLevel
    omega
  simp only [evalWarning, on, if_true, Bool.and_eq_true, decide_eq_true_eq, stays, if_false]
  exact State.warned_same on

theorem capacitySet_badValue (bad : ¬ (limit ≤ 8191 ∧ level ≤ 8191 ∧ hysteresis ≤ 255)) :
    capacitySet limit level hysteresis id s = answer id .badValue [] s := by
  have outside : (8191 < limit || 8191 < level || 255 < hysteresis) = true := by
    simp only [Bool.or_eq_true, decide_eq_true_eq]
    omega
  exact if_pos outside

/-- Settings in their ranges are answered from the roll as the evaluation leaves it (R82, R84). -/
theorem capacitySet_evaluates (ok : limit ≤ 8191 ∧ level ≤ 8191 ∧ hysteresis ≤ 255)
    (evaluated : evalWarning (s.withRoll { s.roll with limit := limit, level := level, hysteresis := hysteresis }) = t)
    (roll : t.roll = { s.roll with
      limit := limit, level := level, hysteresis := hysteresis, standing := standing, armed := armed }) :
    capacitySet limit level hysteresis id s = answer id .done [.n2 limit, .n2 level, .n1 hysteresis,
      .n2 (s.roll.aboardGuests + s.roll.aboardCrew), .n2 s.roll.departures, .n1 (yesCode standing), .n1 (yesCode armed)] t := by
  have inside : ¬ (8191 < limit || 8191 < level || 255 < hysteresis) = true := by
    simp only [Bool.or_eq_true, decide_eq_true_eq]
    omega
  unfold capacitySet
  rw [if_neg inside]
  dsimp only
  rw [evaluated, roll]
  rfl

end Capacity

/-! ## The all-aboard deadline (R86, R87) -/

section Deadline

variable {s : State} {h : Hdr} {id : ReqId} {deadline : Option Nat} {time : Nat}

theorem exec_deadlineSet (a : s.Accepts h 5) : exec (.deadlineSet h deadline) s =
    .next (deadlineSet deadline ⟨Kind.deadlineSet, h.tag⟩ (s.taken Kind.deadlineSet h)) := congrArg _ (accept_owner a)

theorem notify_roll (n : Notice) (s : State) : (notify n s).roll = s.roll := by
  obtain ⟨l, r, told⟩ := tells_notify s n
  rw [told]
  rfl

/-- A deadline that is due passes, with ALL-ABOARD-MISSING (R87). -/
theorem takeDeadline_due (set : s.clock.isSet = true) (ahead : s.roll.passed = false) (named : s.roll.deadline = some time)
    (due : time ≤ s.clock.shipTime) : takeDeadline s =
      notify (.allAboardMissing time s.clock.shipTime s.roll.ashoreGuests s.roll.ashoreCrew (aboardTotal s.roll))
        (s.withRoll { s.roll with passed := true }) := by
  have isDue : deadlineDue s = true := by simp [deadlineDue, set, ahead, named, due]
  simp only [takeDeadline, isDue, if_true, named, Option.getD_some]

theorem takeDeadline_notDue (later : s.clock.isSet = false ∨ s.roll.passed = true ∨
    ∀ time, s.roll.deadline = some time → s.clock.shipTime < time) : takeDeadline s = s := by
  have notDue : ¬ deadlineDue s = true := by
    simp only [deadlineDue, Bool.and_eq_true, Bool.not_eq_true', Option.any_eq_true, decide_eq_true_eq, not_and, not_exists]
    rintro ⟨set, ahead⟩ time named due
    rcases later with unset | passed | later
    · exact nomatch unset.symm.trans set
    · exact nomatch passed.symm.trans ahead
    · exact Nat.not_le.2 (later time named) due
  exact if_neg notDue

/-- A deadline that is not due when it is set stands (R86). -/
theorem deadlineSet_stands (later : ∀ time, deadline = some time → s.clock.isSet = false ∨ s.clock.shipTime < time) :
    deadlineSet deadline id s = answer id .done (optional4 deadline ++ [.n1 0])
      (s.withRoll { s.roll with deadline := deadline, passed := false }) := by
  have stands := takeDeadline_notDue (s := s.withRoll { s.roll with deadline := deadline, passed := false }) (by
    cases unset : s.clock.isSet with
    | false => exact .inl unset
    | true => exact .inr (.inr fun time named => (later time named).resolve_left (by rw [unset]; nofun)))
  unfold deadlineSet
  dsimp only
  rw [stands]
  rfl

/-- One that is reached already is taken before the reply (R86, R87). -/
theorem deadlineSet_reached (set : s.clock.isSet = true) (due : time ≤ s.clock.shipTime) :
    deadlineSet (some time) id s = answer id .done [.n1 1, .n4 time, .n1 1]
      (notify (.allAboardMissing time s.clock.shipTime s.roll.ashoreGuests s.roll.ashoreCrew (aboardTotal s.roll))
        (s.withRoll { s.roll with deadline := some time, passed := true })) := by
  have taken := takeDeadline_due (s := s.withRoll { s.roll with deadline := some time, passed := false }) set rfl rfl due
  unfold deadlineSet
  dsimp only
  rw [taken, notify_roll]
  rfl

end Deadline

/-- Settles O25. -/
theorem capacityAndDeadline : Obligations.CapacityAndDeadline := by
  refine ⟨fun s h => ⟨fun a => ?ack, fun limit level hysteresis a => ?capacity⟩,
    fun s => ⟨fun h deadline a => ⟨?_, ?_, ?_⟩, fun supply => ?event⟩⟩
  case ack => exact (exec_capacityAck a).trans (next_replied rfl)
  case capacity =>
    intro r total t answers ok
    let v := (s.taken Kind.capacitySet h).withRoll r
    have settles {u : State} {standing armed : Bool} (inside : ok) (evaluated : evalWarning v = u)
        (roll : u.roll = { r with standing := standing, armed := armed }) : answers u standing armed :=
      (exec_capacitySet a).trans (next_replied (capacitySet_evaluates inside evaluated roll))
    refine ⟨fun bad => (exec_capacitySet a).trans (next_replied (capacitySet_badValue bad)), ?_, ?_, ?_, ?_, ?_⟩
    · exact fun inside off below => settles inside (evalWarning_below (s := v) off below) rfl
    · exact fun inside off reached unarmed =>
        settles inside ((evalWarning_asserts (s := v) off reached).trans (assertWarning_unarmed unarmed)) rfl
    · exact fun inside off reached armed =>
        settles inside ((evalWarning_asserts (s := v) off reached).trans (assertWarning_armed armed)) (notify_roll ..)
    · exact fun inside on below clear => settles inside (evalWarning_clears (s := v) on below clear) rfl
    · exact fun inside on high => settles inside (evalWarning_stands (s := v) on high) rfl
  · rintro time rfl set due
    exact (exec_deadlineSet a).trans (next_replied (deadlineSet_reached set due))
  · rintro rfl
    exact (exec_deadlineSet a).trans (next_replied (deadlineSet_stands nofun))
  · rintro time rfl later
    exact (exec_deadlineSet a).trans (next_replied (deadlineSet_stands fun _ same => by cases same; exact later))
  case event =>
    have carried : exec .deadlineEvent s = .next (takeDeadline s) := exec_powered rfl supply
    exact ⟨fun time named set ahead due => carried.trans (congrArg _ (takeDeadline_due set ahead named due)),
      fun later => carried.trans (congrArg _ (takeDeadline_notDue later))⟩

end Sys2Proof.Machine

namespace Sys2Proof.Machine

open Sys2Proof

/-! ## Checks of the model as checks made in order -/

section JudgedSteps

variable {α : Type} {refuses : α → State} {accepted a b : State} {c fails : Prop} {x : α} {rest : List (Prop × α)}

/-- A check of the model is the next of the checks made in order. -/
theorem ite_judged [Decidable c] (same : c ↔ fails) (refused : c → a = refuses x)
    (passed : ¬ c → b = judged refuses accepted rest) :
    (if c then a else b) = judged refuses accepted ((fails, x) :: rest) := by
  by_cases holds : c
  · exact (if_pos holds).trans ((refused holds).trans (if_pos (same.1 holds)).symm)
  · exact (if_neg holds).trans ((passed holds).trans (if_neg (mt same.2 holds)).symm)

/-- The first check refuses the request, whatever would become of one that is accepted. -/
theorem judged_head (holds : fails) : judged refuses accepted ((fails, x) :: rest) = refuses x := if_pos holds

/-- Whether the checks turn a request away does not depend on what they answer. -/
theorem NoneOf.answering {β : Type} {checks : List (Prop × α)} {others : List (Prop × β)} (passes : NoneOf checks)
    (same : checks.map Prod.fst = others.map Prod.fst) : NoneOf others := fun p mem fails => by
  obtain ⟨q, here, eq⟩ := List.mem_map.1 (same ▸ List.mem_map_of_mem (f := Prod.fst) mem)
  exact passes q here (eq ▸ fails)

end JudgedSteps

/-! ## Enrolment and corrections (R83, R88 to R91) -/

section Corrections

variable {s : State} {h : Hdr} {n kind state k : Nat} {new : PersonSlot} {id : ReqId}

theorem exec_enrol (a : s.Accepts h 4) : exec (.enrol h n kind state) s =
    .next (enrol n kind state ⟨Kind.enrol, h.tag⟩ (s.taken Kind.enrol h)) := congrArg _ (accept_owner a)

theorem exec_discharge (a : s.Accepts h 2) : exec (.discharge h n) s =
    .next (discharge n ⟨Kind.discharge, h.tag⟩ (s.taken Kind.discharge h)) := congrArg _ (accept_owner a)

theorem exec_presenceSet (a : s.Accepts h 3) : exec (.presenceSet h n state) s =
    .next (presenceSet n state ⟨Kind.presenceSet, h.tag⟩ (s.taken Kind.presenceSet h)) := congrArg _ (accept_owner a)

/-- The answer of a correction to the check that fails. -/
def correctionRefuses (k : Nat) (h : Hdr) (x : Result × List Fld × State) : State := x.2.2.replied k h x.1 x.2.1

theorem answer_refuses (k : Nat) (h : Hdr) (r : Result) (fs : List Fld) (t : State) :
    answer ⟨k, h.tag⟩ r fs t = correctionRefuses k h (r, fs, t) := answer_replied ..

theorem capacityOk_eq_false : capacityOk s.roll = false ↔
    s.roll.limit < s.roll.aboardGuests + s.roll.aboardCrew + s.roll.departures + 1 :=
  decide_eq_false_iff_not.trans Nat.not_le

/-- The last checks of the three requests: CAPACITY where the person comes aboard, and room in the store's queue (R83, R88). -/
theorem ifRoom_judged {aboard : Bool} {comesAboard : Prop} (same : aboard = true ↔ comesAboard) :
    ifRoom aboard n ⟨k, h.tag⟩ new s =
      judged (correctionRefuses k h) (changeSlot n new .correction (some ⟨k, h.tag⟩) s)
        [(comesAboard ∧ s.roll.limit < s.roll.aboardGuests + s.roll.aboardCrew + s.roll.departures + 1, .capacity, [],
            report .capacityRefused { person := some n, req := some ⟨k, h.tag⟩ } s),
          (8 ≤ s.store.queue.length, .storeBusy, [], s)] := by
  refine ite_judged ?_ (fun _ => answer_refuses ..) fun _ => ite_judged storeFull_iff (fun _ => answer_refuses ..) fun _ => rfl
  rw [Bool.and_eq_true, Bool.not_eq_true', capacityOk_eq_false, same]

/-- The first checks of the three requests (R88). -/
theorem correcting_judged {act : State → State} {bad : Prop} {accepted : State}
    {rest : List (Prop × Result × List Fld × State)} (good : ¬ bad)
    (acts : act s = judged (correctionRefuses k h) accepted rest) :
    correcting true n ⟨k, h.tag⟩ act s = judged (correctionRefuses k h) accepted
      ((8191 < n ∨ bad, .badValue, [], s) :: (s.beforeImage n ≠ none, .storeBusy, [], s) :: rest) := by
  refine ite_judged ?_ (fun _ => answer_refuses ..) fun _ => ite_judged Option.isSome_iff_ne_none (fun _ => answer_refuses ..)
    fun _ => acts
  simp [good]

theorem listedState_one : listedState 1 = some .aboard := rfl
theorem listedState_two : listedState 2 = some .ashore := rfl

theorem listedState_none (other : state ≠ 1 ∧ state ≠ 2) : listedState state = none := by
  obtain ⟨notAboard, notAshore⟩ := other
  match state with
  | 0 => rfl
  | 1 => exact (notAboard rfl).elim
  | 2 => exact (notAshore rfl).elim
  | _ + 3 => rfl

/-- The states a request may name, as `listedState` reads them (R89, R91). -/
theorem listed_cases (good : ¬ (state ≠ 1 ∧ state ≠ 2)) :
    ∃ st, listedState state = some st ∧ (st = .aboard ↔ state = 1) ∧ (st = .ashore ↔ state = 2) := by
  obtain rfl | rfl : state = 1 ∨ state = 2 := by omega
  · exact ⟨.aboard, rfl, by decide, by decide⟩
  · exact ⟨.ashore, rfl, by decide, by decide⟩

/-- The slot that an ENROL gives a person (R89). -/
def enrolled (kind state : Nat) : PersonSlot :=
  ⟨(listedState state).getD .aboard, (enumOf personKinds kind).getD .guest, none, 0, none⟩

theorem enrol_judged : enrol n kind state ⟨Kind.enrol, h.tag⟩ s = judged (correctionRefuses Kind.enrol h)
    (changeSlot n (enrolled kind state) .correction (some ⟨Kind.enrol, h.tag⟩) s) (enrolChecks s h n kind state s) := by
  by_cases bad : 1 < kind ∨ (state ≠ 1 ∧ state ≠ 2)
  · have unread : listedState state = none ∨ enumOf personKinds kind = none :=
      bad.symm.imp listedState_none fun high => List.getElem?_eq_none high
    refine Eq.trans ?_ ((answer_refuses ..).trans (judged_head (.inr bad)).symm)
    unfold enrol
    rcases unread with none | none
    · rw [none]
    · rw [none]
      cases listedState state <;> rfl
  obtain ⟨low, listed⟩ := not_or.1 bad
  obtain ⟨st, read, aboard, _⟩ := listed_cases listed
  obtain ⟨kd, kindRead⟩ : ∃ kd, enumOf personKinds kind = some kd :=
    ⟨_, List.getElem?_eq_getElem (l := personKinds) (Nat.lt_succ_of_le (Nat.not_lt.1 low))⟩
  have slot : enrolled kind state = ⟨st, kd, none, 0, none⟩ := by simp [enrolled, read, kindRead]
  unfold enrol
  rw [read, kindRead, slot]
  exact correcting_judged bad (ite_judged Iff.rfl (fun _ => answer_refuses ..) fun _ =>
    ifRoom_judged (decide_eq_true_iff.trans aboard))

theorem holdsPerson_iff : holdsPerson s n = true ↔ ∃ x ∈ openHolds s, x.2.person = n := by simp [holdsPerson]

theorem discharge_judged : discharge n ⟨Kind.discharge, h.tag⟩ s = judged (correctionRefuses Kind.discharge h)
    (changeSlot n { s.person n with state := .unlisted, lastLane := none, mark := none } .correction
      (some ⟨Kind.discharge, h.tag⟩) s) (dischargeChecks s h n s) :=
  correcting_judged id (ite_judged Iff.rfl (fun _ => answer_refuses ..) fun _ =>
    ite_judged holdsPerson_iff (fun _ => answer_refuses ..) fun _ =>
      ifRoom_judged (aboard := false) ⟨nofun, False.elim⟩)

theorem presenceSet_judged : presenceSet n state ⟨Kind.presenceSet, h.tag⟩ s = judged (correctionRefuses Kind.presenceSet h)
    (changeSlot n (presenceChange (s.person n) ((listedState state).getD .aboard)) .correction
      (some ⟨Kind.presenceSet, h.tag⟩) s) (presenceChecks s h n state s) := by
  by_cases bad : state ≠ 1 ∧ state ≠ 2
  · refine Eq.trans ?_ ((answer_refuses ..).trans (judged_head (.inr bad)).symm)
    unfold presenceSet
    rw [listedState_none bad]
  obtain ⟨st, read, aboard, ashore⟩ := listed_cases bad
  unfold presenceSet
  rw [read, Option.getD_some]
  refine correcting_judged bad (ite_judged Iff.rfl (fun _ => answer_refuses ..) fun _ => ite_judged ?_ (fun has => ?_) fun _ =>
    ifRoom_judged (decide_eq_true_iff.trans aboard))
  · rw [← aboard, ← ashore]
    rcases listedState_ne read with rfl | rfl <;> simp
  · have code : enumCode personStates (s.person n).state = state := by
      rw [has]
      rcases listedState_ne read with rfl | rfl
      · exact (aboard.1 rfl).symm
      · exact (ashore.1 rfl).symm
    rw [slotFields, code]
    exact answer_refuses ..

/-- A request whose checks are judged: the first that fails names its answer. -/
theorem correction_refused {c : Instr} {f accepted : State} {checks : List (Prop × Result × List Fld × State)}
    (carried : exec c s = .next f) (judges : f = judged (correctionRefuses k h) accepted checks) (r : Result) (fs : List Fld)
    (u : State) (first : FirstOf checks (r, fs, u)) : exec c s = .next (u.replied k h r fs) :=
  carried.trans (congrArg _ (judges.trans (judged_first first)))

/-- One that passes them changes the slot (R88). -/
theorem correction_changes {c : Instr} {f : State} {checks asked : List (Prop × Result × List Fld × State)}
    (carried : exec c s = .next f)
    (judges : f = judged (correctionRefuses k h) (changeSlot n new .correction (some ⟨k, h.tag⟩) (s.taken k h)) checks)
    (passes : NoneOf asked) (same : asked.map Prod.fst = checks.map Prod.fst) :
    ∃ t, exec c s = .next t ∧ SlotChanged s t n new .correction ⟨k, h.tag⟩ ∧ t.cards = s.cards := by
  obtain ⟨changed, cards, _⟩ := changeSlot_changed (s := s) s.cards k h n new .correction
  exact ⟨_, carried.trans (congrArg _ (judges.trans (judged_none (passes.answering same)))), changed, cards⟩

end Corrections

/-- Settles O26: the checks of the three requests are judged in order (`enrol_judged`, `discharge_judged`, `presenceSet_judged`), and
what passes them is a slot's change (`changeSlot_changed`). -/
theorem rollCorrected : Obligations.RollCorrected := by
  intro s h n p changes turned
  refine ⟨fun kind state a => ⟨correction_refused (exec_enrol a) enrol_judged, fun passes kd st named listed => ?enrol⟩,
    fun a => ⟨correction_refused (exec_discharge a) discharge_judged, fun passes =>
      correction_changes (exec_discharge a) discharge_judged passes rfl⟩,
    fun state a => ⟨correction_refused (exec_presenceSet a) presenceSet_judged, fun passes => ⟨?aboard, ?ashore⟩⟩⟩
  case enrol =>
    have slot : enrolled kind state = ⟨st, kd, none, 0, none⟩ := by
      have named : enumOf personKinds kind = some kd := named
      rcases listed with ⟨rfl, rfl⟩ | ⟨rfl, rfl⟩ <;> simp [enrolled, named, listedState_one, listedState_two]
    rw [← slot]
    exact correction_changes (exec_enrol a) enrol_judged passes rfl
  case aboard =>
    rintro rfl
    exact correction_changes (exec_presenceSet a) presenceSet_judged passes rfl
  case ashore =>
    rintro rfl
    exact correction_changes (exec_presenceSet a) presenceSet_judged passes rfl

end Sys2Proof.Machine

namespace Sys2Proof.Machine

open Sys2Proof

/-! ## FAULT notices alone (R192) -/

/-- A FAULT notice, which is sent at ALERT alone. -/
def Notice.Alerts (x : Notice) : Prop := ∃ k time fields count replaced, x = .fault k .alert time fields count replaced

/-- At most `k` notices join the transmit queue of a link, each of them a FAULT. -/
def Alerted (k : Nat) (l m : Link) : Prop :=
  ∃ ns : List Notice, ns.length ≤ k ∧ m.tx = l.tx ++ ns.map Frame.notice ∧ ∀ x ∈ ns, x.Alerts

section Alerting

variable {s t : State} {l m n : Link} {j k : Nat}

theorem Alerted.silent (same : m.tx = l.tx) : Alerted k l m :=
  ⟨[], Nat.zero_le _, same.trans (List.append_nil _).symm, List.forall_mem_nil _⟩

theorem Alerted.trans (x : Alerted j l m) (y : Alerted k m n) : Alerted (j + k) l n := by
  obtain ⟨ns, few, tx, alerts⟩ := x
  obtain ⟨ms, few', tx', alerts'⟩ := y
  refine ⟨ns ++ ms, by rw [List.length_append]; omega, by rw [tx', tx, List.map_append, List.append_assoc], fun x mem => ?_⟩
  exact (List.mem_append.1 mem).elim (alerts x) (alerts' x)

theorem Alerted.room (x : Alerted j s.link t.link) (room : s.NoticeRoom (j + k)) : t.NoticeRoom k := by
  obtain ⟨ns, few, tx, _⟩ := x
  unfold State.NoticeRoom at *
  rw [tx, noticesWaiting_append, noticesWaiting_notices]
  omega

theorem alerted_report (k : FaultKind) (f : FaultFields) (s : State) : Alerted 1 s.link (report k f s).link := by
  by_cases alert : (s.frc.rowOf k).severity = .alert
  · by_cases room : s.NoticeRoom 1
    · rw [report_alert s k f alert room]
      exact ⟨[_], Nat.le_refl _, rfl, List.forall_mem_singleton.2 ⟨_, _, _, _, _, rfl⟩⟩
    · rw [report_alert_full s k f alert room]
      exact .silent rfl
  · rw [report_quiet s k f alert]
    exact .silent rfl

theorem alerted_writeMarker (mark : Option Marker) (s : State) : Alerted 1 s.link (writeMarker mark s).link := by
  unfold writeMarker markerTry
  dsimp only
  split
  · exact .silent (congrArg Link.tx draw_link)
  split
  · exact .silent (congrArg Link.tx (draw_link.trans draw_link))
  · have drawn : (draw (draw s).2).2.link = s.link := draw_link.trans draw_link
    exact drawn ▸ alerted_report .storeFault {} (draw (draw s).2).2

end Alerting

/-! ## The end of a write, before its requester is told (R180 to R182) -/

/-- The state once the marker of a write that has ended is cleared, and its request has left the queue. -/
def writeLeft (w : Write) (ok : Bool) (s : State) : State :=
  let cleared := writeMarker none ((s.withImage (if ok then s.image.apply w.content else s.image)).withStore { s.store with
    secondAttempts := (s.store.ended w ok).secondAttempts, faults := (s.store.ended w ok).faults })
  cleared.withStore { cleared.store with queue := cleared.store.queue.drop 1, write := none }

/-- The state in which its requester is told: one that failed has been reported. -/
def writeEnded (r : StoreReq) (w : Write) (ok : Bool) (s : State) : State :=
  let left := writeLeft w ok s
  if !ok && !failedBefore w.content left then report .storeFault (storeFaultFields r left) left else left

section WriteEnded

variable {s : State} {r : StoreReq} {w : Write} {ok : Bool}

theorem endWrite_eq : endWrite r w ok s = reportEnd r w.content ok (writeEnded r w ok s) := by
  cases ok <;> rfl

theorem marks_writeLeft : Marks ((s.withImage (if ok then s.image.apply w.content else s.image)).withStore (s.store.ended w ok))
    (writeLeft w ok s) := by
  obtain ⟨m, l, f, cs, d, notified, cleared⟩ := marks_writeMarker none
    ((s.withImage (if ok then s.image.apply w.content else s.image)).withStore { s.store with
      secondAttempts := (s.store.ended w ok).secondAttempts, faults := (s.store.ended w ok).faults })
  unfold writeLeft
  rw [cleared]
  exact ⟨m, l, f, cs, d, notified, rfl⟩

theorem marks_writeEnded : Marks ((s.withImage (if ok then s.image.apply w.content else s.image)).withStore (s.store.ended w ok))
    (writeEnded r w ok s) := by
  refine marks_writeLeft.trans ?_
  unfold writeEnded
  dsimp only
  split
  · exact (notes_report ..).marks
  · exact .refl _

theorem alerted_writeLeft : Alerted 1 s.link (writeLeft w ok s).link :=
  alerted_writeMarker none ((s.withImage (if ok then s.image.apply w.content else s.image)).withStore { s.store with
    secondAttempts := (s.store.ended w ok).secondAttempts, faults := (s.store.ended w ok).faults })

theorem alerted_writeEnded : Alerted 2 s.link (writeEnded r w ok s).link := by
  unfold writeEnded
  dsimp only
  split
  · exact alerted_writeLeft.trans (alerted_report ..)
  · exact alerted_writeLeft.trans (.silent (k := 1) rfl)

end WriteEnded

/-! ## The end of a slot's change (R72, R80, R88) -/

/-- The roll once the write of a slot's change has ended, its slot not taken back yet: no before image, and a departure no more in
flight (R72). -/
def Roll.written (r : Roll) (n : Nat) (old new : PersonSlot) : Roll :=
  { r with
    before := Table.write none n none r.before
    departures := r.departures - if old.state = .aboard ∧ new.state ≠ .aboard then 1 else 0 }

/-- From `q` to `r` the write of slot `n` has ended, and one that failed has given the slot its before image `old`. -/
structure Roll.Settled (n : Nat) (old : PersonSlot) (ok : Bool) (q r : Roll) : Prop where
  slot : Table.read defaultSlot r.slots n = if ok then Table.read defaultSlot q.slots n else old
  others : ∀ m, m ≠ n → Table.read defaultSlot r.slots m = Table.read defaultSlot q.slots m
  before : Table.read none r.before n = none
  departures : r.departures = q.departures -
    if old.state = .aboard ∧ (Table.read defaultSlot q.slots n).state ≠ .aboard then 1 else 0

section ChangeEnds

variable {s : State} {n : Nat} {old : PersonSlot} {ok : Bool} {q r : Roll}

theorem Roll.settled_of (slots : r.slots = if ok then q.slots else Table.write defaultSlot n old q.slots)
    (before : r.before = Table.write none n none q.before) (departures : r.departures = q.departures -
      if old.state = .aboard ∧ (Table.read defaultSlot q.slots n).state ≠ .aboard then 1 else 0) :
    Roll.Settled n old ok q r := by
  cases ok with
  | true => exact ⟨congrArg (Table.read defaultSlot · n) slots, fun m _ => congrArg (Table.read defaultSlot · m) slots,
      before ▸ Table.read_write_same .., departures⟩
  | false => exact ⟨slots ▸ Table.read_write_same .., fun m other => slots ▸ Table.read_write_other _ _ _ other,
      before ▸ Table.read_write_same .., departures⟩

theorem endChange_eq (before : s.beforeImage n = some old) : endChange n ok s =
    let t := s.withRoll (s.roll.written n old (s.person n))
    if ok then t else evalIfMoved (aboardTotal s.roll) (setPerson n old t) := by
  have departures : (if isDeparture old (s.person n) then s.roll.departures - 1 else s.roll.departures) =
      s.roll.departures - if old.state = .aboard ∧ (s.person n).state ≠ .aboard then 1 else 0 := by
    by_cases leaves : old.state = .aboard ∧ (s.person n).state ≠ .aboard
    · rw [if_pos (by simpa [isDeparture] using leaves), if_pos leaves]
    · rw [if_neg (by simpa [isDeparture] using leaves), if_neg leaves, Nat.sub_zero]
  unfold endChange
  rw [before]
  dsimp only
  rw [departures]
  rfl

/-- A slot's new content moves the counts of the roll and of the muster (R71, R107). -/
theorem setPerson_writes (n : Nat) (new : PersonSlot) (s : State) : ∃ a b c d e, setPerson n new s =
    (s.withEmu e).withRoll { s.roll with
      slots := Table.write defaultSlot n new s.roll.slots
      aboardGuests := a, aboardCrew := b, ashoreGuests := c, ashoreCrew := d } := by
  obtain ⟨a, b, c, d, counts⟩ := recount_shape s.roll (s.person n) new
  refine ⟨a, b, c, d, s.emu.remark (s.person n) new, ?_⟩
  simp only [setPerson, State.withEmu_roll, counts]

/-- The end of a slot's change leaves all but the roll, the muster's counts and the warning's notice. -/
theorem endChange_shape (before : s.beforeImage n = some old) : ∃ q e l f, Roll.Settled n old ok s.roll q ∧ Notified s.link l ∧
    endChange n ok s = (((s.withRoll q).withEmu e).withLink l).withFrc f := by
  rw [endChange_eq before]
  cases ok with
  | true => exact ⟨s.roll.written n old (s.person n), s.emu, s.link, s.frc, Roll.settled_of rfl rfl rfl, .refl _, rfl⟩
  | false =>
    obtain ⟨a, b, c, d, e, taken⟩ := setPerson_writes n old (s.withRoll (s.roll.written n old (s.person n)))
    obtain ⟨armed, l, f, notified, evaluated⟩ := evalIfMoved_shape (aboardTotal s.roll)
      (setPerson n old (s.withRoll (s.roll.written n old (s.person n))))
    simp only [Bool.false_eq_true, if_false]
    rw [evaluated]
    rw [taken] at notified ⊢
    exact ⟨_, e, l, f, Roll.settled_of rfl rfl rfl, notified, rfl⟩

end ChangeEnds

/-! ## What the end of a slot write says (R80, R81, R88, R113) -/

/-- The notice of what a slot's write has carried out: a late return, or a person marked whom the roll had ashore (R81, R113). -/
def SlotCause.told (cause : SlotCause) (n : Nat) (s : State) : List Notice :=
  match cause with
  | .crossing lane card .inbound true =>
    [.lateReturn lane card n (s.person n).kind (s.person n).lastTime s.roll.ashoreGuests s.roll.ashoreCrew]
  | .mark portal card true => [.presenceConflict portal card n .ashore]
  | _ => []

/-- The state once that is told, with the fault of a conflict. -/
def SlotCause.tells (cause : SlotCause) (n : Nat) (ok : Bool) (s : State) : State :=
  match cause with
  | .crossing lane card way late =>
    if ok && way = .inbound && late then
      notify (.lateReturn lane card n (s.person n).kind (s.person n).lastTime s.roll.ashoreGuests s.roll.ashoreCrew) s
    else s
  | .correction => s
  | .mark portal card ashore =>
    if ok && ashore then
      report .presenceConflict { portal := some portal, card := some card, person := some n }
        (notify (.presenceConflict portal card n .ashore) s)
    else s

/-- The body of the reply at the end. -/
def SlotCause.body (cause : SlotCause) (n : Nat) (ok : Bool) (s : State) : Body :=
  let r : Result := if ok then .admitted else .storeFault
  match cause with
  | .crossing lane card way _ =>
    .decision { decisionFor ⟨0, lane, card, 0, .gangway⟩ r (some n) s with direction := directionCode (some way) }
  | .correction => .plain (if ok then .done else .storeFault) (if ok then slotFields n s else [])
  | .mark portal card _ => .decision (decisionFor ⟨0, portal, card, 0, .muster⟩ r (some n) s)

section SlotEnds

variable {s : State} {cause : SlotCause} {n : Nat} {ok : Bool}

theorem endSlotWrite_eq (awaits : Option ReqId) : endSlotWrite n cause awaits ok s =
    let t := cause.tells n ok (endChange n ok s)
    replyWaiting awaits (cause.body n ok t) t := by
  cases cause with
  | crossing => rfl
  | correction => cases ok <;> rfl
  | mark => rfl

theorem SlotCause.marks_tells : Marks s (cause.tells n ok s) := by
  cases cause with
  | crossing =>
    unfold SlotCause.tells
    dsimp only
    split
    · exact (notes_notify ..).marks
    · exact .refl _
  | correction => exact .refl _
  | mark =>
    unfold SlotCause.tells
    dsimp only
    split
    · exact (notes_notify ..).marks.trans (notes_report ..).marks
    · exact .refl _

/-- With a slot free, a write that completes tells what it has carried out, ahead of the fault of a conflict. -/
theorem SlotCause.tells_told (room : s.NoticeRoom 1) : ∃ after : List Notice, (∀ x ∈ after, x.Alerts) ∧
    (cause.tells n true s).link.tx = s.link.tx ++ (cause.told n s ++ after).map Frame.notice := by
  have quiet : ∃ after : List Notice, (∀ x ∈ after, x.Alerts) ∧ s.link.tx = s.link.tx ++ ([] ++ after).map Frame.notice :=
    ⟨[], List.forall_mem_nil _, (List.append_nil _).symm⟩
  cases cause with
  | correction => exact quiet
  | crossing lane card way late =>
    cases way with
    | outbound => exact quiet
    | inbound =>
      cases late with
      | false => exact quiet
      | true => exact ⟨[], List.forall_mem_nil _, congrArg (fun t : State => t.link.tx) (notify_room s _ room)⟩
  | mark portal card ashore =>
    cases ashore with
    | false => exact quiet
    | true =>
      obtain ⟨after, _, tx, alerts⟩ := alerted_report .presenceConflict
        { portal := some portal, card := some card, person := some n } (notify (.presenceConflict portal card n .ashore) s)
      rw [notify_room s _ room] at tx
      refine ⟨after, alerts, ?_⟩
      change (report .presenceConflict _ (notify (.presenceConflict portal card n .ashore) s)).link.tx = _
      rw [notify_room s _ room, tx]
      exact List.append_assoc ..

/-- A decision is of the outcome and the person it is asked for. -/
theorem decisionFor_answers (p : Presentation) (r : Result) (person : Option Nat) (s : State) :
    (decisionFor p r person s).outcome = r ∧ (decisionFor p r person s).person = person := by
  unfold decisionFor
  cases p.job <;> exact ⟨rfl, rfl⟩

variable {old : PersonSlot} {awaits : Option ReqId} {t : State}

theorem Marks.roll (x : Marks s t) : t.roll = s.roll := by obtain ⟨_, _, _, _, _, _, rfl⟩ := x; rfl
theorem Marks.store (x : Marks s t) : t.store = s.store := by obtain ⟨_, _, _, _, _, _, rfl⟩ := x; rfl
theorem Marks.notified (x : Marks s t) : Notified s.link t.link := by obtain ⟨_, _, _, _, _, notified, rfl⟩ := x; exact notified
theorem Marks.image (x : Marks s t) : { t.image with marker := none } = { s.image with marker := none } := by
  obtain ⟨_, _, _, _, _, _, rfl⟩ := x
  rfl

/-- The end of a slot write settles the roll, and says notices ahead of the reply (R80, R88, R113). -/
theorem endSlotWrite_settles (before : s.beforeImage n = some old) :
    let t := endSlotWrite n cause awaits ok s
    Roll.Settled n old ok s.roll t.roll ∧ t.store = s.store ∧ { t.image with marker := none } = { s.image with marker := none } ∧
    ∃ (ns : List Notice) (u : State), t.link.tx = s.link.tx ++ ns.map Frame.notice ++
      awaits.toList.map fun id => .reply id (cause.body n ok u) 0 := by
  obtain ⟨q, e, l, f, settled, notified, changed⟩ := endChange_shape (ok := ok) before
  rw [endSlotWrite_eq, changed]
  have marks := SlotCause.marks_tells (cause := cause) (n := n) (ok := ok) (s := (((s.withRoll q).withEmu e).withLink l).withFrc f)
  obtain ⟨ns, tx⟩ := (notified.trans marks.notified).tx
  generalize cause.tells n ok _ = u at marks tx
  obtain ⟨l', f', answered, tx'⟩ := replyWaiting_shape awaits (cause.body n ok u) u
  dsimp only
  rw [answered]
  exact ⟨marks.roll ▸ settled, marks.store, marks.image, ns, u, tx'.trans (by rw [tx])⟩

/-- One that completes tells what it has carried out ahead of its reply (R81, R113). -/
theorem endSlotWrite_told (before : s.beforeImage n = some old) (room : s.NoticeRoom 1) :
    ∃ (after : List Notice) (b : Body), (∀ x ∈ after, x.Alerts) ∧ (endSlotWrite n cause awaits true s).link.tx =
      s.link.tx ++ (cause.told n s ++ after).map Frame.notice ++ awaits.toList.map fun id => .reply id b 0 := by
  have changed : endChange n true s = s.withRoll (s.roll.written n old (s.person n)) := endChange_eq before
  obtain ⟨after, alerts, tx⟩ := SlotCause.tells_told (cause := cause) (n := n)
    (s := s.withRoll (s.roll.written n old (s.person n))) room
  rw [endSlotWrite_eq, changed]
  generalize cause.tells n true _ = u at tx
  obtain ⟨l', f', answered, tx'⟩ := replyWaiting_shape awaits (cause.body n true u) u
  dsimp only
  rw [answered]
  exact ⟨after, cause.body n true u, alerts, tx'.trans (by rw [tx]; rfl)⟩

end SlotEnds

/-- Settles O28: the write leaves the queue (`marks_writeEnded`), the slot's change is settled and its requester answered
(`endSlotWrite_settles`), and what it has carried out is told ahead of the answer (`endSlotWrite_told`). -/
theorem slotWriteEnds : Obligations.SlotWriteEnds := by
  intro s t n x cause awaits rest c second ok old supply queue write before ends carried
  have step := (exec_attemptEnd (ok := ok) supply).symm.trans carried
  rw [attemptEnd_ends queue write ends, endWrite_eq] at step
  have alerted := alerted_writeEnded (s := s) (r := .slot n x cause awaits) (w := ⟨c, second⟩) (ok := ok)
  have marks := marks_writeEnded (s := s) (r := .slot n x cause awaits) (w := ⟨c, second⟩) (ok := ok)
  generalize writeEnded (.slot n x cause awaits) ⟨c, second⟩ ok s = u at step alerted marks
  obtain rfl : endSlotWrite n cause awaits ok u = t := Host.Outcome.next.inj step
  have roll : u.roll = s.roll := marks.roll
  have pending : u.beforeImage n = some old := (congrArg (fun r : Roll => Table.read none r.before n) roll).trans before
  obtain ⟨settled, store, image, ns, v, tx⟩ := endSlotWrite_settles (cause := cause) (awaits := awaits) (ok := ok) pending
  replace store := store.trans marks.store
  replace image := image.trans marks.image
  rw [roll] at settled
  refine ⟨settled.slot, settled.others, settled.before, settled.departures, ?queue, ?write, ?faults, ?answer, ?told, ?image⟩
  case queue => rw [store]; exact congrArg (List.drop 1) queue
  case write => rw [store]; rfl
  case faults => rw [store]; rfl
  case answer =>
    rintro id rfl
    obtain ⟨ms, first⟩ := marks.notified.tx
    refine ⟨ms ++ ns, cause.body n ok v, ?_, ?_⟩
    · rw [tx, first, List.map_append]
      simp
    · cases cause with
      | correction => exact ⟨_, rfl⟩
      | crossing => exact ⟨_, rfl, decisionFor_answers ..⟩
      | mark => exact ⟨_, rfl, decisionFor_answers ..⟩
  case told =>
    rintro rfl room
    obtain ⟨after, b, alerts, tx⟩ := endSlotWrite_told (cause := cause) (awaits := awaits) pending (alerted.room room)
    obtain ⟨first, _, sent, faults⟩ := alerted
    have same : cause.told n u = cause.told n s := by
      unfold SlotCause.told State.person
      rw [roll]
    refine ⟨first, after, awaits.toList.map fun id => .reply id b 0, ?_, fun x mem => ?_, fun x mem => ?_⟩
    · rw [tx, same, sent]
      simp only [List.map_append, List.append_assoc]
      rfl
    · exact (List.mem_append.1 mem).elim (faults x) (alerts x)
    · obtain ⟨id, _, rfl⟩ := List.mem_map.1 mem
      exact ⟨id, b, rfl⟩
  case image =>
    rintro m y rfl
    have slots := congrArg Image.slots image
    have others := congrArg (fun i : Image => { i with slots := [] }) image
    generalize endSlotWrite n cause awaits ok u = t at slots others
    cases ok with
    | false => exact ⟨congrArg (Table.read _ · m) slots, fun k _ => congrArg (Table.read _ · k) slots, others⟩
    | true =>
      exact ⟨(congrArg (Table.read _ · m) slots).trans (Table.read_write_same ..),
        fun k other => (congrArg (Table.read _ · k) slots).trans (Table.read_write_other _ _ _ other), others⟩

end Sys2Proof.Machine
